-- ==== Sys2Proof/Word.lean ====
section
/-! DEFINITION. Machine words and sparse maps: the plainest types and arithmetic, used by every other file.
A sparse map is a list of (key, value) pairs in one canonical form: keys strictly rising, and no value equal to
what an unlisted key reads as, so that equal contents are equal data. -/

namespace Sys2Proof

abbrev Byte := BitVec 8
abbrev W16 := BitVec 16
abbrev W32 := BitVec 32
abbrev W64 := BitVec 64
/-- A 64 B line (R61, R150), bits [8j+7:8j] holding byte j (R8). -/
abbrev Line := BitVec 512

/-- A sparse map from Nat keys; a key that is not listed reads as a default the user names. -/
abbrev Map (α : Type) := List (Nat × α)

/-- What key `k` holds: the listed value, or `d`. -/
def Map.get {α : Type} (d : α) : Map α → Nat → α
  | [], _ => d
  | (k', v) :: t, k => if k = k' then v else Map.get d t k

/-- Remove whatever stands at key `k`. -/
def Map.erase {α : Type} (m : Map α) (k : Nat) : Map α := m.filter fun e => e.1 != k

/-- Put an entry in front of the first greater key. -/
def Map.insert {α : Type} (k : Nat) (v : α) : Map α → Map α
  | [] => [(k, v)]
  | (k', v') :: t => if k < k' then (k, v) :: (k', v') :: t else (k', v') :: Map.insert k v t

/-- Write `v` at key `k`, keeping the canonical form: writing the default removes the entry. -/
def Map.set {α : Type} [DecidableEq α] (d : α) (m : Map α) (k : Nat) (v : α) : Map α :=
  if v = d then Map.erase m k else Map.insert k v (Map.erase m k)

/-- Change the value at key `k` by `f`. -/
def Map.upd {α : Type} [DecidableEq α] (d : α) (m : Map α) (k : Nat) (f : α → α) : Map α :=
  Map.set d m k (f (Map.get d m k))

/-- The canonical form from key `lo` on: keys rise strictly from `lo`, no entry holds the default. -/
def Map.wfFrom {α : Type} [DecidableEq α] (d : α) : Nat → Map α → Bool
  | _, [] => true
  | lo, (k, v) :: t => decide (lo ≤ k) && decide (v ≠ d) && Map.wfFrom d (k + 1) t

/-- The canonical form of a sparse map. -/
def Map.wf {α : Type} [DecidableEq α] (d : α) (m : Map α) : Bool := Map.wfFrom d 0 m

/-- Add one to a counter of width `w` that saturates at all ones (R426). -/
def satInc {w : Nat} (x : BitVec w) : BitVec w := if x = BitVec.allOnes w then x else x + 1

/-- Add `n` to a saturating counter. -/
def satAdd {w : Nat} (x : BitVec w) (n : Nat) : BitVec w :=
  if x.toNat + n < 2 ^ w then BitVec.ofNat w (x.toNat + n) else BitVec.allOnes w

/-- Bits [lo+w-1:lo] of a number, as a number. -/
def bits (x lo w : Nat) : Nat := (x >>> lo) % 2 ^ w

/-- Bit `i` of a number. -/
def bit (x i : Nat) : Bool := x.testBit i

/-- A `w`-bit field read as two's complement. -/
def signedField (w x : Nat) : Int := if x % 2 ^ w < 2 ^ (w - 1) then (x % 2 ^ w : Nat) else ((x % 2 ^ w : Nat) : Int) - (2 ^ w : Nat)

/-- The number that little-endian bytes spell (R8). -/
def leNat : List Byte → Nat
  | [] => 0
  | b :: t => b.toNat + 256 * leNat t

/-- The `n` little-endian bytes of a number (R8). -/
def leBytes : Nat → Nat → List Byte
  | 0, _ => []
  | n + 1, x => BitVec.ofNat 8 x :: leBytes n (x / 256)

/-- A Bool as 0 or 1. -/
def b2n (b : Bool) : Nat := if b then 1 else 0

/-- Byte `j` of a line. -/
def Line.byte (l : Line) (j : Nat) : Byte := BitVec.ofNat 8 (l.toNat >>> (8 * j))

/-- The 64 bytes of a line. -/
def Line.bytes (l : Line) : List Byte := leBytes 64 l.toNat

/-- A line from its bytes, missing bytes zero. -/
def Line.ofBytes (bs : List Byte) : Line := BitVec.ofNat 512 (leNat (bs.take 64))

/-- Cut a list into pieces of `n`, with `fuel` pieces at most. -/
def chunks {α : Type} (n : Nat) : Nat → List α → List (List α)
  | 0, _ => []
  | fuel + 1, l => if l.isEmpty then [] else l.take n :: chunks n fuel (l.drop n)

end Sys2Proof
end

