-- ==== Sys2Proof/Syntax.lean ====
section
/-! DEFINITION. The commands of the block: one constructor of `Instr` for each row of spec/opcode_table.json, and the
records that arrive with them (transport units, frames, blocks, readings). The operands are what comes from outside
the block; everything else a command needs is in the state. -/

namespace Sys2Proof

/-- What the equalization of a port's lanes came to (R284): the lanes whose receiver at this end has adapted, those whose receiver asks
for precoding, and the last control words of the peer. -/
structure Adapted where
  ready : BitVec 5 := 0
  precode : BitVec 5 := 0
  words : List (BitVec 128) := []
  deriving DecidableEq, Repr

/-- Fields of a cell body by CTYPE (Tables 12.4, 8.9, 13.1). -/
inductive Cell where
  | ack (ackedSeq : W32) (status : Nat) (echo : Bool) (ackCc : Nat)
  | cnp (seq : W32) (cls : Nat)
  | timeReq (xid : W32)
  | timeRsp (xid : W32) (t2 t3 : W64)
  | cancel (req : Nat) (tag : W16)
  | cancelResult (req : Nat) (tag : W16) (result : Nat)
  | slotSet (part slot req : Nat) (qpos : Nat) (occ : Bool) (state nin step : Nat)
  | stepDone (part count step : Nat)
  | heatAbort (heatNo : W32) (pcid : W16) (cause : Byte)
  | pfDigest (heatNo : W32) (lap : W32) (ld : W64)
  | mirrorDone (step : W64) (count : Nat)
  deriving DecidableEq, Repr

/-- TYPE of a transport unit (Table 12.2). -/
inductive UKind where
  | put | get | getrsp | cell
  deriving DecidableEq, Repr

/-- A transport unit: the common header of Table 12.2, the packet extension of Table 12.3, and payload or cell body. -/
structure XUnit where
  kind : UKind := .put
  planned : Bool := false
  ackReq : Bool := false
  resend : Bool := false
  ce : Bool := false
  dstPart : Nat := 0
  srcPart : Nat := 0
  loc : Bool := false
  mir : Bool := false
  dstId : W16 := 0
  srcId : W16 := 0
  dstEpoch : W16 := 0
  seq : W32 := 0
  stamp : W32 := 0
  addr : Nat := 0
  srcEpoch : W16 := 0
  raddr : Nat := 0
  len : Nat := 0
  dstCc : Nat := 0
  ackCc : Nat := 0
  status : Nat := 0
  wslot : Nat := 0
  payload : List Byte := []
  body : Cell := .ack 0 0 false 0
  /-- its reserved bits, at their places in the packet extension or the cell body (R299) -/
  resv : Nat := 0
  deriving DecidableEq, Repr

/-- Control blocks by SUBTYPE (Table 11.5); `reserved` is a SUBTYPE or field value that the table does not define. -/
inductive Control where
  | ka (limReq limRsp limSh kaCnt : W32)
  | ident (major minor : Byte) (genMask : Byte) (portId : W64) (device : W16) (host precode : Bool)
  | chgReq (reqId : Byte) (kind : Nat) (mask : BitVec 5) (width : Nat) (portId : W64) (attempt : Nat)
  | chgRefuse (reqId : Byte) (reason : Nat)
  | chgAbort (reqId : Byte) (portId : W64) (attempt : Nat)
  | reserved
  deriving DecidableEq, Repr

/-- A link block of a slot (Table 11.4); `reserved` is KIND 3. -/
inductive Block where
  | idle
  | data (cls : Nat) (shared rpl exr : Bool) (seq : W16) (payload : List Byte)
  | control (c : Control)
  | reserved
  deriving DecidableEq, Repr

/-- A frame: the header of Table 11.2 and five slots (Table 11.1). `resv` says in how many of its header, block
headers and control blocks a reserved bit is not zero. -/
structure Frame where
  ackSeq : W16 := 0
  ackV : Bool := false
  nak : Bool := false
  crSel : Nat := 3
  crLow : BitVec 20 := 0
  slots : List Block := []
  resv : Nat := 0
  deriving DecidableEq, Repr

/-- An alignment marker as received on one physical lane (Table 11.3). -/
structure Marker where
  llane : Nat := 0
  width : Nat := 4
  mapEpoch : BitVec 4 := 0
  amCount : W16 := 0
  crcOk : Bool := true
  /-- how many lanes of the direction are marked logical by the markers of this group -/
  logical : Nat := 4
  deriving DecidableEq, Repr

/-- What the receivers of a port have measured in PRBS mode, by physical lane: bit errors, and the vertical and horizontal eye
margins in 0.1 mV and 0.001 UI (Table 11.11). -/
structure PrbsSeen where
  errors : List Nat := []
  height : List Nat := []
  eye : List Nat := []
  deriving DecidableEq, Repr

/-- Conditions of R403 as measured: the three core rails in mV, generator locks, the junction range. -/
structure StCond where
  vddOk : Bool := true
  refOk : Bool := true
  tempOk : Bool := true
  deriving DecidableEq, Repr

/-- What a self-test measured (Table 17.5). -/
structure StOutcome where
  pass : Bool := true
  durationUs : Nat := 0
  coverage : Nat := 10000
  fails : Nat := 0
  first : W64 := 0
  measure : List Byte := []
  deriving DecidableEq, Repr

/-- Fuse contents given with a JTAG manufacture request (R386). -/
structure MfgFuses where
  serial : BitVec 48 := 0
  grade176 : Bool := false
  tileFuses : BitVec 208 := 0
  vendorHash : List (BitVec 512) := []
  deriving DecidableEq, Repr

/-- What bring-up finds on one channel (R145, R168). -/
structure ModuleInfo where
  /-- 0 none, 1 MRDIMM, 2 RDIMM -/
  cls : Nat := 0
  /-- the SPD lists 12,800; 8,800; 6,400 MT/s -/
  grades : List Nat := []
  /-- Table 19.6 CAP code -/
  cap : Nat := 0
  ranks4 : Bool := false
  x4 : Bool := true
  phyOk : Bool := true
  trainOk : Bool := true
  marginRd : W32 := 0
  marginWr : W32 := 0
  marginCa : W32 := 0
  fillOk : Bool := true
  deriving DecidableEq, Repr

/-- Where an unplanned access goes (R158). -/
inductive Access where
  | read (offset : Nat)
  | write (offset : Nat) (data : Line)
  deriving DecidableEq, Repr

/-- The path a register write arrives on: a host-mode port, the marshal or running firmware, JTAG register access. -/
inductive Src where
  | host (h : Nat)
  | marshal
  | jtag
  deriving DecidableEq, Repr

/-- The commands: one constructor per row of spec/opcode_table.json, in the table's order. `p` is a pacer identity
(Table 4.1), `k` a partition, `c` a channel, `i` a port (Table 14.3: 24 is H0, 25 is H1; 31 for a unit this device addressed to itself), `g` a generator index
(Table 14.3); the `n` of a pacer operation is its issue number under a repeat (R90), 0 for the stride's own issue. -/
inductive Instr where
  | aonPowerUp
  | resetNLow (ns : Nat)
  | deviceReset
  | resetRelease (straps : Byte)
  | generatorLockWaitEnd (locked : BitVec 31)
  | startingGun
  | sagWarn (rail : Nat) (mvE mvW mvIo : Nat)
  | crashRecordDone (railsHeld : Bool)
  | sagEpisodeEnd
  | sagReset (rail : Nat)
  | aonRailLoss
  | thermalTrip (sensor : Nat)
  | marshalWdt
  | refLoss
  | fwGo
  | firmwareVerifyDone
  | entFail
  | svnReq (n : Nat) (fuseOk : Bool)
  | jtagFuseManufacture (f : MfgFuses) (fuseOk : Bool)
  | lcReqProvisioned (drill debug : BitVec 512) (fuseOk : Bool)
  | lcReqDeployed (fuseOk : Bool)
  | lcReqReturned (fuseOk : Bool)
  | lcReqScrapped (fuseOk : Bool)
  | lcReqRevoke (fuseOk : Bool)
  | lcReqSettle
  | jtagScrap (token : List Byte) (fuseOk : Bool)
  | dbgTokenPresent (viaJtag : Option (List Byte)) (hi : W32)
  | attGo
  | attestSnapshot
  | hostScopeWrite (h : Nat) (v : BitVec 9) (device : Bool)
  | stTokenPresent (hi : W32)
  | stGo
  | lscanRegion (cond : StCond)
  | lscanTile (cond : StCond)
  | tileMem (cond : StCond)
  | bmeMem (cond : StCond)
  | reqtabMem (cond : StCond)
  | portMem (cond : StCond)
  | sdNear (cond : StCond)
  | sdFar (cond : StCond)
  | ddrLoop (cond : StCond)
  | ddrMargin (cond : StCond)
  | genLock (cond : StCond)
  | droopCal (cond : StCond)
  | tempXchk (cond : StCond)
  | adcRef (cond : StCond)
  | stConditionCheck (cond : StCond) (o : StOutcome)
  | stPreempt (o : StOutcome)
  | stTestEnd (o : StOutcome)
  | loadGo
  | loadGateServe
  | placementDone (k : Nat)
  | altMapCompute (k : Nat)
  | bankRefill (k : Nat)
  | bankRefillDone (k : Nat)
  | partGo
  | groupZeroFillDone (k : Nat)
  | teardownDrainDone (k : Nat)
  | startGo (k : Nat)
  | heatStart (k : Nat)
  | regionUngate (k : Nat)
  | partitionStart (k : Nat)
  | nop (p : Nat)
  | ldesc (p : Nat)
  | start (p : Nat)
  | setcnt (p : Nat)
  | setcmp (p : Nat)
  | swap (p : Nat)
  | trace (p : Nat)
  | frame (p : Nat)
  | step (p : Nat)
  | halt (p : Nat)
  | endRun (p : Nat)
  | loopBegin (p : Nat)
  | loopEnd (p : Nat)
  | waitResolve (p : Nat)
  | waitWindowExpiry (p : Nat)
  | commit (k : Nat)
  | abort (p : Nat)
  | abortedRecordWrite (k : Nat)
  | rdb (p n : Nat)
  | wrb (p n : Nat)
  | pass (p n : Nat)
  | bankMode (p : Nat)
  | readout (p : Nat)
  | ladd (p : Nat)
  | vadd (p : Nat)
  | vsub (p : Nat)
  | vmul (p : Nat)
  | vfma (p : Nat)
  | vmin (p : Nat)
  | vmax (p : Nat)
  | vabs (p : Nat)
  | vneg (p : Nat)
  | vmov (p : Nat)
  | vcvt (p : Nat)
  | vqnt (p : Nat)
  | vredadd (p : Nat)
  | vredmax (p : Nat)
  | vbcast (p : Nat)
  | vexp2 (p : Nat)
  | vrcp (p : Nat)
  | vrsq (p : Nat)
  | vlog (p : Nat)
  | qload (p n : Nat)
  | openScan (p : Nat)
  | page (p : Nat)
  | emit (p : Nat)
  | drdPattern (p n : Nat)
  | drdBmeScan (p n : Nat)
  | dwrPattern (p n : Nat)
  | dwrAppend (p n : Nat)
  | dref (p : Nat)
  | dramLineDelivery (c : Nat)
  | unplannedAccess (c : Nat) (a : Access) (wait : Nat)
  | scrub (c : Nat)
  | refreshDebtTick (c : Nat)
  | selfRefresh (c : Nat)
  | moduleTempRead (c : Nat) (celsius : Int)
  | channelBringUp (modules : List ModuleInfo)
  | psend (p n : Nat)
  | pdlv (p : Nat)
  | qxfer (p : Nat)
  | plannedPutComplete (i : Nat) (u : XUnit)
  | flitDelivery (node : Nat)
  | relaySlip (r : Nat) (early : Bool)
  | droopDetect (g : Nat)
  | lapSnapshot
  | lapMark
  | opLapWrite (src : Src) (hi : W32)
  | regulatorSettled (fault : Bool)
  | timeSet (hi : W32)
  | rateAdjWrite (v : W32)
  | timeInEdge
  | timeOutPulse
  | timeExchange
  | timeReq (i : Nat) (u : XUnit)
  | timeRsp (i : Nat) (u : XUnit)
  | timeExchangeVoid
  | powerSample (railsDw : Nat) (partsDw : List Nat)
  | monitorCalibrate
  | forecastEval
  | lsfDeassert (west : Bool)
  | thermalSample (readings : List Int)
  | coolantSensorRead (inlet outlet : Option Int)
  | frameWake (k : Nat)
  | fillTimeout (k : Nat)
  | faultEventWrite
  | partReset (k : Nat) (capture : Bool)
  | partitionResetDone (k : Nat)
  | retestDone (k : Nat) (failed : Bool)
  | stallTimerExpiry (p : Nat)
  | journalUpdate (ok : Bool)
  | jclrGo
  | reqtabWordWrite (srcId : W16) (i : Nat) (entry word : Nat) (v : W64)
  | stepBoundary (k : Nat)
  | cancelReq (tag : W16)
  | cancelDeferredServe (k : Nat)
  | tenData3Write (v : W32)
  | put (i : Nat) (u : XUnit)
  | get (i : Nat) (u : XUnit)
  | getrsp (i : Nat) (u : XUnit)
  | ack (i : Nat) (u : XUnit)
  | cnp (i : Nat) (u : XUnit)
  | cancel (i : Nat) (u : XUnit)
  | cancelResult (i : Nat) (u : XUnit)
  | slotSet (i : Nat) (u : XUnit)
  | stepDone (i : Nat) (u : XUnit)
  | heatAbort (i : Nat) (u : XUnit)
  | pfDigest (i : Nat) (u : XUnit)
  | mirrorDone (i : Nat) (u : XUnit)
  | planLapEnd (k : Nat)
  | streamEntryExpiry (source : Bool) (idx : Nat)
  | rateRecover (idx : Nat)
  | routeDataWrite (v : W16)
  | myIdWrite (v : W16)
  | ccClr (k : Nat)
  | drillAddrSubmit (hi : W32)
  | linkSym (n : Nat)
  | linkAck (n : Nat) (nak : Bool)
  | kaHold (n : Nat)
  | laneLoss
  | eccSingle (n : Nat)
  | eccDouble
  | eccDevice (n : Nat)
  | pacerStuck
  | portEnable (i : Nat) (v : Bool)
  | portResetReq (i : Nat)
  | tileResetReq (t : Nat)
  | quiesce (slot : Nat) (v : Bool)
  | peerSignalDetect (i : Nat) (lanes : BitVec 5)
  | equalizeDone (i : Nat) (rxReady rxPrecode : BitVec 5) (words : List (BitVec 128))
  | equalizeTimeout (i : Nat)
  | alignTimeout (i : Nat)
  | identifyTimeout (i : Nat)
  | initTimeout (i : Nat)
  | frameReceive (i : Nat) (f : Frame) (errs0 errs1 spareErrs : List Nat)
  | frameTransmit (i : Nat)
  | alignmentMarker (i lane : Nat) (m : Marker)
  | ka (i : Nat) (c : Control)
  | kaSend (i : Nat)
  | ident (i : Nat) (c : Control)
  | keepaliveTimeout (i : Nat)
  | autoRetry (i : Nat)
  | replayTimeout (i : Nat)
  | laneFault (i : Nat) (mask : BitVec 5)
  | chgReq (i : Nat) (c : Control)
  | chgRefuse (i : Nat) (c : Control)
  | chgAbort (i : Nat) (c : Control)
  | chgReqRepeat (i : Nat)
  | changeTimeout (i : Nat)
  | equalIdRetry (i : Nat)
  | exrPrbs (i : Nat) (seen : PrbsSeen)
  | exrLoop (i : Nat)
  | exrTraffic (i : Nat)
  | exrCheck (i : Nat)
  | injectSymbolErrors (i : Nat)
  | injectAckvClear (i : Nat)
  | injectNak (i : Nat)
  | injectKaWithhold (i : Nat)
  | injectLaneIdle (i : Nat)
  | cntClr (slot : Nat)
  | intRawW1c (slot : Nat) (v hwSet : W32)
  | intSet (slot : Nat) (v : W32)
  | errClr (slot : Nat)
  | traceRingWrite (p : Nat)
  | registerWrite (src : Src) (addr : Nat) (v : W32)
  | sidebandStatus (pecOk : Bool)
  | sidebandSerial (pecOk : Bool)
  | sidebandTemps (pecOk : Bool)
  | sidebandRails (pecOk : Bool)
  | devReset (pecOk : Bool) (v : W16)
  | flowMax (pecOk : Bool) (v : Byte)
  | smbusAlertResponse
  | sagWarnNRelease (rail : Nat)
  | entropyHealthPass
  | retrainEqualizeEnd (i : Nat) (got : Adapted)
  | idlePathLock (g : Nat)
  | unitStale (i : Nat) (idx : Nat)
  | laneLossRelease (i : Nat)
  deriving DecidableEq, Repr

end Sys2Proof
end

