-- ==== Sys2Proof/Decode.lean ====
section
/-! DEFINITION. The opcode table gives no bits to any row: a command has no encoding of words, so no word spells one. -/

namespace Sys2Proof

/-- The command a word spells by the table's bits: no row of spec/opcode_table.json gives bits, so none. -/
def decodeTableWord (_nbits _w : Nat) : Option Instr := none

end Sys2Proof
end

