-- ==== Sys2Proof/Config.lean ====
section
/-! DEFINITION. What an implementation fixes and what the spec leaves open: opaque constants with no body, so that no
proof can see a value (DESIGN CHOICE and PRESUMED, log entries 5, 7, 11, 12, 19, 33). A statement about a free value holds for every value. -/

namespace Sys2Proof.Config

/-- The free value number `n` of a run (DESIGN CHOICE, log entry 5): applied to the counter `Device.freeCtr`. -/
opaque freeNat : Nat → Nat

/-- ML-DSA-87 verification with an empty context (FIPS 204; PRESUMED, log entry 11): public key, message, signature. -/
opaque mldsaVerify : List Byte → List Byte → List Byte → Bool

/-- ML-DSA-87 signature by the identity key derived from a seed (R391, R396; PRESUMED, log entry 11). -/
opaque mldsaSign : BitVec 256 → List Byte → List Byte

/-- ML-DSA-87 public key derived from ID_SEED (R391, R395; PRESUMED, log entry 11). -/
opaque mldsaPub : BitVec 256 → List Byte

/-- The special-function reference models (R81; DESIGN CHOICE, log entry 12): which of the values within the bound of Table 3.6 an
operation gives, by operation and input bits. -/
opaque sfuChoice : Nat → BitVec 32 → Nat

/-- Fused setpoint V_OP of a core rail at an operating point, in mV above the low end of Table 15.2 (R368; DESIGN CHOICE, log entry 7). -/
opaque vopStep : Nat → Nat → Nat

/-- The 384 bits that the entropy source gives for seeding number `n` of the random bit generator (R393; DESIGN CHOICE, log entry 11). -/
opaque entropy : Nat → BitVec 384

/-- The BME, store and word that an address of a reserved range of Table 6.2 names as the target of a drill, if any (R339; DESIGN CHOICE,
log entry 19). -/
opaque bmeWord : Nat → Option (Nat × Nat × Nat)

/-- Where the load gate keeps a map record, by partition, image address and measurement (R178, R185; DEDUCED, log entry 33). -/
opaque mapPlace : Nat → Nat → BitVec 512 → Nat

end Sys2Proof.Config
end

