-- ==== Sys2Proof/Machine/Sha3.lean ====
section
/-! DEFINITION. SHA3-512 (FIPS 202, an outside standard the spec names; PRESUMED, log entry 11), over lists of bytes. Byte 0 of the
digest is the least significant byte of the number, as R56 stores it. The state is five planes of five 64-bit numbers. -/

namespace Sys2Proof.Machine.Sponge

/-- A cyclic shift of a list: element `i` is the old element `i + n`. -/
def turn (n : Nat) (l : List Nat) : List Nat := l.drop n ++ l.take n

/-- A 64-bit number turned left by `r` places. -/
def spin (r a : Nat) : Nat := (a <<< r ||| a >>> (64 - r)) % 2 ^ 64

/-- Two rows joined place by place by exclusive or. -/
def plus (a b : List Nat) : List Nat := List.zipWith Nat.xor a b

/-- How far the lane in column `x` of plane `y` turns. -/
def reach (x y : Nat) : Nat :=
  match y with
  | 0 => [0, 1, 62, 28, 27].getD x 0
  | 1 => [36, 44, 6, 55, 20].getD x 0
  | 2 => [3, 10, 43, 25, 39].getD x 0
  | 3 => [41, 45, 15, 21, 8].getD x 0
  | _ => [18, 2, 61, 56, 14].getD x 0

/-- The constant of a round, from the seven bits of the shift register that fall to it: bit `j` stands at place 2^j - 1. -/
def constant (code : Nat) : Nat := (List.range 7).foldl (fun n j => if code.testBit j then n + 2 ^ (2 ^ j - 1) else n) 0

/-- The register's bits, seven to a round. -/
def codes : List Nat :=
  [1, 26, 94, 112, 31, 33, 121, 85] ++ [14, 12, 53, 38, 63, 79, 93, 83] ++ [82, 72, 22, 102, 121, 88, 33, 116]

/-- Every column takes the parities of its two neighbours, the right one turned by a place. -/
def columns (planes : List (List Nat)) : List (List Nat) :=
  let parity := planes.foldl plus [0, 0, 0, 0, 0]
  planes.map (plus (plus (turn 4 parity) ((turn 1 parity).map (spin 1))))

/-- The lanes turn and change places: the lane that reaches column `x` of plane `y` comes from column x + 3y of plane `x`. -/
def scatter (planes : List (List Nat)) : List (List Nat) :=
  (List.range 5).map fun y => (planes.zip (List.range 5)).map fun p =>
    let x := (p.2 + 3 * y) % 5
    spin (reach x p.2) (p.1.getD x 0)

/-- Along a plane a lane takes the lane two to its right where its neighbour's bit is clear. -/
def fold3 (plane : List Nat) : List Nat :=
  plus plane (List.zipWith (fun b c => Nat.land (Nat.xor b (2 ^ 64 - 1)) c) (turn 1 plane) (turn 2 plane))

/-- One round with its constant. -/
def round (planes : List (List Nat)) (code : Nat) : List (List Nat) :=
  List.zipWith plus ((scatter (columns planes)).map fold3) ((constant code :: [0, 0, 0, 0]) :: List.replicate 4 [0, 0, 0, 0, 0])

/-- Take in one block of 72 bytes: nine lanes. -/
def absorb (planes : List (List Nat)) (block : List Byte) : List (List Nat) :=
  let n := leNat block
  codes.foldl round (List.zipWith plus planes ((List.range 5).map fun y => (List.range 5).map fun x =>
    if 5 * y + x < 9 then bits n (64 * (5 * y + x)) 64 else 0))

/-- What follows a message whose last block holds `r` bytes: the domain bits 01 and the padding. -/
def tail (r : Nat) : List Byte := if r = 71 then [0x86] else (0x06 :: List.replicate (70 - r) 0) ++ [0x80]

end Sys2Proof.Machine.Sponge

namespace Sys2Proof.Machine

/-- SHA3-512 of a message: the first eight lanes once every block has been taken in. -/
def sha3_512 (bs : List Byte) : BitVec 512 :=
  let blocks := chunks 72 (bs.length / 72 + 1) (bs ++ Sponge.tail (bs.length % 72))
  let planes := blocks.foldl Sponge.absorb (List.replicate 5 (List.replicate 5 0))
  BitVec.ofNat 512 ((planes.flatten.take 8).foldr (fun lane n => lane + 2 ^ 64 * n) 0)

end Sys2Proof.Machine
end

