-- ==== Sys2Proof/Machine/State.lean ====
section
/-! DEFINITION. The state of the block: plain data, every piece the spec gives the machine (INVENTORY.md lists each
with its rule and reset value), the queue of waiting commands, the stop reasons, and the state after reset. -/

namespace Sys2Proof.Machine

/-- Stop reasons of a step. The spec's own faults (R342) are records and actions, effects on `State`; no command of this
block stops the machine, so this type names only the case that the model reaches for a command it cannot place. -/
inductive Fault where
  /-- Raised by no meaning: kept as the one closed reason a stop could carry. Safe: it would only lose behaviours. -/
  | unreachable
  deriving DecidableEq, Repr

/-- Refusals. -/
inductive Refusal where
  /-- Raised by `exec` for a command that has no meaning yet. Safe: the machine stops where the hardware goes on. -/
  | notModelled (mnemonic : String)
  deriving DecidableEq, Repr

/-! ### Register pages (R417) -/

/-- The writable part of the common header of one register page (Table 18.2), at its reset value. -/
structure PageHdr where
  quiesce : Bool := false
  inReset : Bool := false
  intRaw : W32 := 0
  intEn : W32 := 0
  /-- an INT event was sent and INT_STAT has not been zero since (R423) -/
  intSent : Bool := false
  errCnt : W16 := 0
  errFirst : W16 := 0
  errBib : W32 := 0
  /-- HI as latched by the last read of a LO register (R16) -/
  hiLatch : W32 := 0
  deriving DecidableEq, Repr

/-! ### Clocks (chapter 09) and power states (chapter 15) -/

/-- Power state of a compute region (Table 15.3). -/
inductive RegPower where
  | gated | fill | run
  deriving DecidableEq, Repr

/-- A pace region (R213) with its generator, detector and page. -/
structure Region where
  droopThr : Nat := 8
  stretchCnt : W32 := 0
  runLimitCnt : W32 := 0
  slipCnt : W32 := 0
  /-- D, accumulated delay in phase steps (R228) -/
  delay : Nat := 0
  snap : Nat := 0
  /-- consecutive stretched periods up to the last cycle that has ended (R220) -/
  run : Nat := 0
  /-- delay added at the ends of the last cycles: cycle and phase steps -/
  late : List (Nat × Nat) := []
  /-- cycles, this one or later, whose period the region is asked to stretch (R219, R221) -/
  asked : List Nat := []
  path : Bool := false
  idleOp : Option Nat := none
  idleLocked : Bool := false
  locked : Bool := false
  failed : Bool := false
  power : RegPower := .gated
  deriving DecidableEq, Repr

/-- The always-on sequencer's place in the starting gun (R231). -/
inductive Gun where
  | inReset | lockWait | relock | armed | fired
  deriving DecidableEq, Repr

/-- What a staggered start prepares (R370, R371). -/
inductive Purpose where
  | start | frame
  deriving DecidableEq, Repr

/-- A staggered start under way: regions still to ungate, in ascending index order (R371). -/
structure Stagger where
  part : Nat := 0
  left : List Nat := []
  purpose : Purpose := .start
  lastAt : Nat := 0
  /-- the lap that begins at the mark it prepares, as foreseen when it began; none for firmware's own (R371) -/
  lap : Option Nat := none
  deriving DecidableEq, Repr

/-- A relay (R223): the flits written into it, each with its sender cycle, and SLIPPED. Slot s holds the entry of the latest
sender cycle w with w mod 16 = s, VALID when that cycle is listed. -/
structure Relay where
  entries : List (Nat × BitVec 1024) := []
  slipped : Bool := false
  deriving DecidableEq, Repr

/-- Clock control page, regions and relays. -/
structure Clock where
  opCur : Nat := 4
  opNext : Nat := 4
  opPend : Bool := false
  opLap : Nat := 0
  opLapLo : W32 := 0
  opFailCnt : W32 := 0
  opChangedAt : Nat := 0
  cycStamp : Bool := false
  lap : Nat := 0
  lapCyc : Nat := 0
  /-- the model's own count of TKCLK ticks (625 ps) since the always-on rail rose (DESIGN CHOICE, log entry 1) -/
  now : Nat := 0
  /-- remainder of pace periods against TKCLK, in quarters of a reference cycle (DESIGN CHOICE, log entry 1) -/
  phase : Nat := 0
  gun : Gun := .lockWait
  regions : Map Region := []
  /-- the relays, by identity (R226) -/
  relays : Map Relay := []
  /-- cycles of Q that the governor has asked for (R375) -/
  govAsked : List Nat := []
  /-- split of the last lap mark (R230) -/
  markSplit : W64 := 0
  /-- user mask of each relay: the partitions and PCIDs with a planned crossing (R225, R346) -/
  users : Map (List (Nat × W16)) := []
  staggers : List Stagger := []
  deriving DecidableEq, Repr

/-- An exchange with the time parent in flight (R239). -/
structure Exchange where
  xid : W32 := 0
  port : Nat := 0
  t1 : W64 := 0
  sentNow : Nat := 0
  replayed : Bool := false
  /-- it has gone unanswered for more than 2 × TX_PERIOD, and has been reckoned as missing (R240) -/
  missed : Bool := false
  deriving DecidableEq, Repr

/-- Timekeeper page (Table 19.11) and servo state (R239 to R241). -/
structure Timekeeper where
  time : W64 := 0
  frac : W32 := 0
  rateAdj : Int := 0
  setLo : W32 := 0
  acc : Int := 0
  valid : Bool := true
  refLoss : Bool := false
  locked : Bool := false
  onAlt : Bool := false
  parent : Nat := 31
  alt : Nat := 31
  txPeriod : Nat := 3
  tinDisc : Bool := false
  gunSplit : W64 := 0
  tinSplit : W64 := 0
  tinPeriod : W64 := 0
  toutPhase : W64 := 0
  toutPeriod : W64 := 0
  tinCnt : W32 := 0
  voidCnt : W32 := 0
  /-- exchanges sent and not yet answered or void (R239, R240) -/
  exchs : List Exchange := []
  /-- when the last exchange began -/
  lastExch : Nat := 0
  nextXid : W32 := 0
  /-- consecutive exchanges with |theta| at most 16 -/
  goodRun : Nat := 0
  /-- consecutive void or missing exchanges -/
  badRun : Nat := 0
  /-- good exchanges on TIME_PARENT while on TIME_ALT (R240) -/
  backRun : Nat := 0
  delay : Int := 0
  fracLatch : W32 := 0
  /-- TIME up to which edges of TIME_OUT have been raised; the pin stays high for 1,600 units after each (R237) -/
  outDone : W64 := 0
  /-- the split at which a disciplined root expects the next TIME_IN edge (R237) -/
  tinExpect : Option W64 := none
  deriving DecidableEq, Repr

/-! ### Security, boot and self-test (chapters 16, 17) -/

/-- Fuses (R385, R389, R386), as they read. -/
structure Fuses where
  /-- the life-cycle row: step i in the two redundant bits 2i and 2i + 1 -/
  row : BitVec 32 := 0
  /-- the SCRAP fuse pair -/
  scrapPair : BitVec 2 := 0
  serial : BitVec 48 := 0
  grade176 : Bool := false
  stepB0 : Bool := false
  tileFuses : BitVec 208 := 0
  vendorHash : Map (BitVec 512) := []
  revoke : BitVec 4 := 0
  /-- FW_SVN, a thermometer -/
  svnBits : BitVec 64 := 0
  idSeed : Option (BitVec 256) := none
  drillHash : BitVec 512 := 0
  debugHash : BitVec 512 := 0
  deriving DecidableEq, Repr

/-- An attestation request as it stands at ATT_GO (R396). -/
structure AttReq where
  nonce : BitVec 512 := 0
  dest : W64 := 0
  part : Nat := 0
  epoch : W16 := 0
  deriving DecidableEq, Repr

/-- What waits for the teardown of every partition: a life-cycle transition (R388) or an unlock (R400). -/
inductive LcWait where
  | returned | scrapped
  /-- the JTAG SCRAP instruction (R398) -/
  | jtag
  /-- an accepted unlock and its SCOPE (R400) -/
  | unlock (scope : BitVec 4)
  deriving DecidableEq, Repr

/-- Who asked for a key while the entropy source fails (R393). -/
inductive KeyWait where
  | partition (k : Nat)
  | device
  | seed (drill debug : BitVec 512)
  deriving DecidableEq, Repr

/-- The CTR_DRBG (R393): key, counter block, and requests since it was last seeded, of which 2^20 make the next one seed it first; how
often it has been seeded is the model's own. -/
structure Drbg where
  key : BitVec 256 := 0
  v : BitVec 128 := 0
  count : Nat := 1048576
  seeds : Nat := 0
  deriving DecidableEq, Repr

/-- Security page (Table 19.14), boot ROM state and keys. Keys are named by identities, whose bits
`keys` holds; no register shows them (R397). -/
structure Security where
  debug : Bool := false
  scope : BitVec 4 := 0
  lcToken : W64 := 0
  lcResult : Nat := 0
  lcValid : Bool := false
  lcWait : Option LcWait := none
  /-- the fuse burn of the request under way reads back right (R386) -/
  lcFuseOk : Bool := true
  lcNonce : BitVec 128 := 0
  dbgNonce : BitVec 128 := 0
  hashSel : Nat := 0
  hashWord : Nat := 0
  devPubIdx : Nat := 0
  devPub : Bool := false
  attNonce : BitVec 512 := 0
  attDest : W64 := 0
  attPart : Nat := 0
  attEpoch : W16 := 0
  attResult : Nat := 0
  attValid : Bool := false
  attQueue : List AttReq := []
  /-- the last PUT of each report whose result is still to be set, as a unit without what sending adds (R396) -/
  attOut : List XUnit := []
  /-- debug has been unlocked since the reset, and the SCOPE granted since then (R400, Table 16.6) -/
  unlocked : Bool := false
  granted : BitVec 4 := 0
  scopeH0 : BitVec 9 := 0x1FF
  scopeH1 : BitVec 9 := 0x1FF
  dbgToken : W64 := 0
  dbgResult : Nat := 0
  dbgValid : Bool := false
  jtagToken : Bool := false
  fwLen : W32 := 0
  /-- FW_LEN as it stood at FW_GO (R428) -/
  fwLenGo : W32 := 0
  bootStatus : Nat := 0
  bootTries : W32 := 0
  verifying : Bool := false
  fwMeas : BitVec 512 := 0
  fwSvn : Nat := 0
  fwSlot : Nat := 0
  fwEntry : W32 := 0
  /-- the marshal's private memory, in 32 B units (R391) -/
  fwBody : Map (BitVec 256) := []
  entropyOk : Bool := true
  keyWait : List KeyWait := []
  deviceKey : Option Nat := none
  /-- the next key identity to be generated -/
  nextKey : Nat := 1
  /-- the memory key pairs by identity (R166) -/
  keys : Map (BitVec 512) := []
  drbg : Drbg := {}
  bootCount : W32 := 0
  straps : Byte := 0
  deriving DecidableEq, Repr

/-- A self-test request (R411). -/
structure StReq where
  id : W32 := 0
  test : Nat := 0
  target : W16 := 0
  deriving DecidableEq, Repr

/-- A self-test result record (Table 17.5). -/
structure StRecord where
  split : W64 := 0
  reqId : W32 := 0
  test : Nat := 0
  result : Nat := 0
  target : W16 := 0
  duration : Nat := 0
  coverage : Nat := 0
  lc : Nat := 0
  flags : Byte := 0
  fails : Nat := 0
  first : W64 := 0
  measure : List Byte := []
  deriving DecidableEq, Repr

/-- A load request as it stands at LOAD_GO (R173). -/
structure LoadReq where
  addr : Nat := 0
  part : Nat := 0
  cadence : Bool := false
  strict : Bool := false
  autoStart : Bool := false
  pwrAlloc : Nat := 0
  /-- a reload after a tile failure (R354): verification is reused (R177) -/
  reload : Bool := false
  /-- REPAIR_MODE 1: the new map is computed and reported, and nothing is placed (R354) -/
  mapOnly : Bool := false
  /-- the subarray that a passed retest wrote: tile, and 24 × bank + subarray (R353, R356) -/
  retested : Option (Nat × Nat) := none
  deriving DecidableEq, Repr

/-- A request that waits for a test 0 or 4 to end (R407). -/
inductive StWait where
  | part
  | load (r : LoadReq)
  | start (k : Nat) (heat : Bool)
  deriving DecidableEq, Repr

/-- Self-test page and engine (Table 19.15). -/
structure SelfTest where
  tokenAddr : W64 := 0
  tokenResult : Nat := 0
  tokenValid : Bool := false
  runsLeft : W32 := 0
  auth : Option Nat := none
  test : Nat := 0
  target : W16 := 0
  lastReq : W32 := 0
  queue : List StReq := []
  running : Option StReq := none
  /-- requests that wait for a test 0 or 4 to end (R407) -/
  waits : List StWait := []
  /-- tick at which the conditions of the running test were last found to hold (R403) -/
  checkedAt : Nat := 0
  results : Map StRecord := []
  nextEntry : Nat := 0
  resIdx : Nat := 0
  deriving DecidableEq, Repr

/-! ### Marshal mailbox and faults (chapters 07, 13, 14, 18) -/

/-- An event ring (R422). -/
structure EvtRing where
  base : W64 := 0
  len : Nat := 16
  cc : Nat := 0
  valid : Bool := false
  part : Nat := 0
  epoch : W16 := 0
  seq : W32 := 0
  deriving DecidableEq, Repr

/-- A load result record (Table 7.7). -/
structure LoadResult where
  split : W64 := 0
  pcid : W16 := 0
  code : Nat := 0
  phase : Nat := 0
  cond : Nat := 0
  unit : Nat := 0xFFFF
  stride : Nat := 0xFFFF
  seq : Nat := 0
  cycle : Nat := 0xFFFFFFFFFFFFFFFF
  failBib : W32 := 0
  physUnit : Nat := 0xFFFF
  trans : Nat := 0
  subs : Nat := 0
  lateRoutes : Nat := 0
  verifyUs : W32 := 0
  mapAddr : W64 := 0
  deriving DecidableEq, Repr

/-- An active drill authorisation (Table 13.3). -/
structure DrillAuth where
  kinds : Nat := 0
  notBefore : W64 := 0
  notAfter : W64 := 0
  left : Nat := 0
  parts : Byte := 0
  ports : W32 := 0
  deriving DecidableEq, Repr

/-- A bank pair of a pacer's load sequence: where its tables lie in the image copy (R171, R187). -/
structure Pair where
  seq : Nat := 0
  descOff : Nat := 0
  descSize : Nat := 0
  tabOff : Nat := 0
  tabSize : Nat := 0
  last : Bool := false
  repeatTo : Nat := 0xFF
  deriving DecidableEq, Repr

/-- A data segment of an image (Table 7.2): tile data, or DRAM data. -/
structure Seg where
  tile : Bool := false
  unit : Nat := 0
  off : Nat := 0
  size : Nat := 0
  dest : Nat := 0
  /-- the plan can write it, as phase B found (R356) -/
  mutable_ : Bool := false
  deriving DecidableEq, Repr

/-- What the load gate keeps of an accepted image (R177, R185). -/
structure Image where
  addr : Nat := 0
  size : Nat := 0
  measurement : BitVec 512 := 0
  redSig : W64 := 0
  modelId : W64 := 0
  tpA1 : Bool := true
  opDecl : Nat := 0
  opMin : Nat := 0
  serving : Bool := false
  frame : Bool := false
  slots : Nat := 0
  framePeriod : Nat := 0
  cplBase : Nat := 0
  traceBase : Nat := 0
  captureBase : Nat := 0
  commitPacer : Nat := 0
  cadence : Bool := false
  strict : Bool := false
  pwrAlloc : Nat := 0
  /-- virtual tile identity and physical tile index of each used virtual tile -/
  tiles : List (Nat × Nat) := []
  /-- physical channel of each virtual channel of the partition, and how many of them the image uses -/
  chans : List Nat := []
  nch : Nat := 0
  trans : Nat := 0
  subs : Nat := 0
  /-- virtual and physical identity of every pacer the image uses -/
  pacers : List (Nat × Nat) := []
  /-- bank pairs by physical pacer identity -/
  pairs : Map (List Pair) := []
  classes : List (Nat × Nat) := []
  schedule : List (Nat × Nat) := []
  repeatFrom : Nat := 0
  mapAddr : Nat := 0
  segs : List Seg := []
  /-- offset and size of the initial slot table in the image -/
  slotSeg : Option (Nat × Nat) := none
  /-- regions D11 that lend a tile (R182), and tiles that stand as substitutes -/
  lent : List Nat := []
  spares : List Nat := []
  /-- relays with a planned crossing, by identity (R225, R226) -/
  relays : List Nat := []
  /-- routes accepted late (R183) -/
  late : Nat := 0
  /-- LADDs of a record whose source the load gate could not follow, or with one behind it (R43): physical tile, SEQ of the pair, stride -/
  openSums : List (Nat × Nat × Nat) := []
  deriving DecidableEq, Repr

/-- Marshal mailbox device page (Table 19.16) and the load gate's queue. -/
structure Mailbox where
  imageAddr : W64 := 0
  part : Nat := 0
  mode : Bool := false
  strict : Bool := false
  autoStart : Bool := false
  pwrAlloc : Nat := 0
  paRegions : BitVec 24 := 0
  paGroups : Byte := 0
  paPart : Nat := 0
  partResult : Nat := 0
  partValid : Bool := false
  /-- a PART_GO that waits for the key and the zero fill of joining groups (R189) or for entropy (R393) -/
  partPending : Option (Nat × BitVec 24 × Byte) := none
  drillAddr : W64 := 0
  drillResult : Nat := 0
  drillValid : Bool := false
  drillTarget : W64 := 0
  drillCnt : W32 := 0
  drillVoid : W32 := 0
  drillAuth : Option DrillAuth := none
  lastDseq : Option W32 := none
  ringMiss : W32 := 0
  journalLost : Bool := false
  jclrTile : Nat := 0
  jclrAll : Bool := false
  jclrResult : Nat := 0
  jclrValid : Bool := false
  jclrBusy : Bool := false
  /-- the tile a pending JCLR request names, as the fields stood at its GO (R428); none for every entry -/
  jclrWhat : Option Nat := none
  evt : EvtRing := {}
  queue : List LoadReq := []
  /-- the request past phase C whose placement is under way -/
  placing : Option LoadReq := none
  /-- the map it places, and the record its acceptance will be settled with -/
  plan : Option Image := none
  verdict : LoadResult := {}
  results : List LoadResult := []
  /-- repeatability mode of the device: none yet, lockstep (false) or cadence (true) (R175) -/
  devMode : Option Bool := none
  deriving DecidableEq, Repr

/-- A fault record (Table 14.1). -/
structure FaultRec where
  split : W64 := 0
  bib : W32 := 0xFFFFFFFF
  pcid : W16 := 0
  unit : Nat := 0
  code : Nat := 0
  action : Nat := 0
  seq : W32 := 0
  addr : Nat := 0
  drill : Bool := false
  second : Bool := false
  transient : Bool := false
  cause : Nat := 0
  repeats : W16 := 0
  specific : List Byte := []
  deriving DecidableEq, Repr

/-- An entry of the spare-remap journal (R360). -/
structure JEntry where
  tile : Nat := 0
  code : Nat := 0
  split : W64 := 0
  deriving DecidableEq, Repr

/-- A journal copy in flash (R360). -/
structure JCopy where
  valid : Bool := false
  seq : W32 := 0
  entries : List JEntry := []
  deriving DecidableEq, Repr

/-- A crash record (R363). -/
structure CrashRec where
  valid : Bool := false
  bootCount : W32 := 0
  split : W64 := 0
  code : Nat := 0
  rails : List Nat := []
  pcids : List W16 := []
  last : List FaultRec := []
  deriving DecidableEq, Repr

/-- Where a bit error sits in a memory protected by the word code (R161). -/
inductive Site where
  | sram (tile word : Nat)
  | bme (c store word : Nat)
  | reqtab (entry word : Nat)
  | dram (c offset : Nat)
  /-- a word on its way into a channel: word 0 to 7 of the next planned line, 8 to 15 of the second line of a flit, 16 to 23 of the next
  unplanned line (R164) -/
  | arriving (c word : Nat)
  /-- table memory (store 0, two words to a stride) or descriptor store (store 1, 32 words to a descriptor) of a pacer, keyed as
  `Pacer.table` and `Pacer.descs` (Table 14.2, PACER_UE) -/
  | pacer (p store word : Nat)
  /-- payload word of a block in a port's replay buffer, by sequence number, or in its pool (R269) -/
  | replay (i seq word : Nat)
  | pool (i seq word : Nat)
  deriving DecidableEq, Repr

/-- Inverted bits of a stored codeword: 72-bit positions of R161 per word (word 0 only outside DRAM), and for DRAM the
outer symbol errors (R163). `drill` marks an armed injection (R340). -/
structure Upset where
  site : Site
  mask : List (BitVec 72) := []
  outer : List Byte := []
  drill : Bool := false
  /-- a drill's word that has been read (R340) -/
  read : Bool := false
  deriving DecidableEq, Repr

/-- Fault store, rings, flash and reset sequencing (chapters 14, 20). -/
structure Faults where
  seq : W32 := 0
  onDie : Map FaultRec := []
  ring : Map FaultRec := []
  /-- records not yet signalled: partition (8 for none), SEQ and the tick of writing (R344) -/
  pending : List (Nat × W32 × Nat) := []
  journal0 : JCopy := {}
  journal1 : JCopy := {}
  /-- the update being programmed: none, or the entries of the new copy -/
  updating : Option (List JEntry) := none
  queued : List JEntry := []
  crash : Map CrashRec := []
  crashNext : Nat := 0
  crashBusy : Option CrashRec := none
  resetDeferred : Bool := false
  inReset : Bool := false
  /-- tiles found failed since the last device reset (R354) -/
  failedTiles : List Nat := []
  failedGroups : List Nat := []
  failedPorts : List Nat := []
  transientUnits : List Nat := []
  upsets : List Upset := []
  sagEpisode : Bool := false
  sagPin : Bool := false
  sagRails : BitVec 3 := 0
  smbAlert : Bool := false
  /-- SEQ of the record of the warning episode under way (R365) -/
  sagSeq : W32 := 0
  /-- tick at which SAG_WARN_N last changed (R365) -/
  sagAt : Nat := 0
  deriving DecidableEq, Repr

/-! ### Power and thermal pages (chapter 15) -/

/-- One 10 µs sample of PKG_PWR in 0.1 W: its TIME, its value, and whether it lay above PWR_CAP (R374). -/
structure PwrSample where
  time : Nat
  dw : Nat
  above : Bool
  deriving DecidableEq, Repr

/-- What the droop detectors of a core rail follow (R368): the setpoint before the last write, the tick of that write, and the pace cycle
in which the regulator reported it settled. -/
structure DroopRef where
  mv : Nat := 750
  wrote : Option Nat := none
  settled : Option Nat := none
  deriving DecidableEq, Repr

/-- Power page (Table 19.13), governor and regulators. -/
structure Power where
  cap : Nat := 1500
  govMax : Nat := 8
  govLevel : Nat := 0
  govCnt : W32 := 0
  fastLimit : Nat := 0
  slowLimit : Nat := 4
  avsOffset : Int := 0
  rll : Nat := 20
  vrSettle : Nat := 20
  lsfStep : Nat := 50
  pkgPwr : Nat := 0
  setE : Nat := 750
  setW : Nat := 750
  setIo : Nat := 750
  /-- level asked for by the power rules and by the thermal rules (R376) -/
  reqPower : Nat := 0
  reqThermal : Nat := 0
  /-- the samples of the last 1 s, newest first (R374) -/
  samples : List PwrSample := []
  /-- level 8 held since 8 ms of PL-2 were used, until the window falls below 6 ms (Table 15.4) -/
  pl2Hold : Bool := false
  lastRaise : Nat := 0
  lastLower : Nat := 0
  lowSince : Option Nat := none
  level8Since : Option Nat := none
  lsfE : Bool := false
  lsfW : Bool := false
  lsfEUntil : Nat := 0
  lsfWUntil : Nat := 0
  /-- the lap whose mark brings the class step that a pin forewarns of (R370) -/
  lsfEStep : Option Nat := none
  lsfWStep : Option Nat := none
  /-- the references of the droop detectors, by core rail (R368) -/
  droop : Map DroopRef := []
  settling : Bool := false
  regFault : Bool := false
  calibratedAt : Option Nat := none
  /-- the point a pending change wants, before its OP_NEXT write (R369, R379) -/
  wantOp : Option Nat := none
  settleAt : Nat := 0
  /-- partition power in 0.1 W summed over the samples of this lap, and their number (R374) -/
  partSum : Map Nat := []
  partN : Nat := 0
  deriving DecidableEq, Repr

/-- Thermal page (Table 19.13) and the coolant loop. -/
structure Thermal where
  throttle : Nat := 100
  margin : Nat := 5
  flowDmin : Nat := 200
  flowLead : Nat := 30
  qMax : Nat := 40
  coolCp : Nat := 4180
  dtTgt : Nat := 10
  coolInMax : Nat := 40
  i3cInlet : Nat := 0
  i3cOutlet : Nat := 0
  flowDuty : Nat := 1000
  flowMax : Bool := false
  /-- what an excess of the coolant's rise has added to the duty, and when (R380) -/
  boost : Nat := 0
  boostAt : Nat := 0
  tInlet : Int := 0
  tOutlet : Int := 0
  hotIdx : Nat := 0
  hotT : Int := 0
  sensors : Map Int := []
  sensIdx : Nat := 0
  rthJi : Nat := 0
  failRun : Nat := 0
  sensorFault : Bool := false
  /-- the alarm conditions of R381 as the last read found them -/
  alarms : List Bool := []
  goodSince : Nat := 0
  modHot : BitVec 24 := 0
  lastRaise : Nat := 0
  lastLower : Nat := 0
  /-- TIME of the last 20 µs sample of the sensors and of the last 100 ms read of the coolant's (R382, R381) -/
  sampledAt : Option Nat := none
  readAt : Option Nat := none
  deriving DecidableEq, Repr

/-! ### Ports (chapter 11) -/

/-- Port states (Table 11.6, Table 19.7 codes). -/
inductive LinkState where
  | disabled | detect | equalize | align | identify | init | active | exercise | down
  deriving DecidableEq, Repr

/-- Counters of Tables 11.10 and 19.8. -/
structure PortCnt where
  frameGood : BitVec 48 := 0
  frameCorr : BitVec 48 := 0
  frameBad : W32 := 0
  symCorr : Map (BitVec 48) := []
  gapDiscard : W32 := 0
  dupDiscard : W32 := 0
  replayNak : W32 := 0
  replayTimer : W32 := 0
  blockReplayed : BitVec 48 := 0
  rbFull : W32 := 0
  creditStall : W32 := 0
  kaMiss : W32 := 0
  linkDown : W32 := 0
  laneRepl : W32 := 0
  widthChg : W32 := 0
  chgCollide : W32 := 0
  chgEqualId : W32 := 0
  chgFail : W32 := 0
  pv : Map W16 := []
  pvFirst : W32 := 0
  planDiscard : W32 := 0
  planMisroute : W32 := 0
  winMismatch : W32 := 0
  planLost : W32 := 0
  badUnit : W32 := 0
  deriving DecidableEq, Repr

/-- A window slot (R310). -/
structure Window where
  full : Bool := false
  complete : Bool := false
  data : List Byte := []
  owner : W16 := 0
  /-- the cycle from which a delivered slot is free (R310) -/
  freeAt : Option Nat := none
  deriving DecidableEq, Repr

/-- An outstanding change request of a port (R288). -/
structure ChangeReq where
  id : Byte := 0
  kind : Nat := 0
  mask : BitVec 5 := 0
  width : Nat := 4
  attempt : Nat := 0
  since : Nat := 0
  /-- when its CHG_REQ went out last (R288) -/
  sentAt : Nat := 0
  /-- REPLACE, or WIDTH 3 caused by a fault -/
  fault : Bool := false
  deriving DecidableEq, Repr

/-- A block held in the receive pool (R277). -/
structure PoolBlock where
  cls : Nat := 0
  shared : Bool := false
  exr : Bool := false
  left : Nat := 253
  /-- its sequence number -/
  seq : W16 := 0
  deriving DecidableEq, Repr

/-- Symbol corrections, or PRBS31 errors of a spare, attributed to a receive lane in the last 1 µs window that had any, by its number, and
in the window before it (R287). -/
structure LaneErr where
  win : Nat := 0
  cnt : Nat := 0
  prev : Nat := 0
  deriving DecidableEq, Repr

/-- Link-layer state of a port (R261 to R291). -/
structure Link where
  state : LinkState := .disabled
  downCause : Nat := 0
  enteredAt : Nat := 0
  eqFails : Nat := 0
  alignGood : Nat := 0
  lastKa : Nat := 0
  kaCnt : W32 := 0
  next : W16 := 0
  una : W16 := 0
  e : W16 := 0
  nakPending : Bool := false
  /-- next sequence number of a replay under way (R274) -/
  replay : Option W16 := none
  /-- UNA and start of the last replay (R273) -/
  lastReplay : Option (W16 × Nat) := none
  timerAt : Nat := 0
  replayBuf : List Block := []
  sentReq : W32 := 0
  sentRsp : W32 := 0
  sentSh : W32 := 0
  limReq : W32 := 0
  limRsp : W32 := 0
  limSh : W32 := 0
  relReq : W32 := 0
  relRsp : W32 := 0
  relSh : W32 := 0
  pool : List PoolBlock := []
  rxReq : List Byte := []
  rxRsp : List Byte := []
  crRot : Nat := 0
  lastCls : Nat := 1
  txMap : List Nat := []
  rxMap : List Nat := []
  txUsable : BitVec 5 := 0
  rxUsable : BitVec 5 := 0
  /-- lanes on which precoding is agreed, as this end sends and as it receives (R284) -/
  precode : BitVec 5 := 0
  rxPrecode : BitVec 5 := 0
  mapEpoch : BitVec 4 := 0
  rxEpoch : Option (BitVec 4) := none
  amCount : W16 := 0
  /-- by receive lane: consecutive bad markers, and the rate of errors (R287) -/
  badMarks : Map Nat := []
  /-- by receive lane: the last good marker (PV-12) -/
  rxMarks : Map (Option Marker) := []
  laneErrs : Map LaneErr := []
  /-- the port's own requests not yet done: one of its own choice, and those for lane faults (R288, R290) -/
  reqs : List ChangeReq := []
  /-- when the link-down timer stopped for a lane fault's request (R288) -/
  heldAt : Option Nat := none
  /-- REQ_IDs of the peer acted on last, the newest first (R288) -/
  acted : List Byte := []
  nextReqId : Byte := 0
  retryAttempt : Option Nat := none
  /-- the peer's request that lost a collision with this port's own (R290) -/
  collided : Option Byte := none
  retrain : Option (BitVec 5) := none
  /-- control blocks waiting for a slot of the next frames -/
  ctl : List Control := []
  /-- a NAK was ignored for the replay that began last (R273, R276) -/
  nakIgnored : Bool := false
  /-- the last 1 µs tick of the transmit clock, and whether a KA block was accepted since (R281, Table 11.10) -/
  kaTick : Option Nat := none
  kaSeen : Bool := false
  /-- a frame without a KA block was accepted since the last KA block (PV-8) -/
  sinceKa : Bool := false
  /-- changes of the transmit map that wait for the next marker: the width, and whether a REPLACE asked (R287) -/
  mapDue : List (Nat × Bool) := []
  /-- frames sent since ALIGN, modulo 256 (R264) -/
  frameNo : Nat := 0
  /-- by lane: the level sent last (R263), the PRBS31 bits of a spare (R264), and the PRBS13 bits and the unsent rest of a training
  frame (R284); bits of 0 are not yet begun -/
  lastLevel : Map (Fin 4) := []
  spareBits : Map Nat := []
  trainBits : Map Nat := []
  trainRest : Map (List (Fin 4)) := []
  deriving DecidableEq, Repr

/-- Armed injections and the exerciser (R293). -/
structure Exerciser where
  mode : Nat := 0
  pat : Nat := 0
  cls : Nat := 0
  injKind : Nat := 0
  injLane : Nat := 0
  burst : Nat := 1
  gap : Nat := 0
  err : W64 := 0
  check : Bool := false
  traffic : Bool := false
  symErr : Nat := 0
  ackvClear : Nat := 0
  nakSet : Nat := 0
  kaHold : Nat := 0
  idleLanes : BitVec 5 := 0
  idleSince : Nat := 0
  /-- what the armed injections do is a drill's (R340); when the last of them was last at work -/
  drill : Bool := false
  drillEnd : Nat := 0
  trafficSent : Nat := 0
  /-- blocks left of a traffic burst, and frames left of the gap after it (Table 11.11) -/
  burstLeft : Nat := 0
  gapLeft : Nat := 0
  /-- bits of the PRBS pattern by lane, the bit errors of the five lanes in 48 bits each, and their last eye margins in 0.1 mV and
  0.001 UI (Table 11.11) -/
  prbs : Map Nat := []
  errLane : Map (BitVec 48) := []
  eyes : List (Nat × Nat) := []
  /-- these margins meet the SerDes rows of Table 17.4 (R405) -/
  eyesMeet : Bool := false
  /-- the last payloads of EXR blocks sent and compared, as numbers (Table 11.11) -/
  sent : Option Nat := none
  seen : Option Nat := none
  deriving DecidableEq, Repr

/-- A Chroson port: page fields, link layer, egress queues, window slots. -/
structure Port where
  enable : Bool := false
  autoRetry : Bool := true
  fecLimit : Nat := 13
  replayTo : Nat := 4
  linkDownTo : Nat := 8
  precodeEn : Bool := true
  portIdSet : Option W64 := none
  laneErrThr : Nat := 512
  resvReq : Nat := 128
  resvRsp : Nat := 128
  peerGen : Byte := 0
  peerDev : W16 := 0xFFFF
  peerHost : Bool := false
  peerId : W64 := 0
  markReq : Nat := 16
  markRsp : Nat := 16
  cnt : PortCnt := {}
  link : Link := {}
  exr : Exerciser := {}
  windows : Map Window := []
  /-- flits a PSEND under way has taken (R307) -/
  intake : List Byte := []
  /-- planned PUTs not yet sent, resent units, request-class and response-class queues (R309, R312, R315) -/
  planned : List XUnit := []
  resent : List XUnit := []
  egReq : List XUnit := []
  egRsp : List XUnit := []
  /-- bytes of units already taken from the queues and not yet in a block, per class -/
  txReq : List Byte := []
  txRsp : List Byte := []
  /-- units with a block in the replay buffer or not wholly acknowledged, with the number of their last block -/
  inFlight : List (W16 × XUnit) := []
  /-- the frame whose transmission began last -/
  txFrame : Option Frame := none
  /-- the PAM4 levels of the last transmission by physical lane, its marker first; a lane in electrical idle is absent (R263, R264) -/
  txLanes : Map (List (Fin 4)) := []
  owner : W16 := 0
  deriving DecidableEq, Repr

/-! ### Transport (chapter 12) -/

/-- A source stream entry (R300, R314): the limiter's RATE is an exact number of GB/s. -/
structure SrcStream where
  dstId : W16 := 0
  dstPart : Nat := 0
  cls : Nat := 0
  next : W32 := 0
  rate : Rat := 99
  /-- bytes in the bucket and the TKCLK tick it was last brought up to date -/
  bucket : Rat := 8192
  bucketAt : Nat := 0
  /-- start of the running RECOVER period (R314) -/
  quietFrom : Nat := 0
  lastUse : Nat := 0
  deriving DecidableEq, Repr

/-- A destination stream entry (R302): `seen` bit b marks SEQ H - b. -/
structure DstStream where
  srcId : W16 := 0
  /-- MY_ID, or 0xFFFF for an adapter's units to an unnamed device (R320) -/
  dstId : W16 := 0
  dstPart : Nat := 0
  cls : Nat := 0
  h : W32 := 0
  seen : BitVec 1024 := 1
  lastUse : Nat := 0
  lastEcho : Option Nat := none
  deriving DecidableEq, Repr

/-- Transport device page (Table 19.9). -/
structure Transport where
  myId : W16 := 0xFFFF
  routeIdx : Nat := 0
  routes : Map W16 := []
  lifetime : Nat := 245
  echoGap : Nat := 8
  rMax : Nat := 99
  rMin : Nat := 1
  rStep : Nat := 4
  recover : Nat := 20
  noRoute : W32 := 0
  ageDiscard : W32 := 0
  streamFull : W32 := 0
  dupUnit : W32 := 0
  staleSeq : W32 := 0
  streamWait : W32 := 0
  /-- source and destination stream tables of 16,384 entries -/
  src : Map (Option SrcStream) := []
  dst : Map (Option DstStream) := []
  /-- units that wait for a free source entry (R302), with the host-mode port a response goes back to -/
  unnumbered : List (Option Nat × XUnit) := []
  /-- units that wait for room in an egress queue (R312) -/
  waiting : List (Nat × XUnit) := []
  /-- units this device addressed to itself, waiting for their local delivery (R297) -/
  loop : List XUnit := []
  deriving DecidableEq, Repr

/-! ### Serving (chapter 08) -/

/-- A tenant entry (Table 8.4). -/
structure Tenant where
  budget : Int := 0
  rate : Nat := 0
  quantum : Nat := 0
  cap : Nat := 0
  rabbit : Bool := false
  /-- refill ticks already applied (R196) -/
  tick : Nat := 0
  deriving DecidableEq, Repr

/-- What the starter keeps of an occupied slot: the request and its input record of the running step (Table 8.5). -/
structure Slot where
  req : Option Nat := none
  qpos : Nat := 0
  nin : Nat := 0
  mode : Nat := 0
  first : Bool := false
  nprop : Nat := 0
  tokens : List W32 := []
  cancel : Bool := false
  /-- a partial of this slot carried OVERRUN in the running step (R206) -/
  overrun : Bool := false
  /-- the slot was occupied in the step that ends at the next boundary -/
  ran : Bool := false
  deriving DecidableEq, Repr

/-- Starter device page, request table and queues. -/
structure Starter where
  cancelReq : Nat := 0
  cancelResult : Nat := 0
  resReq : Nat := 0
  cancelValid : Bool := false
  tenIndex : Nat := 0
  tenData0 : W32 := 0
  tenData1 : W32 := 0
  tenData2 : W32 := 0
  tenData3 : W32 := 0
  tenants : Map Tenant := []
  /-- the 32 B request entries; before firmware runs, the boot staging area (R191, R390) -/
  table : Map (BitVec 256) := []
  /-- staged register-path words by entry: source identity, port, words 0 onward (R192) -/
  staged : List (Nat × W16 × Nat × List W64) := []
  /-- queue of (PART, TENANT), keyed 4,096 × PART + TENANT, oldest first (R193) -/
  queues : Map (List Nat) := []
  /-- cancels that wait for boundary work or for one registered before them, in the order of registration (R208): the request's
  partition, the request, its tag, and where the result goes -/
  cancels : List (Nat × Nat × W16 × Option (Nat × XUnit)) := []
  /-- refill ticks up to the last boundary (R196) -/
  refillTick : Nat := 0
  ceCnt : W32 := 0
  deriving DecidableEq, Repr

/-- Serving parameters of a partition (Table 8.1). -/
structure Serving where
  smode : Nat := 0
  npos : Nat := 1
  headsN : Nat := 0
  rabbitN : Nat := 0
  rbThresh : Nat := 0
  rbMin : Nat := 0
  rbMax : Nat := 256
  rbRearm : Nat := 1
  appendTl : Nat := 0
  pageLen : Nat := 1
  inBase : W64 := 0
  outBase : W64 := 0
  recDest : W64 := 0
  recLen : Nat := 65536
  recCc : Nat := 0
  recPart : Nat := 0
  recEpoch : W16 := 0
  slots : Nat := 0
  nch : Nat := 0
  stepCnt : W64 := 0
  followers : Map W32 := []
  poolBase : Map Nat := []
  poolLen : Map Nat := []
  poolHead : Map Nat := []
  poolTail : Map Nat := []
  recPos : Nat := 0
  slotTab : Map Slot := []
  rr : Nat := 0
  deficits : Map Nat := []
  /-- a STEP has been registered and its boundary work is not complete: T_k and the commit pacer's bib -/
  boundary : Option (W64 × W32) := none
  /-- lines and requests that boundary work has written, for a shadow (Table 13.2) -/
  wrote : List Nat := []
  touched : List Nat := []
  /-- FOLLOW: slots whose request of the step that ended has left them in this boundary, with that request and its OVERRUN (R206) -/
  ended : List (Nat × Nat × Bool) := []
  /-- FOLLOW: SLOT_SET cells applied in this step, and the count STEP_DONE stated (R212) -/
  applied : Nat := 0
  expected : Option Nat := none
  /-- shadow: puts that it has accepted, by source and SEQ, and the MIRROR_DONE cells that it holds: STEP and count, with the source and
  SEQ of the cell (R333) -/
  mirrored : List (W16 × W32) := []
  mirrorExpect : List ((W64 × Nat) × W16 × W32) := []
  deriving DecidableEq, Repr

/-! ### Plans and partitions (chapters 04, 07, 10, 12 to 14) -/

/-- Where a run of a partition stands. -/
inductive RunPhase where
  | none | loaded | starting | running | completed | aborted
  deriving DecidableEq, Repr

/-- A registered abort (R111): cause, cycle, split, and the fault's ring index. -/
structure AbortReq where
  cause : Nat := 0
  cyc : Nat := 0
  split : W64 := 0
  bib : W32 := 0
  faultIdx : Nat := 0
  written : Bool := false
  deriving DecidableEq, Repr

/-- A lap hold of a partition (R246 to R249). -/
structure Hold where
  fMin : Nat := 0
  unit : Nat := 0
  cause : Nat := 0
  /-- unresolved causes: unit and cause -/
  causes : List (Nat × Nat) := []
  /-- cycle of the first own cause of each region that registered one (R246) -/
  own : Map Nat := []
  /-- regions that had yet to resume from the last hold when this one began, with the cycle in which they were to (R248) -/
  frozen : Map Nat := []
  deriving DecidableEq, Repr

/-- A partition reset under way (R350). -/
structure ResetJob where
  code : Nat := 0
  unit : Nat := 0
  action : Nat := 2
  capture : Bool := true
  faultSeq : W32 := 0xFFFFFFFF
  /-- the first record's SPECIFIC field, which names the structure to retest (R353) -/
  specific : List Byte := []
  /-- the split of the fault, which the journal keeps (R360) -/
  split : W64 := 0
  /-- codes and units already recorded for this context (R343) -/
  seen : List (Nat × Nat × W32) := []
  /-- the cycle of the first fault, none for a reset that the host asked for -/
  cyc : Option Nat := none
  deriving DecidableEq, Repr

/-- A QXFER list handed to the transport (R311). -/
structure Qlist where
  /-- its units not yet handed over, with SEQ and marks cleared -/
  units : List XUnit := []
  lcc : Nat := 0
  deriving DecidableEq, Repr

/-- The run state of a partition. -/
structure Run where
  phase : RunPhase := .none
  /-- earliest time of S for a partition in FILL (R373) -/
  startAt : Nat := 0
  startCyc : Nat := 0
  startSplit : W64 := 0
  /-- the run is a heat's; HEAT_NO and T_H as the start request found them (R322), and whether a HEAT_ABORT cell of this heat has been
  relayed (R326) -/
  heat : Bool := false
  heatNo : W32 := 0
  heatAt : W64 := 0
  relayed : Bool := false
  runSeq : Nat := 0
  holds : Nat := 0
  /-- cycles lost to lap holds in this run -/
  lost : Nat := 0
  /-- the commit that this cycle has made: cycle and split of t_c and the commit pacer's bib. It stands when the cycle ends
  without an abort (R111) -/
  commit : Option (Nat × W64 × W32) := none
  abort : Option AbortReq := none
  hold : Option Hold := none
  /-- the last hold and its resumption mark (R248) -/
  resumed : Option (Hold × Nat) := none
  reset : Option ResetJob := none
  teardown : Bool := false
  /-- a teardown that arrived during a partition reset (R350) -/
  teardownWait : Bool := false
  /-- the action whose retest is under way (R353): its unit, code, SPECIFIC, and the faults recorded so far -/
  retest : Option ResetJob := none
  frameNo : Nat := 0
  /-- cycle of the partition's last FRAME stride (R120) -/
  lastFrame : Nat := 0
  /-- lap marks the frame wake is prepared for -/
  nextFrame : Option Nat := none
  cplPos : Nat := 0
  tracePos : Nat := 0
  /-- power schedule entry and laps spent in it (R377) -/
  schedPos : Nat := 0
  schedLaps : Nat := 0
  refills : List (Nat × Nat) := []
  refilling : Option (Nat × Nat) := none
  /-- end of the last partition reset, for the 1 ms of R373 -/
  resetEnd : Option Nat := none
  deriving DecidableEq, Repr

/-- A completion counter (R303). -/
structure Cc where
  count : W32 := 0
  abn : W16 := 0
  err : W16 := 0
  deriving DecidableEq, Repr

/-- Shadow and heat registers of a partition's transport page (Table 19.9). -/
structure Shadow where
  role : Nat := 0
  peerDev : W16 := 0
  peerPart : Nat := 0
  epoch : W16 := 0
  qual : Nat := 4096
  qualified : Bool := false
  matches_ : W32 := 0
  misses : W32 := 0
  firstLap : W32 := 0xFFFFFFFF
  firstBib : W32 := 0
  drop : W32 := 0
  suppress : W32 := 0
  base : W64 := 0
  run : Nat := 0
  planLap : Nat := 0
  digests : List W64 := []
  /-- digests waiting for their partner: plan lap and value, own and received -/
  own : List (Nat × W64 × W32) := []
  peer : List (Nat × W64) := []
  /-- request entries that mirrored writes have left in this shadow partition (R333) -/
  entries : List Nat := []
  deriving DecidableEq, Repr

/-- A partition. -/
structure Part where
  regions : BitVec 24 := 0
  groups : Byte := 0
  key : Option Nat := none
  /-- the D11 regions lent to this partition (R182) -/
  lent : List Nat := []
  epoch : W16 := 0
  gen : Nat := 1
  image : Option Image := none
  /-- measurement, and generation counter, verified since the assignment (R177) -/
  verified : Option (BitVec 512) := none
  /-- image copies accepted since the last teardown: address and size (R177) -/
  roRanges : List (Nat × Nat) := []
  cc : Map Cc := []
  /-- completion counters as they stood before the changes of a cycle: cycle, number, value (R103) -/
  ccOld : List (Nat × Nat × Cc) := []
  epochDiscard : W32 := 0
  heatDiscard : W32 := 0
  heatFan : Map W32 := []
  shadow : Shadow := {}
  serving : Serving := {}
  run : Run := {}
  evt : EvtRing := {}
  startResult : Nat := 0
  startValid : Bool := false
  heatNo : W32 := 0
  tH : W64 := 0
  heatSkew : W64 := 0
  resetResult : Nat := 0
  resetValid : Bool := false
  stallLaps : Nat := 64
  repairMode : Nat := 3
  altReady : Bool := false
  /-- alternative maps by the tile they do without (R355) -/
  alts : List (Nat × Image) := []
  reloadBytes : W32 := 0
  frameLate : W32 := 0
  overAlloc : W32 := 0
  pwrAlloc : Nat := 0
  lastLoad : Option LoadResult := none
  qlists : List Qlist := []
  deriving DecidableEq, Repr

/-! ### Pacers and units (chapters 03 to 06) -/

/-- Pacer states (Table 4.2, Table 19.1 codes). -/
inductive PState where
  | idle | loaded | running | waiting | hold | sleep | draining | done | aborted | fault
  deriving DecidableEq, Repr

/-- A wait comparator (R102). -/
structure Cmp where
  value : BitVec 48 := 0
  src : Nat := 0
  index : Nat := 0
  rel : Nat := 0
  enable : Bool := false
  deriving DecidableEq, Repr

/-- A trace record (R124). -/
structure TraceRec where
  split : W64 := 0
  bib : W32 := 0
  pacer : Nat := 0
  kind : Nat := 0
  bank : Bool := false
  stride : Nat := 0
  deriving DecidableEq, Repr

/-- An operation still repeating (R90), with the configuration of its issue cycle (R95). -/
structure Outst where
  op : Nat := 0
  opnd : W64 := 0
  cfg : BitVec 2048 := 0
  issued : Nat := 0
  next : Nat := 1
  /-- append number of a slot append (R203) -/
  aux : Nat := 0
  deriving DecidableEq, Repr

/-- A pacer (R85). -/
structure Pacer where
  state : PState := .idle
  bank : Bool := false
  ready : Bool := false
  /-- the cycle in which BANK_READY was last set (R103, R109) -/
  readyCyc : Nat := 0
  /-- strides, keyed 2,048 × bank + index -/
  table : Map (BitVec 128) := []
  /-- layer descriptors, keyed 64 × bank + index -/
  descs : Map (BitVec 2048) := []
  shadowCfg : BitVec 2048 := 0
  activeCfg : BitVec 2048 := 0
  /-- a descriptor on its way into the shadow set, and the first cycle in which it stands there (R94) -/
  ldesc : Option (Nat × BitVec 2048) := none
  lcInit : Map (BitVec 24) := []
  lcCur : Map (BitVec 24) := []
  cmps : Map Cmp := []
  /-- comparators and live counts as they stood before the changes of a cycle: cycle, number, value (R102, R103) -/
  cmpOld : List (Nat × Nat × Cmp) := []
  lcOld : List (Nat × Nat × BitVec 24) := []
  heatT0 : W64 := 0
  strideIdx : Nat := 0
  /-- index of the next stride in execution order, the cycle of the last issue, and the strides issued in that cycle -/
  next : Nat := 0
  lastIssue : Nat := 0
  /-- the next stride's loop has been entered, by entry or by a jump back (R97) -/
  entered : Bool := false
  /-- the cycle in which the next stride's wait resolved (R103) -/
  waitOk : Option Nat := none
  /-- a loop-end stride has issued and its decrement is due (R99) -/
  pendingEnd : Option Nat := none
  /-- the window of a due wait, SWAP or commit has ended with its condition unsatisfied in every cycle of it (R104) -/
  lapsed : Bool := false
  /-- that event has been registered -/
  missed : Bool := false
  outst : List Outst := []
  stall : Nat := 0
  abortResult : Nat := 0
  abortValid : Bool := false
  traceDrop : W32 := 0
  traceQ : List TraceRec := []
  commitCyc : Option Nat := none
  /-- the cycle in which an abort stopped the pacer, and the state it had: for the events of that same cycle (R343) -/
  stopped : Option (Nat × PState) := none
  seqPos : Nat := 0
  digest : W64 := 0
  stuck : Bool := false
  deriving DecidableEq, Repr

/-- An accumulator column of a row (R41, R45, R49, R50). -/
structure Acc where
  a : BitVec 80 := 0
  nan : Bool := false
  pinf : Bool := false
  ninf : Bool := false
  loss : Bool := false
  clamp : Bool := false
  /-- contributions since the last clear (R43) -/
  n : Nat := 0
  /-- FP32 sum of a row accumulated under BF16 (R50) -/
  f : W32 := 0
  /-- a BF16 pass has added to `f` since the last clear: the row holds an FP32 sum and no long accumulator (R48) -/
  bf : Bool := false
  deriving DecidableEq, Repr

/-- What a tile operation writes when its latency has passed (Table 3.7). -/
inductive TWrite where
  /-- all 128 lanes of a vector register -/
  | vreg (r : Nat) (lanes : List W32)
  /-- 64 lanes of a vector register from lane `lo` on (R74) -/
  | half (r lo : Nat) (lanes : List W32)
  /-- a vector load: register, format, channels, the lines its beats have read by channel, scales (Table 3.3) -/
  | load (r fmt chmask : Nat) (lines : List (Nat × Line)) (scales : List Nat)
  /-- a line of array memory, by window offset / 64 -/
  | line (idx : Nat) (data : Line)
  /-- the staging register (R72) -/
  | stage (data : Line)
  /-- a write beat of a vector store: channel, configuration of the store, line (R76, R92, R95) -/
  | beat (ch : Nat) (cfg : BitVec 2048) (data : Line)
  deriving DecidableEq, Repr

/-- A result under way: the first cycle in which it may be used. -/
structure TPend where
  due : Nat := 0
  w : TWrite := .stage 0
  /-- the write port of the vector register file it takes (TPC-13): 0 ALU, 1 special function, 2 load or readout -/
  port : Nat := 0
  /-- the read or write channel whose beat made it and the cycle of that beat, for the port guards' priority (R79) -/
  ch : Option Nat := none
  at_ : Nat := 0
  deriving DecidableEq, Repr

/-- A line that reaches the array's streamed input or the long-add input in cycle `due` on channel `ch`. -/
structure Arrival where
  due : Nat := 0
  ch : Nat := 0
  ladd : Bool := false
  data : Line := 0
  deriving DecidableEq, Repr

/-- A tile (Table 3.1). -/
structure Tile where
  /-- 64-bit words of array memory, keyed 2,048 × (24 × bank + subarray) + word -/
  mem : Map W64 := []
  /-- bank b is in compute mode when bit b is set -/
  compute : W16 := 0
  /-- the banks are in a mode change until this cycle (R66) -/
  modeBusy : Map Nat := []
  /-- keyed 64 × row + column -/
  accs : Map Acc := []
  /-- keyed 128 × register + lane -/
  vregs : Map W32 := []
  staging : List Byte := []
  /-- results under way, in order of issue (R83) -/
  pend : List TPend := []
  /-- lines on the way to the array's streamed input and the long-add input -/
  arr : List Arrival := []
  /-- lines of a readout on the way to the write channels: cycle and the lines of the two channels (R74) -/
  outs : List (Nat × Line × Line) := []
  /-- port guards (R79): the cycle they were last used in, and the accesses of that cycle: what each takes, and its place in
  the fixed priority -/
  useCyc : Nat := 0
  uses : List (Nat × Nat) := []
  /-- the row that the last READOUT read, as it stood before, with the cycle: what the guard gives back when a PASS of the same
  cycle takes the row (R79) -/
  readRow : Option (Nat × Nat × List Acc) := none
  /-- the first cycle in which array memory may be read after a tile reset (R67, Table 3.7) -/
  clearUntil : Nat := 0
  rdBeat : Map Nat := []
  wrBeat : Map Nat := []
  sramCe : W32 := 0
  cvtNan : W32 := 0
  accLoss : W32 := 0
  accClamp : W32 := 0
  accFlagBib : W32 := 0
  owner : W16 := 0
  sfuPad : Nat := 0
  gated : Bool := true
  substituted : Bool := false
  deriving DecidableEq, Repr

/-- A slot table entry of a BME (R130). -/
structure SlotEntry where
  listAddr : BitVec 48 := 0
  pages : Nat := 0
  qpos : BitVec 31 := 0
  empty : Bool := true
  deriving DecidableEq, Repr

/-- A fetched page entry (Table 5.2, R137). -/
structure PageEntry where
  frame : Nat := 0
  valid : Nat := 0
  pos : Nat := 0
  bad : Bool := false
  deriving DecidableEq, Repr

/-- The open scan of a BME (R133). -/
structure Scan where
  qs : Nat := 0
  ts : Nat := 0
  slot : Nat := 0
  layer : Nat := 0
  kvh : Nat := 0
  qn : Nat := 1
  npe : Nat := 1
  qbase : Nat := 0
  entry : SlotEntry := {}
  cfg : BitVec 2048 := 0
  cursor : Nat := 0
  entries : List PageEntry := []
  fetched : Bool := false
  /-- lines of the entry fetch (R133) -/
  entryLines : List Nat := []
  /-- pages whose lines have been named to the channel (R152) -/
  fetchPos : Nat := 0
  /-- the page slot under way: issue cycle and entry (R141) -/
  page : Option (Nat × PageEntry) := none
  /-- the scores of the page slot under way stand in the score buffer -/
  scored : Bool := false
  /-- lines that this phase of the page slot under way has consumed, one a cycle (R141) -/
  taken : List Line := []
  /-- queries whose OVERRUN has been counted (R140) -/
  counted : List Nat := []
  pagesDone : Nat := 0
  slotsDone : Nat := 0
  sawBad : Bool := false
  /-- lines of the read slots to come, by channel offset ÷ 64, in order (R152); 2^40 stands for an absent line -/
  wanted : List Nat := []
  deriving DecidableEq, Repr

/-- A line in the input buffer of a BME: its place, its channel offset ÷ 64, and the cycle it entered in (R154). Places from 512 on are
those of the channel's return queue, where a line waits while the buffer's 512 are taken (R247). -/
structure BufLine where
  slot : Nat := 0
  line : Nat := 0
  data : Line := 0
  at_ : Nat := 0
  deriving DecidableEq, Repr

/-- A BME (Table 5.1). -/
structure Bme where
  /-- query bytes as 64-bit words, keyed 2,048 × set + word -/
  queries : Map W64 := []
  /-- triples, keyed (64 × set + query) × 130 + element; element 128 is m, 129 is l -/
  triples : Map W32 := []
  /-- scores of the current page, keyed 256 × query + token -/
  scores : Map W32 := []
  /-- delivered lines, oldest first -/
  lines : List BufLine := []
  slots : Map SlotEntry := []
  scan : Option Scan := none
  /-- the last closed scan of each triple set -/
  past : Map (Option Scan) := []
  badPage : W32 := 0
  overrun : W32 := 0
  owner : W16 := 0
  retPad : Nat := 0
  deriving DecidableEq, Repr

/-- A stored DRAM line: the key it was written under and its plaintext (R166). -/
structure DramLine where
  key : Nat := 0
  data : Line := 0
  deriving DecidableEq, Repr

/-- A planned line between issue and delivery (R154, R155). `due` is a cycle of the device for the BME buffer and a plan
cycle for the network, where a frozen unit's lines wait (R247). -/
structure InFlight where
  due : Nat := 0
  /-- the line's channel offset ÷ 64; the second line of a flit for DEST 1 -/
  line : Nat := 0
  data : Line := 0
  line2 : Nat := 0
  data2 : Line := 0
  toBme : Bool := true
  route : Nat := 0
  late : Bool := false
  bib : W32 := 0
  /-- the line, the second line, is withheld as uncorrectable and replaced by zeros (R169) -/
  bad : Bool := false
  bad2 : Bool := false
  deriving DecidableEq, Repr

/-- Channel states (Table 19.1). -/
inductive ChState where
  | training | available | failed
  deriving DecidableEq, Repr

/-- A DRAM channel (Table 19.6). -/
structure Chan where
  state : ChState := .training
  failStep : Nat := 0
  cls : Nat := 0
  speed : Nat := 0
  cap : Nat := 0
  ranks : Bool := false
  marginRd : W32 := 0
  marginWr : W32 := 0
  marginCa : W32 := 0
  ceCnt : W32 := 0
  selfRef : W32 := 0
  forcedRef : W32 := 0
  enqWait : W32 := 0
  scrubPeriod : Nat := 16
  devCe : Map W32 := []
  scrubAt : Nat := 0
  /-- lines, keyed channel offset ÷ 64 -/
  lines : Map (Option DramLine) := []
  /-- the partition area reads as zero under this key where nothing is listed (R167) -/
  filled : Option Nat := none
  /-- the same of the marshal area, under the device key (R168) -/
  filledM : Option Nat := none
  debt : Int := 0
  /-- the TKCLK tick up to which the debt has been counted, and of the last scrub (R160, R165) -/
  debtAt : Nat := 0
  scrubbedAt : Nat := 0
  temp : Int := 0
  /-- the TKCLK tick of the last read of the module's sensor (R160) -/
  tempAt : Nat := 0
  /-- cycle up to which a refresh occupies the channel -/
  refreshUntil : Nat := 0
  lastDref : Option Nat := none
  beats : Map Nat := []
  cursors : Map Nat := []
  /-- lines a DWR replaced within the last 256 cycles: cycle, line, what it held (R156) -/
  recent : List (Nat × Nat × Line) := []
  /-- line transfers of the last 128 cycles: cycle, write, line (R158) -/
  xfers : List (Nat × Bool × Nat) := []
  /-- unplanned lines that wait for the controller to admit them: cycle of the request, line, write (R158) -/
  asked : List (Nat × Nat × Bool) := []
  inFlight : List InFlight := []
  owner : W16 := 0
  drlPad : Nat := 0
  deriving DecidableEq, Repr

/-- A flit in the network or a delay line (R117). `node` is 2 × (24 Y + X) + SINK. -/
structure Flit where
  node : Nat := 0
  arrive : Nat := 0
  due : Nat := 0
  part : Nat := 0
  data : BitVec 1024 := 0
  /-- the unit that sent it, and the issue cycle of the operation that did -/
  src : Nat := 0
  sent : Nat := 0
  /-- the cycle in which it leaves its sender's egress port (R117, R246), and the bib of that operation (R95) -/
  egress : Nat := 0
  bib : W32 := 0
  /-- relays on its way, each with the sender cycle in which it is written there (R223) -/
  cross : List (Nat × Nat) := []
  /-- inverted positions of its 16 words' codewords; none listed, none inverted (R161) -/
  flaws : List (BitVec 72) := []
  deriving DecidableEq, Repr

/-- On-die network: flits under way, and delivered flits not yet taken, by node and sink. -/
structure Net where
  flits : List Flit := []
  ingress : Map (List (BitVec 1024)) := []
  deriving DecidableEq, Repr

/-- The AVSBus commands that the TA1 uses (R368). -/
inductive AvsCmd where
  | writeVoltage (mv : Nat)
  | readVoltage | readCurrent | readStatus
  deriving DecidableEq, Repr

/-- What the block sends on the sideband, on pins, and on the AVSBus of a core rail. -/
inductive Out where
  | avs (rail : Nat) (c : AvsCmd)
  | sideband (bytes : List Byte)
  | nack
  | timePulse (at_ : W64)
  deriving DecidableEq, Repr

/-- Everything but the command queue. -/
structure Device where
  clk : Clock := {}
  tk : Timekeeper := {}
  fuses : Fuses := {}
  sec : Security := {}
  st : SelfTest := {}
  mb : Mailbox := {}
  flt : Faults := {}
  pwr : Power := {}
  thr : Thermal := {}
  ports : Map Port := []
  tr : Transport := {}
  starter : Starter := {}
  parts : Map Part := []
  pacers : Map Pacer := []
  tiles : Map Tile := []
  bmes : Map Bme := []
  chans : Map Chan := []
  net : Net := {}
  pages : Map PageHdr := []
  out : List Out := []
  /-- the model's own counter of free values drawn (DESIGN CHOICE, log entry 5) -/
  freeCtr : Nat := 0
  deriving DecidableEq, Repr

/-- The state of the block: the device and the queue of waiting commands, first in, first out. -/
structure State where
  dev : Device := {}
  pending : List Instr := []
  deriving DecidableEq, Repr

/-- H0 and H1 right after reset: ENABLE resets to 1, and they are DISABLED until the starting gun (Tables 19.1 and 19.7, R260). -/
def hostPortReset : Port := { enable := true }

/-- The device right after reset: the always-on rail has risen, the first device reset has been released, and the
sequencer waits for generator lock (R231); every register at its Reset value, fuses unburnt (DESIGN CHOICE, log entries 4 and 6). -/
def Device.reset : Device := { ports := [(24, hostPortReset), (25, hostPortReset)] }

/-- The machine right after reset, with nothing queued. -/
def State.reset : State := { dev := Device.reset, pending := [] }

/-- The canonical form of every sparse map that stands for an addressed memory of the device. -/
def Memory.wf (d : Device) : Bool :=
  d.tiles.all (fun t => Map.wf 0 t.2.mem) && d.chans.all (fun c => Map.wf none c.2.lines) &&
  d.bmes.all (fun b => Map.wf 0 b.2.queries) && Map.wf 0 d.starter.table

end Sys2Proof.Machine
end

