-- ==== Sys2Proof/WellFormed.lean ====
section
/-! DEFINITION. Well-formed commands: every operand names a unit the block has, or a value of its field's width. The
meanings do not stop on an ill-formed command: it changes nothing (DESIGN CHOICE, log entry 2). -/

namespace Sys2Proof

/-- A pacer identity that Table 4.1 assigns (R84). -/
def isPacer (p : Nat) : Bool :=
  p < 208 || (256 ≤ p && p < 280) || (320 ≤ p && p < 344) || (384 ≤ p && p < 410)

/-- A partition (R189). -/
def isPart (k : Nat) : Bool := k < 8

/-- A port index of Table 14.3: 0 to 23 for F0 to F23, 24 for H0, 25 for H1. -/
def isPort (i : Nat) : Bool := i < 26

/-- A port a unit arrives on, or 31 for a unit this device addressed to itself (R297). -/
def isWay (i : Nat) : Bool := isPort i || i == 31

/-- A channel index (R145). -/
def isChan (c : Nat) : Bool := c < 24

/-- A generator index of Table 14.3. -/
def isRegion (g : Nat) : Bool := g < 31

/-- A populated register page slot of Table 18.1 (R413). -/
def isPage (n : Nat) : Bool :=
  n < 9 || (0x10 ≤ n && n < 0x19) || (0x20 ≤ n && n < 0x29) || (0x30 ≤ n && n < 0x37) ||
  (0x40 ≤ n && n < 0x5F) || (0x80 ≤ n && n < 0x98) || (0xA0 ≤ n && n < 0xB8) || (0xC0 ≤ n && n < 0xDA) ||
  (0x400 ≤ n && n < 0x800 && isPacer (n - 0x400)) || (0x1000 ≤ n && n < 0x10D0)

/-- A rail of Table 14.2: 0 VDD_E, 1 VDD_W, 2 VDD_IO. -/
def isRail (r : Nat) : Bool := r < 3
/-- A rail of Table 15.1 whose loss is a SAG_RESET, in the table's order: the core rails, VDDQ 3, VDDA_SD 4 (R366; the numbers of the
last two are a DESIGN CHOICE, log entry 57). -/
def isSupply (r : Nat) : Bool := r < 5

/-- A relay identity of Table 14.3 (R226). -/
def isRelay (r : Nat) : Bool := 1024 ≤ r && r < 2176

/-- A transport unit whose fields fit Tables 12.2 and 12.3. -/
def XUnit.wf (u : XUnit) : Bool :=
  u.dstPart < 8 && u.srcPart < 8 && u.addr < 2 ^ 48 && u.raddr < 2 ^ 48 && u.dstCc < 64 && u.ackCc < 64 &&
  u.wslot < 64 && u.status < 256

/-- A control block whose fields fit Table 11.5. -/
def Control.wf : Control → Bool
  | .chgReq _ kind _ width _ attempt => kind < 4 && width < 8 && attempt < 16
  | .chgRefuse _ reason => reason < 256
  | .chgAbort _ _ attempt => attempt < 16
  | _ => true

/-- The operands of a path that writes registers. -/
def Src.wf : Src → Bool
  | .host h => h == 24 || h == 25
  | _ => true

/-- The well-formed commands. -/
def Instr.wf : Instr → Bool
  | .sagWarn rail a b c => isRail rail && a < 65536 && b < 65536 && c < 65536
  | .sagReset rail => isSupply rail
  | .sagWarnNRelease rail => isRail rail
  | .thermalTrip sensor => sensor < 32
  | .svnReq n _ => n < 128
  | .hostScopeWrite h _ _ => h == 24 || h == 25
  | .placementDone k | .altMapCompute k | .bankRefill k | .bankRefillDone k | .groupZeroFillDone k
  | .teardownDrainDone k | .startGo k | .heatStart k | .partitionStart k | .commit k | .abortedRecordWrite k
  | .frameWake k | .fillTimeout k | .partReset k _ | .partitionResetDone k | .retestDone k _ | .stepBoundary k
  | .cancelDeferredServe k | .planLapEnd k | .ccClr k => isPart k
  | .regionUngate k => k < 32
  | .nop p | .ldesc p | .start p | .setcnt p | .setcmp p | .swap p | .trace p | .frame p | .step p | .halt p
  | .endRun p | .loopBegin p | .loopEnd p | .waitResolve p | .waitWindowExpiry p | .abort p | .bankMode p
  | .readout p | .ladd p | .vadd p | .vsub p | .vmul p | .vfma p | .vmin p | .vmax p | .vabs p | .vneg p | .vmov p
  | .vcvt p | .vqnt p | .vredadd p | .vredmax p | .vbcast p | .vexp2 p | .vrcp p | .vrsq p | .vlog p | .openScan p
  | .page p | .emit p | .dref p | .pdlv p | .qxfer p | .stallTimerExpiry p | .traceRingWrite p => isPacer p
  | .rdb p n | .wrb p n | .pass p n | .qload p n | .drdPattern p n | .drdBmeScan p n | .dwrPattern p n
  | .dwrAppend p n | .psend p n => isPacer p && n < 4096
  | .dramLineDelivery c | .scrub c | .refreshDebtTick c | .selfRefresh c | .moduleTempRead c _ => isChan c
  | .unplannedAccess c a _ => isChan c && (match a with | .read o => o < 2 ^ 39 | .write o _ => o < 2 ^ 39)
  | .channelBringUp ms => ms.length == 24
  | .plannedPutComplete i u | .timeReq i u | .timeRsp i u => isPort i && u.wf
  | .put i u | .get i u | .getrsp i u | .ack i u | .cnp i u
  | .cancel i u | .cancelResult i u | .slotSet i u | .stepDone i u | .heatAbort i u | .pfDigest i u
  | .mirrorDone i u => isWay i && u.wf
  | .flitDelivery node => node < 576
  | .relaySlip r _ => isRelay r
  | .droopDetect g | .idlePathLock g => isRegion g
  | .opLapWrite src _ => src.wf
  | .powerSample _ ps => ps.length ≤ 8
  | .thermalSample rs => rs.length == 32
  | .streamEntryExpiry _ idx | .rateRecover idx => idx < 16384
  | .reqtabWordWrite _ i entry word _ => isPort i && entry < 1048576 && word < 4
  | .portEnable i _ | .portResetReq i | .peerSignalDetect i _ | .equalizeTimeout i
  | .alignTimeout i | .identifyTimeout i | .initTimeout i | .frameTransmit i | .kaSend i | .keepaliveTimeout i
  | .autoRetry i | .replayTimeout i | .laneFault i _ | .chgReqRepeat i | .changeTimeout i | .equalIdRetry i
  | .exrPrbs i _ | .exrLoop i | .exrTraffic i | .exrCheck i | .injectSymbolErrors i | .injectAckvClear i
  | .injectNak i | .injectKaWithhold i | .injectLaneIdle i
  | .laneLossRelease i => isPort i
  | .unitStale i _ => isWay i
  | .equalizeDone i _ _ words => isPort i && words.length ≤ 5
  | .retrainEqualizeEnd i got => isPort i && got.words.length ≤ 5
  | .frameReceive i f errs0 errs1 spareErrs => isPort i && f.crSel < 4 && f.slots.length ≤ 5 && decide errs0.Nodup && decide errs1.Nodup &&
    (errs0 ++ errs1).all (· < 544) && spareErrs.all (· < 5)
  | .alignmentMarker i lane m => isPort i && lane < 5 && m.llane < 8 && m.width < 8
  | .ka i c | .ident i c | .chgReq i c | .chgRefuse i c | .chgAbort i c => isPort i && c.wf
  | .tileResetReq t => t < 208
  | .quiesce slot _ | .cntClr slot | .intRawW1c slot _ _ | .intSet slot _ | .errClr slot => isPage slot
  | .registerWrite src addr _ =>
      src.wf && 0x0F0000000000 ≤ addr && addr < 0x0F0010000000 && addr % 4 == 0
  | .linkSym n | .linkAck n _ | .kaHold n | .eccSingle n | .eccDevice n => n < 65536
  | .aonPowerUp | .resetNLow _ | .deviceReset | .resetRelease _ | .generatorLockWaitEnd _ | .startingGun
  | .crashRecordDone _ | .sagEpisodeEnd | .aonRailLoss | .marshalWdt | .refLoss | .fwGo | .firmwareVerifyDone
  | .entFail | .jtagFuseManufacture _ _ | .lcReqProvisioned _ _ _ | .lcReqDeployed _ | .lcReqReturned _
  | .lcReqScrapped _ | .lcReqRevoke _ | .lcReqSettle | .jtagScrap _ _ | .dbgTokenPresent _ _ | .attGo
  | .attestSnapshot | .stTokenPresent _ | .stGo | .lscanRegion _ | .lscanTile _ | .tileMem _ | .bmeMem _
  | .reqtabMem _ | .portMem _ | .sdNear _ | .sdFar _ | .ddrLoop _ | .ddrMargin _ | .genLock _ | .droopCal _
  | .tempXchk _ | .adcRef _ | .stConditionCheck _ _ | .stPreempt _ | .stTestEnd _ | .loadGo | .loadGateServe
  | .partGo | .lapSnapshot | .lapMark | .regulatorSettled _ | .timeSet _ | .rateAdjWrite _ | .timeInEdge
  | .timeOutPulse | .timeExchange | .timeExchangeVoid | .monitorCalibrate | .forecastEval | .lsfDeassert _
  | .coolantSensorRead _ _ | .faultEventWrite | .journalUpdate _ | .jclrGo | .cancelReq _ | .tenData3Write _
  | .routeDataWrite _ | .myIdWrite _ | .drillAddrSubmit _ | .laneLoss | .eccDouble | .pacerStuck
  | .sidebandStatus _ | .sidebandSerial _ | .sidebandTemps _ | .sidebandRails _ | .devReset _ _ | .flowMax _ _
  | .smbusAlertResponse | .entropyHealthPass => true

end Sys2Proof
end

