-- ==== Sys2Proof/Machine/Ops.lean ====
section
/-! DEFINITION. Named operations over the state: access to one unit, time and cycles, the places of units on the die,
ownership, and the position of a partition's plan against the device's laps. -/

namespace Sys2Proof.Machine

/-- Change the device and leave the queue alone. -/
def State.on (f : Device → Device) (s : State) : State := { s with dev := f s.dev }

/-- Apply `f` when `c` holds; a command whose condition does not hold changes nothing (DESIGN CHOICE, log entry 2). -/
def Device.when (c : Bool) (f : Device → Device) (d : Device) : Device := if c then f d else d

/-! ### One unit -/

def Device.part (d : Device) (k : Nat) : Part := Map.get {} d.parts k
def Device.updPart (k : Nat) (f : Part → Part) (d : Device) : Device := { d with parts := Map.upd {} d.parts k f }
def Device.port (d : Device) (i : Nat) : Port := Map.get {} d.ports i
def Device.updPort (i : Nat) (f : Port → Port) (d : Device) : Device := { d with ports := Map.upd {} d.ports i f }
def Device.pacer (d : Device) (p : Nat) : Pacer := Map.get {} d.pacers p
def Device.updPacer (p : Nat) (f : Pacer → Pacer) (d : Device) : Device := { d with pacers := Map.upd {} d.pacers p f }
def Device.tile (d : Device) (t : Nat) : Tile := Map.get {} d.tiles t
def Device.updTile (t : Nat) (f : Tile → Tile) (d : Device) : Device := { d with tiles := Map.upd {} d.tiles t f }
def Device.bme (d : Device) (c : Nat) : Bme := Map.get {} d.bmes c
def Device.updBme (c : Nat) (f : Bme → Bme) (d : Device) : Device := { d with bmes := Map.upd {} d.bmes c f }
def Device.chan (d : Device) (c : Nat) : Chan := Map.get {} d.chans c
def Device.updChan (c : Nat) (f : Chan → Chan) (d : Device) : Device := { d with chans := Map.upd {} d.chans c f }
def Device.region (d : Device) (g : Nat) : Region := Map.get {} d.clk.regions g
def Device.updClk (f : Clock → Clock) (d : Device) : Device := { d with clk := f d.clk }
def Device.updRegion (g : Nat) (f : Region → Region) (d : Device) : Device :=
  { d with clk := { d.clk with regions := Map.upd {} d.clk.regions g f } }
def Device.page (d : Device) (n : Nat) : PageHdr := Map.get {} d.pages n
def Device.updPage (n : Nat) (f : PageHdr → PageHdr) (d : Device) : Device := { d with pages := Map.upd {} d.pages n f }
def Device.updTk (f : Timekeeper → Timekeeper) (d : Device) : Device := { d with tk := f d.tk }
def Device.updSec (f : Security → Security) (d : Device) : Device := { d with sec := f d.sec }
def Device.updSt (f : SelfTest → SelfTest) (d : Device) : Device := { d with st := f d.st }
def Device.updMb (f : Mailbox → Mailbox) (d : Device) : Device := { d with mb := f d.mb }
def Device.updFlt (f : Faults → Faults) (d : Device) : Device := { d with flt := f d.flt }
def Device.updPwr (f : Power → Power) (d : Device) : Device := { d with pwr := f d.pwr }
def Device.updThr (f : Thermal → Thermal) (d : Device) : Device := { d with thr := f d.thr }
def Device.updTr (f : Transport → Transport) (d : Device) : Device := { d with tr := f d.tr }
def Device.updStarter (f : Starter → Starter) (d : Device) : Device := { d with starter := f d.starter }
def Device.updRun (k : Nat) (f : Run → Run) (d : Device) : Device := d.updPart k fun p => { p with run := f p.run }
def Device.updServing (k : Nat) (f : Serving → Serving) (d : Device) : Device :=
  d.updPart k fun p => { p with serving := f p.serving }
def Device.updShadow (k : Nat) (f : Shadow → Shadow) (d : Device) : Device :=
  d.updPart k fun p => { p with shadow := f p.shadow }
def Device.updLink (i : Nat) (f : Link → Link) (d : Device) : Device := d.updPort i fun p => { p with link := f p.link }
def Device.updCnt (i : Nat) (f : PortCnt → PortCnt) (d : Device) : Device := d.updPort i fun p => { p with cnt := f p.cnt }
def Device.updExr (i : Nat) (f : Exerciser → Exerciser) (d : Device) : Device := d.updPort i fun p => { p with exr := f p.exr }
/-- Record an answer on a pin or the sideband. -/
def Device.emit (o : Out) (d : Device) : Device := { d with out := d.out ++ [o] }

/-- The partitions. -/
def partList : List Nat := [0, 1, 2, 3, 4, 5, 6, 7]

/-- Fold an operation over a list of numbers. -/
def Device.forAll (ks : List Nat) (f : Nat → Device → Device) (d : Device) : Device := ks.foldl (fun d k => f k d) d

/-! ### Free values (DESIGN CHOICE, log entry 5) -/

/-- The next free value as a number, and the device after it has been drawn. -/
def Device.draw (d : Device) : Nat × Device := (Config.freeNat d.freeCtr, { d with freeCtr := d.freeCtr + 1 })

/-! ### Time and cycles (R213, R214, R228, R233) -/

/-- MULT of an operating point (Table 9.1). -/
def mult : Nat → Nat
  | 0 => 84 | 1 => 70 | 2 => 56 | 3 => 42 | _ => 21

/-- What TIME and its fraction grow by on one TKCLK tick, in 2^-32 units (R233). -/
def Timekeeper.rate (t : Timekeeper) : Nat := ((10 * 2 ^ 32 : Int) + t.rateAdj).toNat

/-- `n` TKCLK ticks (R233): TIME grows and wraps after 2^64 units. -/
def Timekeeper.tick (n : Nat) (t : Timekeeper) : Timekeeper :=
  let x := t.time.toNat * 2 ^ 32 + t.frac.toNat + n * t.rate
  { t with time := BitVec.ofNat 64 (x / 2 ^ 32), frac := BitVec.ofNat 32 x }

/-- `u` units of 1/MULT of a TKCLK tick pass: a pace cycle is 64 of them, a phase step 16 (R214). -/
def Device.elapse (u : Nat) (d : Device) : Device :=
  let m := mult d.clk.opCur
  let a := d.clk.phase + u
  { d with clk := { d.clk with phase := a % m, now := d.clk.now + a / m }, tk := d.tk.tick (a / m) }

/-- `n` TKCLK ticks pass while no pace clock runs (before the starting gun). -/
def Device.waitTicks (n : Nat) (d : Device) : Device :=
  { d with clk := { d.clk with now := d.clk.now + n }, tk := d.tk.tick n }

/-- The pace-cycle index since the starting gun (R228); one index for every region (DEDUCED, log entry 3). -/
def Device.cyc (d : Device) : Nat := d.clk.lap * 65536 + d.clk.lapCyc

/-- The split of an event of this cycle in region S0, whose cycles the model's TIME counts, or of the marshal's (R236). -/
def Device.split (d : Device) : W64 := d.tk.time

/-- The split of an event of this cycle in region `g` (R236): the region began the cycle later than S0 by the phase steps it
has lost more than S0, each a quarter of a period of the current point (R214). -/
def Device.splitIn (d : Device) (g : Nat) : W64 :=
  let ahead : Int := (d.region g).delay - (d.region 30).delay
  BitVec.ofInt 64 (d.tk.time.toNat + ahead * 160 / mult d.clk.opCur)

/-- TKCLK ticks of a time in nanoseconds (625 ps each). -/
def ns (n : Nat) : Nat := n * 8 / 5
/-- TKCLK ticks of a time in microseconds. -/
def us (n : Nat) : Nat := n * 1600
/-- TKCLK ticks of a time in milliseconds. -/
def ms (n : Nat) : Nat := n * 1600000

/-- `dt` ticks have passed since `t0`. -/
def Device.since (d : Device) (t0 dt : Nat) : Bool := t0 + dt ≤ d.clk.now

/-- A tick of period `dt` is due: the last one, if there was one, is at least a period old. -/
def Device.due (d : Device) (last : Option Nat) (dt : Nat) : Bool := last.all fun t => d.since t dt

/-- PL2_USED: the µs above PWR_CAP that the samples of the last 100 ms hold, as 14 bits (R374, Table 19.12). -/
def Power.pl2Used (now : Nat) (p : Power) : Nat :=
  min 16383 (10 * (p.samples.countP fun q => q.above && decide (now < q.time + ms 100)))

/-! ### Places on the die (R59, R115, Table 14.3) -/

/-- Generator index of the region of a tile (R59). -/
def tileRegion (t : Nat) : Nat :=
  let r := t % 104
  12 * (t / 104) + (if r < 72 then r / 9 else 8 + (r - 72) / 8)

/-- Position of a tile within its region (R59). -/
def tilePos (t : Nat) : Nat :=
  let r := t % 104
  if r < 72 then r % 9 else (r - 72) % 8

/-- Physical tile index of position `p` in compute region `g` (R59). -/
def tileAt (g p : Nat) : Nat :=
  104 * (g / 12) + (if g % 12 < 8 then 9 * (g % 12) + p else 72 + 8 * (g % 12 - 8) + p)

/-- Tiles of a compute region. -/
def regionTiles (g : Nat) : List Nat := (List.range (if g % 12 < 8 then 9 else 8)).map (tileAt g)

/-- Region of a channel (R115). -/
def chanRegion (c : Nat) : Nat := 24 + c / 6

/-- Region of a port: F0 to F11 and H0 in L0, F12 to F23 and H1 in L1. -/
def portRegion (i : Nat) : Nat := if i < 12 || i == 24 then 28 else 29

/-- A unit of an I/O region has its clock (R215, R371): those of H0 and H1 are never gated. -/
def Device.portClocked (d : Device) (i : Nat) : Bool := decide (24 ≤ i) || (d.region (portRegion i)).power == .run

/-- Region of a pacer's unit (Table 4.1). -/
def pacerRegion (p : Nat) : Nat :=
  if p < 208 then tileRegion p
  else if p < 280 then chanRegion (p - 256)
  else if p < 344 then chanRegion (p - 320)
  else portRegion (p - 384)

/-- Coupling distance d_Y (Table 9.2). -/
def couple (g : Nat) : Nat :=
  if g ≥ 24 then 0 else if g % 12 ≥ 8 then 1 else if g % 12 ≥ 4 then 2 else 3

/-- Node of a tile: X and Y (R115). -/
def tileNode (t : Nat) : Nat × Nat :=
  let k := tileRegion t % 12
  let p := tilePos t
  (12 * (t / 104) + 3 * (k % 4) + p % 3, 3 * (k / 4) + p / 3)

/-- The region that holds a node, and the tile at a compute node (R115). -/
def nodeRegion (x y : Nat) : Nat :=
  if y < 9 then 12 * (x / 12) + 4 * (y / 3) + (x % 12) / 3
  else if y = 9 then 24 + x / 6
  else if y = 10 then (if x < 12 then 28 else 29)
  else if x = 0 then 28 else if x = 23 then 29 else 30

/-- What stands at a node that can take a flit: the pacer identity of its unit (R115). At a channel node the BME's. -/
def nodeUnit (x y : Nat) : Option Nat :=
  if 24 ≤ x then none
  else if y < 9 then
    let g := nodeRegion x y
    let p := 3 * (y % 3) + x % 3
    if g % 12 ≥ 8 && p == 8 then none else some (tileAt g p)
  else if y = 9 then some (256 + x)
  else if y = 10 then some (384 + x)
  else if y = 11 && x == 0 then some 408
  else if y = 11 && x == 23 then some 409
  else none

/-- Node of a pacer's unit. -/
def pacerNode (p : Nat) : Nat × Nat :=
  if p < 208 then tileNode p
  else if p < 280 then (p - 256, 9)
  else if p < 344 then (p - 320, 9)
  else if p < 408 then (p - 384, 10)
  else if p = 408 then (0, 11) else (23, 11)

/-- Every pacer identity (Table 4.1). -/
def allPacers : List Nat :=
  List.range 208 ++ (List.range 24).map (· + 256) ++ (List.range 24).map (· + 320) ++ (List.range 26).map (· + 384)

/-- Active positions of the grade (R19): position 8 holds a spare, and so does all of W11 and E11 of the 176 grade. -/
def activePosition (grade176 : Bool) (t : Nat) : Bool :=
  tilePos t < 8 && !(grade176 && tileRegion t % 12 == 11)

/-! ### Tiles in service (R19, R182, R215) -/

/-- The copy of the journal in force: the valid one with the greater SEQ (R360). -/
def Faults.copy (f : Faults) : Option (Bool × JCopy) :=
  if f.journal0.valid && (!f.journal1.valid || decide (f.journal1.seq.toNat ≤ f.journal0.seq.toNat)) then some (false, f.journal0)
  else if f.journal1.valid then some (true, f.journal1)
  else none

/-- Entries of the journal. -/
def Faults.entries (f : Faults) : List JEntry :=
  match f.copy with
  | some c => c.2.entries
  | none => []

/-- A tile is unusable: fused off, journalled, or found failed since the last device reset (R182). -/
def Device.unusable (d : Device) (t : Nat) : Bool :=
  d.fuses.tileFuses.getLsbD t || d.flt.failedTiles.contains t || d.flt.entries.any fun e => e.tile == t

/-- A tile that runs when its region does: at an active position or substituted, and usable. A spare stays gated until it is
substituted (R19), and so does an unusable tile (R182). -/
def Device.inService (d : Device) (t : Nat) : Bool :=
  ((d.tile t).substituted || activePosition d.fuses.grade176 t) && !d.unusable t

/-- The clock branches of a region's tiles follow its power state (R215). -/
def Device.regate (g : Nat) (d : Device) : Device :=
  d.forAll (regionTiles g) fun t d =>
    let off := (d.region g).power == .gated || !d.inService t
    d.updTile t fun x => { x with gated := off }

/-- Set the power state of a compute region (Table 15.3). -/
def Device.setPower (g : Nat) (p : RegPower) (d : Device) : Device := (d.updRegion g fun r => { r with power := p }).regate g

/-! ### Ownership (R345, R346) -/

/-- OWNER of a pacer's unit. -/
def Device.pacerOwner (d : Device) (p : Nat) : W16 :=
  if p < 208 then (d.tile p).owner
  else if p < 280 then (d.bme (p - 256)).owner
  else if p < 344 then (d.chan (p - 320)).owner
  else (d.port (p - 384)).owner

/-- Write OWNER of a pacer's unit. -/
def Device.setOwner (p : Nat) (o : W16) (d : Device) : Device :=
  if p < 208 then d.updTile p fun t => { t with owner := o }
  else if p < 280 then d.updBme (p - 256) fun t => { t with owner := o }
  else if p < 344 then d.updChan (p - 320) fun t => { t with owner := o }
  else d.updPort (p - 384) fun t => { t with owner := o }

/-- Current PCID of a partition (R345). -/
def Device.pcid (d : Device) (k : Nat) : W16 := BitVec.ofNat 16 (k * 8192 + (d.part k).gen % 8192)

/-- Partition of a PCID. -/
def pcidPart (o : W16) : Nat := o.toNat / 8192

/-- The partition an OWNER names, when it is that partition's current PCID (R346). -/
def Device.ownerPart (d : Device) (o : W16) : Option Nat :=
  if o.toNat % 8192 = 0 then none
  else if d.pcid (pcidPart o) = o then some (pcidPart o) else none

/-- Partition that owns a pacer's unit at present. -/
def Device.pacerPart (d : Device) (p : Nat) : Option Nat := d.ownerPart (d.pacerOwner p)

/-- The pacers a partition's image uses, by physical identity (R84, R185). -/
def Device.pacersOf (d : Device) (k : Nat) : List Nat :=
  match (d.part k).image with
  | some im => im.pacers.map (·.2)
  | none => []

/-- Regions assigned to a partition, as generator indices (R189). -/
def Part.regionList (p : Part) : List Nat := (List.range 24).filter fun g => p.regions.getLsbD g

/-- The compute regions whose power follows a partition: its own and the regions D11 lent to it, which are lent whole (R182). -/
def Part.poweredList (p : Part) : List Nat := (List.range 24).filter fun g => p.regions.getLsbD g || p.lent.contains g

/-- Channels of a partition's groups (R149). -/
def Part.chanList (p : Part) : List Nat := (List.range 24).filter fun c => p.groups.getLsbD (c / 3)

/-- The partition that holds a channel's group, if any (R149). -/
def Device.chanPart (d : Device) (c : Nat) : Option Nat :=
  partList.find? fun k => (d.part k).groups.getLsbD (c / 3)

/-- The partition that holds a compute region, if any (R189). -/
def Device.regionPart (d : Device) (g : Nat) : Option Nat :=
  partList.find? fun k => (d.part k).regions.getLsbD g

/-- A unit of a self-test that runs (R340, R406): test numbers of Table 17.3 and its target. -/
def Device.testing (d : Device) (tests : List Nat) (target : Nat) : Bool :=
  match d.st.running with
  | some r => tests.contains r.test && r.target.toNat == target
  | none => false

/-- Some pacer state in which a plan is under way (R235, R253). -/
def PState.active : PState → Bool
  | .running | .waiting | .hold | .sleep | .draining => true
  | _ => false

/-- No pacer of the device is running a plan. -/
def Device.quiet (d : Device) : Bool := d.pacers.all fun x => !x.2.state.active

/-- A partition is running a plan. -/
def Device.running (d : Device) (k : Nat) : Bool := (d.part k).run.phase == .running

/-! ### Plan cycles and holds (R246 to R248) -/

/-- F_X of a region under a hold (R246). A region that had not yet resumed from the hold before stays where it froze. -/
def Hold.fx (h : Hold) (g : Nat) : Nat :=
  let base := h.fMin + 2 + couple g
  let own := Map.get 0 h.own g
  max (if own = 0 then base else min own base) (Map.get 0 h.frozen g)

/-- The plan cycle in which region `g` of a run stands in cycle `c` when no hold is under way, or none while its units are still
frozen: before F_X it runs on at its old offset, from M + (F_X - F_min) on at the new one (R248). -/
def Run.flowing (r : Run) (g c : Nat) : Option Nat :=
  match r.resumed with
  | some (h, m) =>
    if c < h.fx g then some (c - (r.lost - (m - h.fMin)))
    else if c < m + (h.fx g - h.fMin) then none
    else some (c - r.lost)
  | none => some (c - r.lost)

/-- The plan cycle in which region `g` of partition `k` stands, or none while its units are frozen (R246, R248). -/
def Device.planCyc (d : Device) (k g : Nat) : Option Nat :=
  let r := (d.part k).run
  match r.hold with
  | some h => if d.cyc < h.fx g then r.flowing g d.cyc else none
  | none => r.flowing g d.cyc

/-- The plan cycle of a pacer's unit; the device's own cycle when no current context owns it. -/
def Device.pacerCyc (d : Device) (p : Nat) : Option Nat :=
  match d.pacerPart p with
  | some k => d.planCyc k (pacerRegion p)
  | none => some d.cyc

/-- Repeatability mode of the device is lockstep (R175). -/
def Device.lockstep (d : Device) : Bool := d.mb.devMode == some false
/-- Repeatability mode of the device is cadence. -/
def Device.cadence (d : Device) : Bool := d.mb.devMode == some true

/-- SPLIT of a trace or completion record, which CYC_STAMP replaces by the cycle counted from S (R253). -/
def Device.stamp (d : Device) (k : Nat) (at_ : Nat) (sp : W64) : W64 :=
  if d.clk.cycStamp then BitVec.ofNat 64 (2 ^ 63 + (at_ - (d.part k).run.startCyc)) else sp

/-! ### Values at the start of a cycle (R103) -/

/-- Remember what an element held before its first change in cycle `c`. -/
def rememberOld {α : Type} (c i : Nat) (v : α) (l : List (Nat × Nat × α)) : List (Nat × Nat × α) :=
  let l := l.filter fun e => e.1 == c
  if l.any fun e => e.2.1 == i then l else l ++ [(c, i, v)]

/-- What an element held at the start of cycle `c`. -/
def atStart {α : Type} (c i : Nat) (v : α) (l : List (Nat × Nat × α)) : α :=
  match l.find? fun e => e.1 == c && e.2.1 == i with
  | some e => e.2.2
  | none => v

/-- A step of the life-cycle row counts as burnt when either of its bits reads burnt (R385). -/
def Fuses.burnt (f : Fuses) (i : Nat) : Bool := f.row.getLsbD (2 * i) || f.row.getLsbD (2 * i + 1)

/-- The number of burnt steps (R385). -/
def Fuses.steps (f : Fuses) : Nat := (List.range 16).countP f.burnt

/-- Either SCRAP bit reads burnt (R385). -/
def Fuses.scrap (f : Fuses) : Bool := f.scrapPair != 0

/-- The burnt count of FW_SVN (R389, R394). -/
def Fuses.fwSvn (f : Fuses) : Nat := (List.range 64).countP fun i => f.svnBits.getLsbD i

/-- Life-cycle state from the fuse steps (R385): 0 BLANK, 1 MANUFACTURE, 2 PROVISIONED, 3 DEPLOYED, 4 RETURNED,
5 SCRAPPED. -/
def Fuses.lc (f : Fuses) : Nat :=
  if f.scrap then 5 else if f.steps < 3 then f.steps else if f.steps % 2 = 1 then 3 else 4

/-- Sending and receiving region of a relay, when its link exists and crosses a region boundary (R226). -/
def relayRegions (r : Nat) : Option (Nat × Nat) :=
  let i := r - 1024
  let x := i / 4 % 24
  let y := i / 4 / 24
  let to_ : Option (Nat × Nat) := match i % 4 with
    | 0 => if x < 23 then some (x + 1, y) else none
    | 1 => if 0 < x then some (x - 1, y) else none
    | 2 => if y < 11 then some (x, y + 1) else none
    | _ => if 0 < y then some (x, y - 1) else none
  match to_ with
  | some (x', y') =>
    let a := nodeRegion x y
    let b := nodeRegion x' y'
    if a = b ∨ 12 ≤ y then none else some (a, b)
  | none => none

/-- The pace region whose split an event of a unit carries (Table 14.3, R236): the receiving region of a relay, and S0 for what belongs to
no other region. -/
def unitRegion (u : Nat) : Nat :=
  if u < 1024 then pacerRegion u
  else if u < 2176 then ((relayRegions u).map (·.2)).getD 30
  else if 2304 ≤ u ∧ u < 2328 then chanRegion (u - 2304)
  else if 2384 ≤ u ∧ u < 2410 then portRegion (u - 2384)
  else 30

end Sys2Proof.Machine
end

