-- ==== Sys2Proof/Machine/Units.lean ====
section
/-! DEFINITION. Transport units (R298, Tables 12.2 to 12.4, 8.9, 13.1): class, length, and the bytes they are on a class
stream. -/

namespace Sys2Proof

/-- CTYPE of a cell (Tables 12.4 and 13.1). -/
def Cell.ctype : Cell → Nat
  | .ack .. => 1 | .cnp .. => 2 | .timeReq .. => 3 | .timeRsp .. => 4 | .cancel .. => 5 | .cancelResult .. => 6
  | .slotSet .. => 7 | .stepDone .. => 8 | .heatAbort .. => 9 | .pfDigest .. => 0xA | .mirrorDone .. => 0xB

/-- A cell of the response class (Table 12.4). -/
def Cell.response : Cell → Bool
  | .ack .. | .cnp .. | .timeRsp .. | .cancelResult .. => true
  | _ => false

/-- The fields of a cell body from byte 4 on, as one number. -/
def Cell.fields : Cell → Nat
  | .ack s st e cc => s.toNat + (st % 16 + b2n e * 16) * 2 ^ 32 + cc % 64 * 2 ^ 40
  | .cnp s c => s.toNat + c % 2 * 2 ^ 32
  | .timeReq x => x.toNat
  | .timeRsp x t2 t3 => x.toNat + t2.toNat * 2 ^ 32 + t3.toNat * 2 ^ 96
  | .cancel r t => r % 2 ^ 20 + t.toNat * 2 ^ 20
  | .cancelResult r t x => r % 2 ^ 20 + t.toNat * 2 ^ 20 + x % 16 * 2 ^ 36
  | .slotSet p sl r q o st n k =>
      p % 8 + sl % 2 ^ 13 * 2 ^ 3 + r % 2 ^ 20 * 2 ^ 16 + q % 2 ^ 31 * 2 ^ 36 + b2n o * 2 ^ 67 + st % 16 * 2 ^ 68 +
        n % 256 * 2 ^ 72 + k % 2 ^ 32 * 2 ^ 80
  | .stepDone p c k => p % 8 + c % 2 ^ 13 * 2 ^ 3 + k % 2 ^ 32 * 2 ^ 16
  | .heatAbort h pc c => h.toNat + pc.toNat * 2 ^ 32 + c.toNat * 2 ^ 48
  | .pfDigest h l ld => h.toNat + l.toNat * 2 ^ 32 + ld.toNat * 2 ^ 64
  | .mirrorDone k c => k.toNat + c % 2 ^ 32 * 2 ^ 64

/-- TYPE of a unit (Table 12.2). -/
def UKind.code : UKind → Nat
  | .put => 1 | .get => 2 | .getrsp => 3 | .cell => 4

/-- Class of a unit: 0 request, 1 response. -/
def XUnit.cls (u : XUnit) : Nat :=
  match u.kind with
  | .put | .get => 0
  | .getrsp => 1
  | .cell => b2n u.body.response

/-- Bytes of payload that follow the extension (R298). -/
def XUnit.pay (u : XUnit) : Nat :=
  match u.kind with
  | .put => u.len
  | .getrsp => if u.status = 0 then u.len else 0
  | _ => 0

/-- Bytes of a unit on its class stream (R298). -/
def XUnit.size (u : XUnit) : Nat :=
  match u.kind with
  | .cell => 48
  | _ => 40 + u.pay

/-- The common header (Table 12.2) as a 128-bit number. -/
def XUnit.header (u : XUnit) : Nat :=
  u.kind.code + b2n u.planned * 2 ^ 4 + b2n u.ackReq * 2 ^ 5 + b2n u.resend * 2 ^ 6 + b2n u.ce * 2 ^ 7 +
    u.dstPart % 8 * 2 ^ 8 + u.srcPart % 8 * 2 ^ 11 + b2n u.loc * 2 ^ 14 + b2n u.mir * 2 ^ 15 + u.dstId.toNat * 2 ^ 16 +
    u.srcId.toNat * 2 ^ 32 + u.dstEpoch.toNat * 2 ^ 48 + u.seq.toNat * 2 ^ 64 + u.stamp.toNat * 2 ^ 96

/-- The packet extension (Table 12.3), offsets from 0x10. -/
def XUnit.ext (u : XUnit) : Nat :=
  u.addr % 2 ^ 48 + u.srcEpoch.toNat * 2 ^ 48 + u.raddr % 2 ^ 48 * 2 ^ 64 + u.len % 2 ^ 13 * 2 ^ 112 +
    u.dstCc % 64 * 2 ^ 128 + u.ackCc % 64 * 2 ^ 136 + u.status % 16 * 2 ^ 144 + u.wslot % 64 * 2 ^ 152

/-- A byte list cut or filled with zeros to `n` bytes. -/
def fitBytes (n : Nat) (l : List Byte) : List Byte := l.take n ++ List.replicate (n - l.length) 0

/-- The bits of a cell body from byte 4 on that its CTYPE names (Tables 12.4, 8.9 and 13.1). -/
def Cell.named : Cell → Nat
  | .ack .. => 2 ^ 37 - 1 + 63 * 2 ^ 40
  | .cnp .. => 2 ^ 33 - 1
  | .timeReq .. => 2 ^ 32 - 1
  | .timeRsp .. => 2 ^ 160 - 1
  | .cancel .. => 2 ^ 36 - 1
  | .cancelResult .. => 2 ^ 40 - 1
  | .slotSet .. => 2 ^ 112 - 1
  | .stepDone .. => 2 ^ 48 - 1
  | .heatAbort .. => 2 ^ 56 - 1
  | .pfDigest .. => 2 ^ 128 - 1
  | .mirrorDone .. => 2 ^ 96 - 1

/-- The reserved bits of a unit's packet extension, or of its cell body (R298): on receipt they are ignored, and a node that forwards the
unit leaves them as they are (R297, R299). -/
def XUnit.reserved (u : XUnit) : Nat :=
  match u.kind with
  | .cell => (2 ^ 24 - 1) * 2 ^ 8 + (2 ^ 224 - 1 - u.body.named) * 2 ^ 32
  | _ => 7 * 2 ^ 125 + 3 * 2 ^ 134 + 3 * 2 ^ 142 + 15 * 2 ^ 148 + 3 * 2 ^ 158 + (2 ^ 32 - 1) * 2 ^ 160

/-- The bytes of a unit on its class stream (R298). -/
def XUnit.bytes (u : XUnit) : List Byte :=
  leBytes 16 u.header ++
    (match u.kind with
     | .cell => leBytes 32 (u.body.ctype + u.body.fields * 2 ^ 32 + Nat.land u.resv u.reserved)
     | _ => leBytes 24 (u.ext + Nat.land u.resv u.reserved) ++ fitBytes u.pay u.payload)

/-- A stream unit: neither PLANNED nor LOCAL (R300). -/
def XUnit.stream (u : XUnit) : Bool := !u.planned && !u.loc

end Sys2Proof

namespace Sys2Proof.Machine

/-- STAMP of now: TIME[47:16] (Table 12.2). -/
def Device.stampNow (d : Device) : W32 := BitVec.ofNat 32 (d.tk.time.toNat / 2 ^ 16)

/-- Age of a unit in units of 4.096 µs, 0 when negative (R301). -/
def Device.age (d : Device) (u : XUnit) : Nat := (d.stampNow - u.stamp).toInt.toNat

/-- A stale unit (R301). -/
def Device.stale (d : Device) (u : XUnit) : Bool := d.tr.lifetime < d.age u

end Sys2Proof.Machine
end

