-- ==== Sys2Proof/Machine/Flash.lean ====
section
/-! DEFINITION. The bytes of the NOR flash (R359): the journal copies (R360), the crash ring (R363), and the fault record that a
crash record quotes (Table 14.1). -/

namespace Sys2Proof.Machine

/-- One bit step of CRC-32C, least significant bit first. -/
def crc32cBit (r : Nat) : Nat := if r % 2 = 1 then Nat.xor (r / 2) 0x82F63B78 else r / 2

/-- CRC-32C of bytes. R360 and R363 name it without its parameters: those of RFC 3720 (PRESUMED, log entry 56). -/
def crc32c (bs : List Byte) : W32 :=
  BitVec.ofNat 32 (Nat.xor 0xFFFFFFFF (bs.foldl (fun r b => (List.range 8).foldl (fun r _ => crc32cBit r) (Nat.xor r b.toNat)) 0xFFFFFFFF))

/-- Bytes followed by their CRC-32C. -/
def withCrc (bs : List Byte) : List Byte := bs ++ leBytes 4 (crc32c bs).toNat

/-- A fault record of 64 B (Table 14.1). -/
def FaultRec.bytes (r : FaultRec) : List Byte :=
  leBytes 8 r.split.toNat ++ leBytes 4 r.bib.toNat ++ leBytes 2 r.pcid.toNat ++ leBytes 2 r.unit ++ leBytes 2 r.code ++ leBytes 1 r.action ++
    leBytes 1 0 ++ leBytes 4 r.seq.toNat ++ leBytes 8 r.addr ++ leBytes 1 (b2n r.drill + b2n r.second * 2 + b2n r.transient * 4) ++
    leBytes 1 r.cause ++ leBytes 2 r.repeats.toNat ++ fitBytes 28 r.specific

/-- A journal copy as programmed (R360). -/
def JCopy.bytes (c : JCopy) : List Byte :=
  withCrc (leBytes 4 0x4C4E524A ++ leBytes 4 c.seq.toNat ++
    leBytes 26 ((List.range 208).foldl (fun a t => if c.entries.any fun e => e.tile == t then a + 2 ^ t else a) 0) ++
    (c.entries.map fun e => leBytes 2 e.tile ++ leBytes 2 e.code ++ leBytes 8 e.split.toNat ++ leBytes 4 0).flatten)

/-- A crash record of 256 B (R363); a list shorter than its field leaves zeros. -/
def CrashRec.bytes (r : CrashRec) : List Byte :=
  fitBytes 256 (withCrc (leBytes 4 0x48535243 ++ leBytes 4 r.bootCount.toNat ++ leBytes 8 r.split.toNat ++ leBytes 2 r.code ++
    fitBytes 6 (r.rails.map (leBytes 2)).flatten ++ fitBytes 16 (r.pcids.map fun p => leBytes 2 p.toNat).flatten ++
    fitBytes 192 (r.last.map FaultRec.bytes).flatten))

/-- What one place of the flash holds (R359): a journal copy, a crash slot, or nothing programmed. A copy or a slot that is not valid
holds no bytes that the spec gives. -/
inductive FlashPart where
  | copy (c : JCopy)
  | crash (r : CrashRec)
  | erased
  deriving DecidableEq, Repr

/-- The part of the flash that offset `o` lies in, and the offset of its first byte. -/
def Faults.flashAt (f : Faults) (o : Nat) : FlashPart × Nat :=
  if o < 0x10000 then (.copy f.journal0, 0)
  else if o < 0x20000 then (.copy f.journal1, 0x10000)
  else if o < 0x24000 then (.crash (Map.get {} f.crash ((o - 0x20000) / 256)), 0x20000 + (o - 0x20000) / 256 * 256)
  else (.erased, o)

/-- The bytes of the flash at offset `o` on, as far as the spec gives them. -/
def FlashPart.bytes : FlashPart → Option (List Byte)
  | .copy c => if c.valid then some c.bytes else none
  | .crash r => if r.valid then some r.bytes else none
  | .erased => none

/-- The next crash slot is erased (R363: kept so from boot onward). -/
def Faults.eraseNext (f : Faults) : Faults := { f with crash := Map.set {} f.crash f.crashNext {} }

end Sys2Proof.Machine
end

