-- ==== Sys2Proof/Machine/Float.lean ====
section
/-! DEFINITION. Number formats and their arithmetic (R29 to R39, R50 to R52, R81, R82): values, decoding, rounding once,
FP32 arithmetic, conversions, microscaling blocks and the special functions. -/

namespace Sys2Proof.Machine

/-! ### Values and decoding (R30, R34, R37) -/

/-- A decoded value: NaN, an infinity with its sign, or (-1)^neg × m × 2^e. -/
inductive FV where
  | nan
  | inf (neg : Bool)
  | fin (neg : Bool) (m : Nat) (e : Int)
  deriving DecidableEq, Repr

/-- A floating-point format (Table 2.2): exponent and mantissa bits, bias, the code of the largest finite magnitude, the
code of infinity where it has one, and the codes from `nanFrom` on that are NaN. -/
structure FFmt where
  eb : Nat
  mb : Nat
  bias : Nat
  maxFin : Nat
  infCode : Option Nat
  nanFrom : Nat
  deriving DecidableEq, Repr

def fmtFp32 : FFmt := { eb := 8, mb := 23, bias := 127, maxFin := 0x7F7FFFFF, infCode := some 0x7F800000, nanFrom := 0x7F800001 }
def fmtBf16 : FFmt := { eb := 8, mb := 7, bias := 127, maxFin := 0x7F7F, infCode := some 0x7F80, nanFrom := 0x7F81 }
def fmtE4m3 : FFmt := { eb := 4, mb := 3, bias := 7, maxFin := 0x7E, infCode := none, nanFrom := 0x7F }
def fmtE5m2 : FFmt := { eb := 5, mb := 2, bias := 15, maxFin := 0x7B, infCode := some 0x7C, nanFrom := 0x7D }
def fmtE2m3 : FFmt := { eb := 2, mb := 3, bias := 1, maxFin := 0x1F, infCode := none, nanFrom := 0x20 }
def fmtE3m2 : FFmt := { eb := 3, mb := 2, bias := 3, maxFin := 0x1F, infCode := none, nanFrom := 0x20 }
def fmtE2m1 : FFmt := { eb := 2, mb := 1, bias := 1, maxFin := 0x7, infCode := none, nanFrom := 0x8 }

/-- Exponent of the smallest subnormal. -/
def FFmt.q0 (f : FFmt) : Int := 1 - f.bias - f.mb
/-- Weight of the sign bit. -/
def FFmt.signBit (f : FFmt) : Nat := 2 ^ (f.eb + f.mb)

/-- Decode a code of a floating-point format (R30). -/
def FFmt.decode (f : FFmt) (c : Nat) : FV :=
  let neg := decide (f.signBit ≤ c % (2 * f.signBit))
  let a := c % f.signBit
  if f.infCode = some a then .inf neg
  else if f.nanFrom ≤ a then .nan
  else
    let ex := a / 2 ^ f.mb
    let m := a % 2 ^ f.mb
    if ex = 0 then .fin neg m f.q0 else .fin neg (2 ^ f.mb + m) (f.q0 + ex - 1)

/-- FP32 bits as a value. -/
def fp32 (x : W32) : FV := fmtFp32.decode x.toNat

/-- Number of bits of a number. -/
def bitLen (n : Nat) : Nat := if n = 0 then 0 else Nat.log2 n + 1

/-! ### Rounding (R30, R38) -/

/-- Round m × 2^e with `mb` mantissa bits and smallest exponent `q0`, to nearest even or toward zero, as the code of the
magnitude without an upper limit. -/
def roundMag (mb : Nat) (q0 : Int) (rz : Bool) (m : Nat) (e : Int) : Nat :=
  let top : Int := e + bitLen m - 1
  let q := max (top - mb) q0
  let k :=
    if q ≤ e then m * 2 ^ (e - q).toNat
    else
      let r := (q - e).toNat
      let k := m / 2 ^ r
      let rem := m % 2 ^ r
      let half := 2 ^ (r - 1)
      if rz then k else if rem > half ∨ (rem = half ∧ k % 2 = 1) then k + 1 else k
  (q - q0).toNat * 2 ^ mb + k

/-- Round to FP32 by RNE: overflow gives infinity. -/
def toFp32 (v : FV) : W32 :=
  match v with
  | .nan => 0x7FC00000
  | .inf neg => BitVec.ofNat 32 (0x7F800000 + b2n neg * 2 ^ 31)
  | .fin neg m e =>
    let a := if m = 0 then 0 else roundMag 23 (-149) false m e
    BitVec.ofNat 32 (min a 0x7F800000 + b2n neg * 2 ^ 31)

/-! ### FP32 arithmetic (R51) -/

/-- A finite value as a signed count of 2^e0. -/
def scaled (neg : Bool) (m : Nat) (e e0 : Int) : Int :=
  let n : Int := (m * 2 ^ (e - e0).toNat : Nat)
  if neg then -n else n

/-- Exact sum of two values; a zero sum of opposite signs is +0. -/
def FV.add (a b : FV) : FV :=
  match a, b with
  | .nan, _ => .nan
  | _, .nan => .nan
  | .inf s, .inf t => if s = t then .inf s else .nan
  | .inf s, .fin _ _ _ => .inf s
  | .fin _ _ _, .inf t => .inf t
  | .fin s m e, .fin t n f =>
    let e0 := min e f
    let x := scaled s m e e0 + scaled t n f e0
    if x = 0 then .fin (if m = 0 ∧ n = 0 then s && t else false) 0 0 else .fin (decide (x < 0)) x.natAbs e0

/-- Exact product. Infinity times infinity, of which R45 does not speak, is the infinity of the product's sign (DESIGN CHOICE, log entry
47). -/
def FV.mul (a b : FV) : FV :=
  match a, b with
  | .nan, _ => .nan
  | _, .nan => .nan
  | .inf s, .inf t => .inf (s != t)
  | .inf s, .fin t n _ => if n = 0 then .nan else .inf (s != t)
  | .fin s m _, .inf t => if m = 0 then .nan else .inf (s != t)
  | .fin s m e, .fin t n f => .fin (s != t) (m * n) (e + f)

def FV.neg (a : FV) : FV :=
  match a with
  | .nan => .nan
  | .inf s => .inf (!s)
  | .fin s m e => .fin (!s) m e

def fpAdd (a b : W32) : W32 := toFp32 ((fp32 a).add (fp32 b))
def fpSub (a b : W32) : W32 := toFp32 ((fp32 a).add (fp32 b).neg)
def fpMul (a b : W32) : W32 := toFp32 ((fp32 a).mul (fp32 b))
def fpFma (a b c : W32) : W32 := toFp32 (((fp32 a).mul (fp32 b)).add (fp32 c))

/-- Rank of an FP32 value other than NaN, with -0 below +0. -/
def fpRank (x : W32) : Int := if x.toNat < 2 ^ 31 then (x.toNat : Int) else (2 ^ 31 : Int) - x.toNat - 1

/-- IEEE 754-2019 minimum. -/
def fpMin (a b : W32) : W32 :=
  if fp32 a = .nan ∨ fp32 b = .nan then 0x7FC00000 else if fpRank a ≤ fpRank b then a else b
/-- IEEE 754-2019 maximum. -/
def fpMax (a b : W32) : W32 :=
  if fp32 a = .nan ∨ fp32 b = .nan then 0x7FC00000 else if fpRank b ≤ fpRank a then a else b

/-- Sign cleared; a NaN gives the canonical NaN (Table 3.5). -/
def fpAbs (a : W32) : W32 := if fp32 a = .nan then 0x7FC00000 else a &&& 0x7FFFFFFF
/-- Sign inverted; a NaN gives the canonical NaN. -/
def fpNeg (a : W32) : W32 := if fp32 a = .nan then 0x7FC00000 else a ^^^ 0x80000000

/-! ### Formats by code (Table 4.8) -/

/-- Width in bits of an element of a format code. -/
def fmtWidth (f : Nat) : Nat :=
  match f with
  | 0 => 32 | 1 => 16 | 2 => 8 | 3 => 8 | 4 => 6 | 5 => 6 | 6 => 4 | 7 => 8 | 8 => 4
  | 9 => 8 | 10 => 8 | 11 => 6 | 12 => 6 | 13 => 4 | 14 => 8 | _ => 8

/-- An MX format. -/
def fmtMx (f : Nat) : Bool := 9 ≤ f && f ≤ 14
/-- An integer element type. -/
def fmtInt (f : Nat) : Bool := f == 7 || f == 8 || f == 14

/-- Floating-point format of a format code's elements. -/
def fmtElem (f : Nat) : FFmt :=
  match f with
  | 0 => fmtFp32 | 1 => fmtBf16 | 2 => fmtE4m3 | 9 => fmtE4m3 | 3 => fmtE5m2 | 10 => fmtE5m2 | 4 => fmtE2m3 | 11 => fmtE2m3
  | 5 => fmtE3m2 | 12 => fmtE3m2 | _ => fmtE2m1

/-- Value of an element code (R30, R34, R37): MXINT8 counts 2^-6. -/
def elemValue (f c : Nat) : FV :=
  if f = 7 then let i := signedField 8 c; .fin (decide (i < 0)) i.natAbs 0
  else if f = 8 then let i := signedField 4 c; .fin (decide (i < 0)) i.natAbs 0
  else if f = 14 then let i := signedField 8 c; .fin (decide (i < 0)) i.natAbs (-6)
  else (fmtElem f).decode c

/-- Element `i` of packed storage (R36). -/
def elemAt (f x i : Nat) : Nat := bits x (fmtWidth f * i) (fmtWidth f)

/-- Lines a 128-element vector takes (Table 3.3). -/
def fmtLines (f : Nat) : Nat := (fmtWidth f * 128 + 511) / 512

/-! ### Loads (Table 2.4) -/

/-- Scale × element as FP32, RNE (R34, R38): a scale of 0xFF gives NaN. -/
def mxValue (scale : Nat) (v : FV) : W32 :=
  if scale = 0xFF then 0x7FC00000
  else match v with
    | .fin neg m e => toFp32 (.fin neg m (e + scale - 127))
    | w => toFp32 w

/-- The 128 lanes of a vector load: packed elements and, for an MX format, four scales (R38). FP32 is copied. -/
def loadLanes (f x : Nat) (scales : List Nat) : List W32 :=
  (List.range 128).map fun i =>
    let c := elemAt f x i
    if f = 0 then BitVec.ofNat 32 c
    else if fmtMx f then mxValue (scales.getD (i / 32) 0) (elemValue f c)
    else toFp32 (elemValue f c)

/-! ### Converts (Table 2.4, R38) -/

/-- Round a value to an integer and saturate; the second part says that a NaN was converted. -/
def cvtInt (w : Nat) (rz : Bool) (v : FV) : Nat × Bool :=
  let top := 2 ^ (w - 1)
  match v with
  | .nan => (0, true)
  | .inf neg => (if neg then top else top - 1, false)
  | .fin neg m e =>
    let k :=
      if 0 ≤ e then m * 2 ^ e.toNat
      else
        let r := (-e).toNat
        let k := m / 2 ^ r
        let rem := m % 2 ^ r
        if rz then k else if rem > 2 ^ (r - 1) ∨ (rem = 2 ^ (r - 1) ∧ k % 2 = 1) then k + 1 else k
    if neg then (if k = 0 then 0 else 2 ^ w - min k top, false) else (min k (top - 1), false)

/-- Round a value to a floating-point format. `sat` decides overflow where the format can show it. -/
def cvtFloat (f : FFmt) (rz sat : Bool) (v : FV) : Nat × Bool :=
  let sg (neg : Bool) : Nat := b2n neg * f.signBit
  match v with
  | .nan =>
    -- E4M3, E5M2 and BF16 have a NaN (R31); FP6 and FP4 give +0, counted
    (if f.mb = 3 ∧ f.eb = 4 then (0x7F, false) else if f.eb = 5 then (0x7E, false) else if f.eb = 8 then (0x7FC0, false)
     else (0, true))
  | .inf neg =>
    (match f.infCode with
     | some i => (sg neg + i, false)
     | none => if f.eb = 4 then (if sat then sg neg + f.maxFin else 0x7F, false) else (sg neg + f.maxFin, false))
  | .fin neg m e =>
    let a := if m = 0 then 0 else roundMag f.mb f.q0 rz m e
    if a ≤ f.maxFin then (sg neg + a, false)
    else if rz then (sg neg + f.maxFin, false)
    else match f.infCode with
      | some i => if sat && f.eb == 5 then (sg neg + f.maxFin, false) else (sg neg + i, false)
      | none => if f.eb = 4 ∧ !sat then (0x7F, false) else (sg neg + f.maxFin, false)

/-- Convert an FP32 lane to a format code 0x1 to 0x8 (R38): code, and whether CVT_NAN_CNT counts. -/
def convert (f : Nat) (rz nonsat : Bool) (x : W32) : Nat × Bool :=
  if f = 7 then cvtInt 8 rz (fp32 x)
  else if f = 8 then cvtInt 4 rz (fp32 x)
  else cvtFloat (fmtElem f) rz (!nonsat) (fp32 x)

/-! ### Quantisation (R39) -/

/-- emax of an element type. -/
def mxEmax (f : Nat) : Int :=
  match f with
  | 9 => 8 | 10 => 15 | 11 => 2 | 12 => 4 | 13 => 2 | _ => 0

/-- An element of an MX block: x ÷ 2^e converted to the element type, saturating. -/
def mxElem (f : Nat) (rz : Bool) (e : Int) (v : FV) : Nat :=
  match v with
  | .fin neg m x =>
    if f = 14 then (cvtInt 8 rz (.fin neg m (x - e + 6))).1
    else (cvtFloat (fmtElem f) rz true (.fin neg m (x - e))).1
  | _ => 0

/-- Quantise 32 lanes into a scale and 32 element codes. -/
def quantise (f : Nat) (rz : Bool) (xs : List W32) : Nat × List Nat :=
  let vs := xs.map fp32
  if vs.any fun v => match v with | .fin _ _ _ => false | _ => true then (0xFF, vs.map fun _ => 0)
  else
    let logs := vs.filterMap fun v => match v with
      | .fin _ m e => if m = 0 then none else some (e + bitLen m - 1)
      | _ => none
    match logs with
    | [] => (0x7F, vs.map fun _ => 0)
    | l :: ls =>
      let e := min (max (ls.foldl max l - mxEmax f) (-127)) 127
      ((e + 127).toNat, vs.map (mxElem f rz e))

/-! ### Lane reductions (R52) -/

/-- Combine adjacent pairs once. -/
def pairUp {α : Type} (op : α → α → α) : List α → List α
  | a :: b :: t => op a b :: pairUp op t
  | l => l

/-- The fixed binary tree over `2^n` values. A tree of one value gives it as it stands, a NaN's payload too, as a copy does
(DESIGN CHOICE, log entry 47). -/
def treeFold {α : Type} (op : α → α → α) : Nat → List α → List α
  | 0, l => l
  | n + 1, l => treeFold op n (pairUp op l)

/-- Apply `f` to each slot lane group of 2^g lanes and give its value to every lane of the group. -/
def byGroup (g : Nat) (f : List W32 → W32) (xs : List W32) : List W32 :=
  ((chunks (2 ^ g) 128 xs).map fun grp => List.replicate grp.length (f grp)).flatten

/-! ### Special functions (R81, R82, Table 3.6) -/

/-- Integer square root by bits, `n` bits of result at most. -/
def isqrtAux (x : Nat) : Nat → Nat → Nat
  | 0, r => r
  | n + 1, r => let t := r + 2 ^ n; isqrtAux x n (if t * t ≤ x then t else r)

/-- Floor of the square root of a number below 2^400. -/
def isqrt (x : Nat) : Nat := isqrtAux x 200 0

/-- 2^(f × 2^-64) × 2^128 for 0 ≤ f < 2^64, from the square roots of 2: `s` is 2^(2^-k) × 2^128 for the next bit. -/
def exp2Frac (f : Nat) : Nat → Nat → Nat → Nat
  | 0, _, acc => acc
  | k + 1, s, acc =>
    let s' := isqrt (s * 2 ^ 128)
    exp2Frac f k s' (if f.testBit k then acc * s' / 2 ^ 128 else acc)

/-- 2^t for t a signed count of 2^-64: mantissa and exponent. -/
def exp2Fix (t : Int) : Nat × Int :=
  let i := t / 2 ^ 64
  let f := (t % 2 ^ 64).toNat
  (exp2Frac f 64 (2 * 2 ^ 128) (2 ^ 128), i - 128)

/-- m × 2^e as a count of 2^-64, toward minus infinity. -/
def toFix64 (neg : Bool) (m : Nat) (e : Int) : Int :=
  let n : Int := (m : Int)
  let n := if neg then -n else n
  if 0 ≤ e + 64 then n * 2 ^ (e + 64).toNat else n / 2 ^ (-(e + 64)).toNat

/-- log2 of e, as a count of 2^-128. -/
def log2eFix : Nat := 490923683258796565746369346286093237521

/-- The FP32 magnitudes within `b` ULP of m × 2^e (R82), of the neighbours of that value; one part in 2^40 of an ULP is
allowed for the value's own approximation (DESIGN CHOICE, log entry 12). -/
def ulpCandidates (b m : Nat) (e : Int) : List Nat :=
  let q := max (e + bitLen m - 1 - 23) (-149)
  let n0 := roundMag 23 (-149) true m e
  let lim := b * 2 ^ 64 + 2 ^ 24
  let y : Nat := if q - 64 ≤ e then m * 2 ^ (e - (q - 64)).toNat else m / 2 ^ ((q - 64) - e).toNat
  let near := ((List.range 7).map fun i => n0 + i - 3).filter fun n => n ≤ 0x7F7FFFFF
  near.filter fun n =>
    match fmtFp32.decode n with
    | .fin _ k f =>
      let z : Nat := if q - 64 ≤ f then k * 2 ^ (f - (q - 64)).toNat else k / 2 ^ ((q - 64) - f).toNat
      ((z : Int) - y).natAbs ≤ lim
    | _ => false

/-- One of the values within the bound, by the reference model's own choice (DESIGN CHOICE, log entry 12). -/
def sfuPick (fn : Nat) (x : W32) (neg : Bool) (b m : Nat) (e : Int) : W32 :=
  let c := ulpCandidates b m e
  BitVec.ofNat 32 (c.getD (Config.sfuChoice fn x % max c.length 1) 0 + b2n neg * 2 ^ 31)

/-- The exponent of a power of two m × 2^e. -/
def powerOf2 (m : Nat) (e : Int) : Option Int := if 2 ^ Nat.log2 m = m then some (e + Nat.log2 m) else none

def sfuExp2 (x : W32) : W32 :=
  match fp32 x with
  | .nan => 0x7FC00000
  | .inf neg => if neg then 0 else 0x7F800000
  | .fin neg m e =>
    if m = 0 then 0x3F800000
    else
      let t := toFix64 neg m e
      if !neg && decide (128 * 2 ^ 64 ≤ t) then 0x7F800000
      else if neg && decide (t < -150 * 2 ^ 64) then 0
      else
        let whole := 0 ≤ e ∨ m % 2 ^ (-e).toNat = 0
        let i := t / 2 ^ 64
        if whole ∧ -149 ≤ i then toFp32 (.fin false 1 i)
        else let y := exp2Fix t; sfuPick 0 x false 1 y.1 y.2

def sfuRcp (x : W32) : W32 :=
  match fp32 x with
  | .nan => 0x7FC00000
  | .inf neg => BitVec.ofNat 32 (b2n neg * 2 ^ 31)
  | .fin neg m e =>
    let inf : W32 := BitVec.ofNat 32 (0x7F800000 + b2n neg * 2 ^ 31)
    if m = 0 then inf
    else if e + bitLen m - 1 < -128 then inf
    else match powerOf2 m e with
      | some k => if k = -128 then sfuPick 1 x neg 1 (2 ^ 200 / m) (-e - 200) else toFp32 (.fin neg 1 (-k))
      | none => sfuPick 1 x neg 1 (2 ^ 200 / m) (-e - 200)

def sfuRsq (x : W32) : W32 :=
  match fp32 x with
  | .nan => 0x7FC00000
  | .inf neg => if neg then 0x7FC00000 else 0
  | .fin neg m e =>
    if m = 0 then BitVec.ofNat 32 (0x7F800000 + b2n neg * 2 ^ 31)
    else if neg then 0x7FC00000
    else
      let odd := e % 2 != 0
      let m' := if odd then 2 * m else m
      let e' := if odd then e - 1 else e
      match powerOf2 m e with
      | some k => if k % 2 = 0 then toFp32 (.fin false 1 (-(k / 2))) else sfuPick 2 x false 2 (isqrt (2 ^ 300 / m')) (-(e' / 2) - 150)
      | none => sfuPick 2 x false 2 (isqrt (2 ^ 300 / m')) (-(e' / 2) - 150)

def sfuLog (x : W32) : W32 :=
  match fp32 x with
  | .nan => 0x7FC00000
  | .inf neg => if neg then 0 else 0x3F800000
  | .fin neg m e =>
    if m = 0 then 0x3F000000
    else
      let t := toFix64 neg m e
      if !neg && decide (128 * 2 ^ 64 ≤ t) then sfuPick 3 x false 2 (2 ^ 200 - 1) (-200)
      else if neg && decide (t < -256 * 2 ^ 64) then sfuPick 3 x false 2 1 (-400)
      else
        -- p = 2^(x log2 e) = y.1 × 2^y.2 ; result = p / (1 + p)
        let tl : Int :=
          let n : Int := (m : Int) * log2eFix
          let n := if neg then -n else n
          if 0 ≤ e - 64 then n * 2 ^ (e - 64).toNat else n / 2 ^ (-(e - 64)).toNat
        let y := exp2Fix tl
        if 0 ≤ y.2 then
          let p := y.1 * 2 ^ y.2.toNat
          sfuPick 3 x false 2 (p * 2 ^ 200 / (1 + p)) (-200)
        else
          let den := y.1 + 2 ^ (-y.2).toNat
          -- p / (1 + p) = y.1 / (y.1 + 2^-y.2)
          let sh := 200 + (-y.2).toNat
          sfuPick 3 x false 2 (y.1 * 2 ^ sh / den) (-(sh : Int))

end Sys2Proof.Machine
end

