-- ==== Sys2Proof/Machine/Operands.lean ====
section
/-! DEFINITION. The fields of strides (Tables 4.3 to 4.7, 5.3, 6.4, 12.6), of layer descriptors (Tables 4.9 to 4.11, 5.7,
6.5, 12.7) and of route words (Table 4.13). -/

namespace Sys2Proof.Machine

/-- The numbers with a bit set in a mask, in ascending order. -/
def maskList (n m : Nat) : List Nat := (List.range n).filter fun i => m.testBit i

/-! ### Strides (R88) -/

/-- A stride of a table (Table 4.3). -/
abbrev Stride := BitVec 128

def Stride.offset (w : Stride) : Nat := bits w.toNat 0 16
def Stride.op (w : Stride) : Nat := bits w.toNat 16 6
def Stride.dref (w : Stride) : Nat := bits w.toNat 22 6
def Stride.opnd (w : Stride) : Nat := bits w.toNat 32 64
def Stride.lw (w : Stride) : Nat := bits w.toNat 96 32

/-- A stride from its fields. -/
def Stride.mk' (offset op dref opnd lw : Nat) : Stride :=
  BitVec.ofNat 128 (offset % 2 ^ 16 + op % 2 ^ 6 * 2 ^ 16 + dref % 2 ^ 6 * 2 ^ 22 + opnd % 2 ^ 64 * 2 ^ 32 +
    lw % 2 ^ 32 * 2 ^ 96)

/-- The loop or wait field (Table 4.4). -/
inductive Lw where
  | none
  | loopBegin (ctr : Nat) (forever : Bool) (endIdx : Nat)
  | loopEnd (ctr beginIdx : Nat)
  | wait (cmp window : Nat)
  deriving DecidableEq, Repr

def lwDecode (x : Nat) : Lw :=
  match bits x 0 2 with
  | 0 => .none
  | 1 => .loopBegin (bits x 2 3) (bit x 5) (bits x 6 11)
  | 2 => .loopEnd (bits x 2 3) (bits x 6 11)
  | _ => .wait (bits x 2 2) (bits x 4 20)

/-! ### Operands of tile operations (Table 4.6) -/

structure OpRdb where
  chmask : Nat
  dest : Nat
  port : Nat
  route : Nat
  vreg : Nat
  fmt : Nat
  rep : Nat
  deriving DecidableEq, Repr

def rdbFields (o : Nat) : OpRdb :=
  { chmask := bits o 0 8, dest := bits o 8 3, port := bits o 11 2, route := bits o 13 4, vreg := bits o 17 5,
    fmt := bits o 22 4, rep := bits o 26 12 }

structure OpWrb where
  chmask : Nat
  src : Nat
  vreg : Nat
  fmt : Nat
  rz : Bool
  nonsat : Bool
  rep : Nat
  scales : Bool
  deriving DecidableEq, Repr

def wrbFields (o : Nat) : OpWrb :=
  { chmask := bits o 0 2, src := bits o 2 2, vreg := bits o 4 5, fmt := bits o 9 4, rz := bit o 13,
    nonsat := bit o 14, rep := bits o 15 12, scales := bit o 27 }

structure OpPass where
  bank : Nat
  sa0 : Nat
  sa1 : Nat
  blk0 : Nat
  blk1 : Nat
  row0 : Nat
  row1 : Nat
  step : Nat
  rep : Nat
  chmask : Nat
  deriving DecidableEq, Repr

def passFields (o : Nat) : OpPass :=
  { bank := bits o 0 4, sa0 := bits o 4 5, sa1 := bits o 9 5, blk0 := bits o 14 2, blk1 := bits o 16 2,
    row0 := bits o 18 7, row1 := bits o 25 7, step := bits o 32 3, rep := bits o 35 12, chmask := bits o 47 8 }

structure OpReadout where
  row : Nat
  fmt : Nat
  clear : Bool
  toCh : Bool
  vreg : Nat
  half : Bool
  deriving DecidableEq, Repr

def readoutFields (o : Nat) : OpReadout :=
  { row := bits o 0 7, fmt := bits o 7 2, clear := bit o 9, toCh := bit o 10, vreg := bits o 11 5, half := bit o 16 }

structure OpVop where
  subop : Nat
  vd : Nat
  va : Nat
  vb : Nat
  vc : Nat
  vd2 : Nat
  fmt : Nat
  rz : Bool
  nonsat : Bool
  deriving DecidableEq, Repr

def vopFields (o : Nat) : OpVop :=
  { subop := bits o 0 4, vd := bits o 4 5, va := bits o 9 5, vb := bits o 14 5, vc := bits o 19 5, vd2 := bits o 24 5,
    fmt := bits o 29 4, rz := bit o 33, nonsat := bit o 34 }

structure OpVsfu where
  fn : Nat
  vd : Nat
  va : Nat
  deriving DecidableEq, Repr

def vsfuFields (o : Nat) : OpVsfu := { fn := bits o 0 2, vd := bits o 2 5, va := bits o 7 5 }

/-! ### Operands of BME, DRAM channel and port operations -/

structure OpQload where
  qs : Nat
  qfirst : Nat
  rep : Nat
  deriving DecidableEq, Repr

def qloadFields (o : Nat) : OpQload := { qs := bits o 0 1, qfirst := bits o 1 6, rep := bits o 7 12 }

structure OpOpen where
  qs : Nat
  ts : Nat
  slot : Nat
  layer : Nat
  kvh : Nat
  qn : Nat
  npe : Nat
  qbase : Nat
  deriving DecidableEq, Repr

def openFields (o : Nat) : OpOpen :=
  { qs := bits o 0 1, ts := bits o 1 1, slot := bits o 2 13, layer := bits o 15 8, kvh := bits o 23 4,
    qn := bits o 27 6, npe := bits o 33 12, qbase := bits o 45 8 }

structure OpEmit where
  ts : Nat
  qfirst : Nat
  qn : Nat
  route : Nat
  deriving DecidableEq, Repr

def emitFields (o : Nat) : OpEmit := { ts := bits o 0 1, qfirst := bits o 1 6, qn := bits o 7 6, route := bits o 13 4 }

/-- DRD and DWR (Table 6.4). -/
structure OpDram where
  pat : Nat
  asrc : Nat
  dest : Nat
  route : Nat
  rep : Nat
  gap : Nat
  deriving DecidableEq, Repr

def dramFields (o : Nat) : OpDram :=
  { pat := bits o 0 3, asrc := bits o 3 2, dest := bits o 5 1, route := bits o 6 4, rep := bits o 10 12, gap := bits o 22 4 }

structure OpPsend where
  nflit : Nat
  peer : Nat
  wslot : Nat
  cc : Nat
  deriving DecidableEq, Repr

def psendFields (o : Nat) : OpPsend := { nflit := bits o 0 5, peer := bits o 5 4, wslot := bits o 9 6, cc := bits o 15 6 }

structure OpPdlv where
  wslot : Nat
  route : Nat
  nflit : Nat
  deriving DecidableEq, Repr

def pdlvFields (o : Nat) : OpPdlv := { wslot := bits o 0 6, route := bits o 6 4, nflit := bits o 10 5 }

structure OpQxfer where
  line : Nat
  count : Nat
  lcc : Nat
  deriving DecidableEq, Repr

def qxferFields (o : Nat) : OpQxfer := { line := bits o 0 42, count := bits o 42 12, lcc := bits o 54 6 }


/-- REP_M1 of an operation that repeats (R90, R151): code and operand. -/
def repOf (op o : Nat) : Nat :=
  if op = 0x10 then (rdbFields o).rep
  else if op = 0x11 then (wrbFields o).rep
  else if op = 0x12 then (passFields o).rep
  else if op = 0x20 then (qloadFields o).rep
  else if op = 0x28 ∨ op = 0x29 then (dramFields o).rep
  else if op = 0x30 then (psendFields o).nflit
  else 0

/-- Cycles between two issues of a repeat: 1, or GAP_M1 + 1 for DRAM operations (R151). -/
def gapOf (op o : Nat) : Nat := if op = 0x28 ∨ op = 0x29 then (dramFields o).gap + 1 else 1

/-! ### Descriptors -/

/-- A configuration: the 256 B of a layer descriptor (R93). -/
abbrev Cfg := BitVec 2048

/-- A field of a descriptor: byte offset of its word, low bit, width. -/
def Cfg.field (c : Cfg) (off lo w : Nat) : Nat := bits c.toNat (8 * off + lo) w

def Cfg.bib (c : Cfg) : W32 := BitVec.ofNat 32 (c.field 0 0 32)
def Cfg.kind (c : Cfg) : Nat := c.field 4 0 4
def Cfg.sfmt (c : Cfg) : Nat := c.field 0x10 0 4
def Cfg.rfmt (c : Cfg) : Nat := c.field 0x10 4 4
def Cfg.anchor (c : Cfg) : Int := signedField 9 (c.field 0x10 8 9)
def Cfg.slg (c : Cfg) : Nat := c.field 0x10 17 3
def Cfg.xred (c : Cfg) : Nat := c.field 0x10 20 8

/-- Slot index carried by an accumulator row, when its row group's entry is VALID (R73, Table 4.10). -/
def Cfg.rowSlot (c : Cfg) (row : Nat) : Option Nat :=
  let w := c.field (0x14 + 2 * (row / 16)) 0 16
  if bit w 15 then some (bits w 0 13 + row % 16 * bits w 13 1) else none

/-- Line offset of beat `n` of a pattern, in lines modulo `2^w` (R76, R153). -/
def beatLine (w base inner : Nat) (s0 s1 : Int) (n : Nat) : Nat :=
  (((base : Int) + (n % inner : Nat) * s0 + (n / inner : Nat) * s1) % (2 ^ w : Nat)).toNat

/-- Channel pattern of a tile descriptor at byte offset `off` (Table 4.11): line offset of beat `n`. -/
def Cfg.tileBeat (c : Cfg) (off n : Nat) : Nat :=
  beatLine 17 (c.field off 0 17) (c.field off 20 12 + 1) (signedField 18 (c.field (off + 4) 0 18))
    (signedField 18 (c.field (off + 8) 0 18)) n

/-- Read channel `i`, beat `n`. -/
def Cfg.rdBeat (c : Cfg) (i n : Nat) : Nat := c.tileBeat (0x24 + 12 * i) n
/-- Write channel `j`, beat `n`. -/
def Cfg.wrBeat (c : Cfg) (j n : Nat) : Nat := c.tileBeat (0x84 + 12 * j) n

/-- Pattern `i` of a DRAM channel descriptor, beat `n` (Table 6.5). -/
def Cfg.patBeat (c : Cfg) (i n : Nat) : Nat :=
  let off := 0x10 + 16 * i
  beatLine 33 (c.field off 0 32 + c.field (off + 4) 0 1 * 2 ^ 32) (c.field (off + 4) 20 12 + 1)
    (signedField 32 (c.field (off + 8) 0 32)) (signedField 32 (c.field (off + 12) 0 32)) n

/-- Byte offset of the route words of a descriptor by KIND (Tables 4.10, 5.7, 6.5, 12.7). -/
def routeBase (kind : Nat) : Nat :=
  if kind = 1 then 0x9C else if kind = 2 then 0x64 else if kind = 3 then 0x90 else 0x50

/-- Byte offset of the trace flags by KIND. -/
def traceBase (kind : Nat) : Nat :=
  if kind = 1 then 0xDC else if kind = 2 then 0xA4 else if kind = 3 then 0xD0 else 0x90

/-- Unit KIND of a pacer (Table 4.9). -/
def pacerKind (p : Nat) : Nat := if p < 256 then 1 else if p < 320 then 2 else if p < 384 then 3 else 4

/-- Route word `m` of the configuration of a pacer. -/
def Cfg.route (c : Cfg) (p m : Nat) : Nat := c.field (routeBase (pacerKind p) + 4 * m) 0 32

def Cfg.trStart (c : Cfg) (p : Nat) : Bool := c.field (traceBase (pacerKind p)) 0 1 == 1
def Cfg.trWait (c : Cfg) (p : Nat) : Bool := c.field (traceBase (pacerKind p)) 1 1 == 1
def Cfg.trSwap (c : Cfg) (p : Nat) : Bool := c.field (traceBase (pacerKind p)) 2 1 == 1

/-- A route word (Table 4.13). -/
structure Route where
  valid : Bool
  x : Nat
  y : Nat
  yx : Bool
  pad : Nat
  lat : Nat
  sink : Nat
  deriving DecidableEq, Repr

def routeFields (w : Nat) : Route :=
  { valid := bit w 0, x := bits w 1 5, y := bits w 6 4, yx := bit w 10, pad := bits w 11 5, lat := bits w 16 8,
    sink := bits w 24 1 }

/-! ### BME descriptor (Table 5.7) -/

def Cfg.qfmt (c : Cfg) : Nat := c.field 0x10 0 4
def Cfg.kfmt (c : Cfg) : Nat := c.field 0x10 4 4
def Cfg.vfmt (c : Cfg) : Nat := c.field 0x10 8 4
def Cfg.headD (c : Cfg) : Nat := if c.field 0x10 12 1 = 1 then 128 else 64
def Cfg.scoreScale (c : Cfg) : W32 := BitVec.ofNat 32 (c.field 0x14 0 32)
def Cfg.nlayer (c : Cfg) : Nat := c.field 0x18 0 8
def Cfg.nkv (c : Cfg) : Nat := c.field 0x18 8 5
def Cfg.blockLines (c : Cfg) : Nat := c.field 0x1C 0 24
def Cfg.fill (c : Cfg) : Nat := c.field 0x20 0 16
def Cfg.qoff (c : Cfg) (q : Nat) : Nat := c.field (0x24 + q) 0 8

/-! ### Port descriptor (Table 12.7) -/

structure Peer where
  dev : W16
  part : Nat
  valid : Bool
  deriving DecidableEq, Repr

def Cfg.peer (c : Cfg) (i : Nat) : Peer :=
  { dev := BitVec.ofNat 16 (c.field (0x10 + 4 * i) 0 16), part := c.field (0x10 + 4 * i) 16 3,
    valid := c.field (0x10 + 4 * i) 19 1 == 1 }

end Sys2Proof.Machine
end

