-- ==== Sys2Proof/Machine/Send.lean ====
section
/-! DEFINITION. Sending a unit: identities and routes (R295 to R297), streams at the source (R300 to R302), egress
queues and congestion marks (R312), completion counters (R303), QXFER lists (R311), units without a route, and the answers to a
unit (R297, R303). -/

namespace Sys2Proof.Machine

/-- A port that carries transport traffic: ACTIVE alone (R283). -/
def Port.active (p : Port) : Bool := p.link.state == .active

/-- A host-mode port: H0 or H1 with a peer that declared the role (R320). -/
def Device.hostMode (d : Device) (i : Nat) : Bool := (i == 24 || i == 25) && (d.port i).peerHost

/-- The unit is for this device: its MY_ID, or 0xFFFF from a host-mode peer. Way 31 is the device's own loop. -/
def Device.forUs (i : Nat) (u : XUnit) (d : Device) : Bool :=
  i == 31 || (u.dstId == d.tr.myId && d.tr.myId != 0xFFFF) || (d.hostMode i && u.dstId == 0xFFFF)

/-- Where the route table sends a destination identity (R297): no entry; a port; or the port it waits at. -/
inductive RouteTo where
  | none
  | out (port : Nat)
  | wait (port : Nat)
  deriving DecidableEq, Repr

/-- Look a destination up (R296, R297, Table 12.1). -/
def Device.routeOf (d : Device) (dst : W16) : RouteTo :=
  let e := (Map.get 0 d.tr.routes dst.toNat).toNat
  if !e.testBit 15 then .none
  else
    let pri := bits e 0 5
    let alt := bits e 5 5
    if (d.port pri).active then .out pri
    else if e.testBit 14 && (d.port alt).active then .out alt
    else .wait pri

/-- Bytes in a queue. -/
def queueBytes (q : List XUnit) : Nat := q.foldl (fun n u => n + u.size) 0

/-- Room of a class's egress queue (R312). -/
def queueCap (cls : Nat) : Nat := if cls = 0 then 786432 else 262144

/-- Units of this class queued at a port. -/
def Port.queue (p : Port) (cls : Nat) : List XUnit := if cls = 0 then p.egReq else p.egRsp

/-- Marking threshold of a class in bytes (R312). -/
def Port.markThr (p : Port) (cls : Nat) : Nat := 4096 * (if cls = 0 then p.markReq else p.markRsp)

/-- Units of a class that wait at a port, the resent ones first (R312, R315). -/
def Port.waiting (p : Port) (cls : Nat) : List XUnit := p.resent.filter (fun u => u.cls == cls) ++ p.queue cls

/-- A unit as it enters an egress queue: with CE when the queue stands above its threshold (R312, R313). -/
def Port.mark (u : XUnit) (p : Port) : XUnit :=
  if u.stream && decide (p.markThr u.cls < queueBytes (p.waiting u.cls)) then { u with ce := true } else u

/-- Put a unit into the egress queue of a port. -/
def Port.enqueue (u : XUnit) (p : Port) : Port :=
  let u := p.mark u
  if u.planned then { p with planned := p.planned ++ [u] }
  else if u.cls = 0 then { p with egReq := p.egReq ++ [u] }
  else { p with egRsp := p.egRsp ++ [u] }

/-- A unit fits into the egress queue of a port (R312). -/
def Port.fits (u : XUnit) (p : Port) : Bool := queueBytes (p.waiting u.cls) + u.size ≤ queueCap u.cls

/-- Take a unit out of a port's queues for sending. -/
def Port.remove (u : XUnit) (p : Port) : Port :=
  if u.planned then { p with planned := p.planned.erase u }
  else if p.resent.contains u then { p with resent := p.resent.erase u }
  else if u.cls = 0 then { p with egReq := p.egReq.erase u } else { p with egRsp := p.egRsp.erase u }

/-- Queue a unit at a port; a full queue holds it back (R312). -/
def Device.queueAt (i : Nat) (u : XUnit) (d : Device) : Device :=
  if (d.port i).fits u then d.updPort i (·.enqueue u) else d.updTr fun t => { t with waiting := t.waiting ++ [(i, u)] }

/-! ### Completion counters (R303, Table 12.5) -/

/-- COUNT + 1. -/
def Cc.bump (c : Cc) : Cc := { c with count := c.count + 1 }

/-- The source's counter for a status (Table 12.5). -/
def Cc.settle (status : Nat) (c : Cc) : Cc :=
  { count := c.count + 1, abn := if status = 1 then satInc c.abn else c.abn,
    err := if status = 0 ∨ status = 1 then c.err else satInc c.err }

/-- A serving partition (R198): its accepted image has SERVING set. -/
def Device.servingPart (d : Device) (k : Nat) : Bool :=
  match (d.part k).image with
  | some im => im.serving
  | none => false

/-- Change one completion counter of a partition; what it held at the start of the cycle is kept for the comparators (R103). -/
def Device.putCc (k n : Nat) (f : Cc → Cc) (d : Device) : Device :=
  d.updPart k fun p => { p with cc := Map.upd {} p.cc n f, ccOld := rememberOld d.cyc n (Map.get {} p.cc n) p.ccOld }

/-- A unit or a list changes a completion counter (R303): counter 63 of a serving partition is the starter's alone (R198). -/
def Device.updCc (k n : Nat) (f : Cc → Cc) (d : Device) : Device :=
  if n = 63 ∧ d.servingPart k then d else d.putCc k n f

/-- A completion counter of a partition. -/
def Device.ccOf (d : Device) (k n : Nat) : Cc := Map.get {} (d.part k).cc n

/-! ### QXFER lists (R311) -/

/-- A unit as a QXFER list knows it, without what sending adds. -/
def XUnit.bare (u : XUnit) : XUnit := { u with seq := 0, ce := false, resend := false, stamp := 0, srcId := 0 }

/-- Take one unit out of the first list that holds it. -/
def takeListed (u : XUnit) : List Qlist → List Qlist
  | [] => []
  | q :: t => if q.units.contains u then { q with units := q.units.erase u } :: t else q :: takeListed u t

/-- A unit of a partition has been handed to a link layer or discarded: a list whose units are all gone adds 1 to LCC. -/
def Device.unitGone (u : XUnit) (d : Device) : Device :=
  if u.srcId ≠ d.tr.myId then d
  else
    let k := u.srcPart
    let qs := takeListed (XUnit.bare u) (d.part k).qlists
    let done := qs.filter fun q => q.units.isEmpty
    let d := if qs = (d.part k).qlists then d else d.updPart k fun p => { p with qlists := qs.filter fun q => !q.units.isEmpty }
    done.foldl (fun d q => d.updCc k q.lcc Cc.bump) d

/-! ### Source streams (R300, R302) -/

/-- The first index a table has free. -/
def freeIndex {α : Type} : Nat → List (Nat × α) → Nat
  | n, [] => n
  | n, (k, _) :: t => if k = n then freeIndex (n + 1) t else n

/-- Index of the source entry of a stream. -/
def Transport.srcIdx (t : Transport) (u : XUnit) : Option Nat :=
  (t.src.find? fun e => match e.2 with
    | some s => s.dstId == u.dstId && s.dstPart == u.dstPart && s.cls == u.cls
    | none => false).map (·.1)

/-- Number a unit in its stream, allocating the source entry (R300); none when the table of 16,384 is full. -/
def Device.number (d : Device) (u : XUnit) : Option (XUnit × Device) :=
  match d.tr.srcIdx u with
  | some i =>
    match Map.get none d.tr.src i with
    | some s => some ({ u with seq := s.next }, d.updTr fun t =>
        { t with src := Map.set none t.src i (some { s with next := s.next + 1, lastUse := d.clk.now }) })
    | none => none
  | none =>
    if d.tr.src.length < 16384 then
      let i := freeIndex 0 d.tr.src
      some ({ u with seq := 0 }, d.updTr fun t => { t with src := Map.set none t.src i (some
        { dstId := u.dstId, dstPart := u.dstPart, cls := u.cls, next := 1, rate := (t.rMax : Rat),
          bucketAt := d.clk.now, quietFrom := d.clk.now, lastUse := d.clk.now }) })
    else none

/-- Count a unit without a route (R297). -/
def Device.noRoute (d : Device) : Device := d.updTr fun t => { t with noRoute := satInc t.noRoute }

/-- A unit of this device for which there is no route is discarded (R297): a PUT with ACKREQ and a GET give its partition NO_ROUTE. -/
def Device.unrouted (u : XUnit) (d : Device) : Device :=
  let d := d.noRoute.unitGone u
  if u.srcId = d.tr.myId ∧ (u.kind = .get ∨ u.kind = .put ∧ u.ackReq) then d.updCc u.srcPart u.ackCc (Cc.settle 5) else d

/-- Count a unit that a shadow's transport suppresses (R334). -/
def Device.suppress (k : Nat) (d : Device) : Device := d.updShadow k fun s => { s with suppress := satInc s.suppress }

/-- The unit may leave this device under its MY_ID (R295): an unassigned device originates only traffic to a host-mode
peer. -/
def Device.mayOriginate (d : Device) (i : Nat) : Bool := d.tr.myId != 0xFFFF || d.hostMode i

/-- Number a unit and queue it at port `i`; a full stream table holds it back (R302). -/
def Device.originateAt (via : Option Nat) (u : XUnit) (i : Nat) (d : Device) : Device :=
  if d.mayOriginate i then
    match d.number u with
    | some (u', d') => d'.queueAt i u'
    | none => d.updTr fun t => { t with streamWait := satInc t.streamWait, unnumbered := t.unnumbered ++ [(via, u)] }
  else d.unitGone u

/-- Originate a unit that has its source and STAMP (R295, R297, R300, R301): `via` is the host-mode port a response goes back to when the
route table names none (DEDUCED, log entry 13). A unit for this device itself waits for its local delivery. -/
def Device.originateStamped (via : Option Nat) (u : XUnit) (d : Device) : Device :=
  if u.dstId = d.tr.myId ∧ d.tr.myId ≠ 0xFFFF ∧ via.isNone then
    match d.number u with
    | some (u', d') => d'.updTr fun t => { t with loop := t.loop ++ [u'] }
    | none => d.updTr fun t => { t with streamWait := satInc t.streamWait, unnumbered := t.unnumbered ++ [(via, u)] }
  else match d.routeOf u.dstId, via with
    | .out i, _ => d.originateAt via u i
    | .wait i, _ => d.originateAt via u i
    | .none, some h => d.originateAt via u h
    | .none, none => d.unrouted u

/-- Originate a stream unit now (R300, R301). -/
def Device.originate (via : Option Nat) (u : XUnit) (d : Device) : Device :=
  d.originateStamped via { u with srcId := d.tr.myId, stamp := d.stampNow }

/-- Where a response to a unit that came in on way `i` may return without a route. -/
def Device.viaOf (d : Device) (i : Nat) : Option Nat := if d.hostMode i then some i else none

/-- Answer a unit with a cell or a GETRSP (R303, R318): from its destination partition to its source partition. -/
def Device.answer (i : Nat) (u : XUnit) (r : XUnit) (d : Device) : Device :=
  d.originate (d.viaOf i)
    { r with dstId := u.srcId, dstPart := u.srcPart, srcPart := u.dstPart, dstEpoch := u.srcEpoch, srcEpoch := (d.part u.dstPart).epoch }

/-- The status of a put or get to its source (R303): an ACK when it asks for one, a GETRSP for a get. -/
def Device.reply (i status : Nat) (echo : Bool) (data : List Byte) (u : XUnit) (d : Device) : Device :=
  match u.kind with
  | .get => d.answer i u { kind := .getrsp, addr := u.raddr, len := u.len, dstCc := u.ackCc, status := status, payload := data }
  | .put => if u.ackReq then d.answer i u { kind := .cell, body := .ack u.seq status echo u.ackCc } else d
  | _ => d

/-- A unit that waits at a port has lost its route and is discarded (R297): the source of a unit in transit is told. -/
def Device.dropUnrouted (u : XUnit) (d : Device) : Device :=
  if u.srcId = d.tr.myId then d.unrouted u else d.noRoute.reply 31 5 false [] u

/-- Send a LOCAL unit on a port (R295, R298): in no stream, never forwarded. -/
def Device.sendLocal (i : Nat) (u : XUnit) (d : Device) : Device :=
  d.updPort i fun p => p.enqueue { u with loc := true, dstId := 0xFFFF, srcId := d.tr.myId, seq := 0, dstEpoch := 0,
                                            stamp := d.stampNow }

/-- Send one PUT of at most 4 KiB on behalf of partition `k` (R311). -/
def Device.sendPut (k : Nat) (dst : W64) (part : Nat) (epoch : W16) (cc : Nat) (data : List Byte) (d : Device) : Device :=
  d.originate none { kind := .put, dstPart := part, srcPart := k, dstId := BitVec.ofNat 16 (dst.toNat / 2 ^ 48),
                     dstEpoch := epoch, addr := dst.toNat % 2 ^ 48, srcEpoch := (d.part k).epoch, len := data.length,
                     dstCc := cc, payload := data }

/-- Send a cell to a partition of a device (R311). -/
def Device.sendCell (k : Nat) (dev : W16) (part : Nat) (epoch : W16) (c : Cell) (d : Device) : Device :=
  d.originate none { kind := .cell, dstPart := part, srcPart := k, dstId := dev, dstEpoch := epoch,
                     srcEpoch := (d.part k).epoch, body := c }

end Sys2Proof.Machine
end

