-- ==== Sys2Proof/Machine/Flags.lean ====
section
/-! DEFINITION. The flags of register pages: INT_RAW and interrupts, the error fields, and event writes (R417 to R423). -/

namespace Sys2Proof.Machine

/-! ### Page slots (Table 18.1) -/

def pgMailbox : Nat := 0
def pgMailboxP (k : Nat) : Nat := 1 + k
def pgTransport : Nat := 0x10
def pgTransportP (k : Nat) : Nat := 0x11 + k
def pgStarter : Nat := 0x20
def pgStarterP (k : Nat) : Nat := 0x21 + k
def pgSecurity : Nat := 0x30
def pgSelftest : Nat := 0x31
def pgTime : Nat := 0x32
def pgClock : Nat := 0x33
def pgPower : Nat := 0x34
def pgThermal : Nat := 0x35
def pgReqtab : Nat := 0x36
def pgRegion (g : Nat) : Nat := 0x40 + g
def pgChan (c : Nat) : Nat := 0x80 + c
def pgBme (c : Nat) : Nat := 0xA0 + c
def pgPort (i : Nat) : Nat := 0xC0 + i
def pgPacer (p : Nat) : Nat := 0x400 + p
def pgTile (t : Nat) : Nat := 0x1000 + t

/-- TYPE of a page slot (Table 18.1); 0 in a reserved slot. -/
def pageType (n : Nat) : Nat :=
  if n < 9 then 0x01
  else if 0x10 ≤ n ∧ n < 0x19 then 0x08
  else if 0x20 ≤ n ∧ n < 0x29 then 0x09
  else if n = 0x30 then 0x02 else if n = 0x31 then 0x03 else if n = 0x32 then 0x04 else if n = 0x33 then 0x05
  else if n = 0x34 then 0x06 else if n = 0x35 then 0x07 else if n = 0x36 then 0x0A
  else if 0x40 ≤ n ∧ n < 0x5F then 0x0B
  else if 0x80 ≤ n ∧ n < 0x98 then 0x0C
  else if 0xA0 ≤ n ∧ n < 0xB8 then 0x0D
  else if 0xC0 ≤ n ∧ n < 0xDA then 0x0E
  else if 0x400 ≤ n ∧ n < 0x800 then (if isPacer (n - 0x400) then 0x0F else 0)
  else if 0x1000 ≤ n ∧ n < 0x10D0 then 0x10
  else 0

/-- INSTANCE of a page slot (Table 18.1). -/
def pageInstance (n : Nat) : Nat :=
  match pageType n with
  | 0x01 => n | 0x08 => n - 0x10 | 0x09 => n - 0x20 | 0x0B => n - 0x40 | 0x0C => n - 0x80 | 0x0D => n - 0xA0
  | 0x0E => n - 0xC0 | 0x0F => n - 0x400 | 0x10 => n - 0x1000 | _ => 0

/-- The unit's OWNER register, on the pages that have one (R414, R425). -/
def Device.pageOwnerReg (d : Device) (n : Nat) : Option W16 :=
  match pageType n with
  | 0x0C => some (d.chan (n - 0x80)).owner
  | 0x0D => some (d.bme (n - 0xA0)).owner
  | 0x0E => some (d.port (n - 0xC0)).owner
  | 0x0F => some (d.pacerOwner (n - 0x400))
  | 0x10 => some (d.tile (n - 0x1000)).owner
  | _ => none

/-- The partition a page belongs to (R414): always for a partition-instance page, by OWNER for a unit's page. -/
def Device.pagePart (d : Device) (n : Nat) : Option Nat :=
  if 1 ≤ n ∧ n < 9 then some (n - 1)
  else if 0x11 ≤ n ∧ n < 0x19 then some (n - 0x11)
  else if 0x21 ≤ n ∧ n < 0x29 then some (n - 0x21)
  else match d.pageOwnerReg n with
    | some o => if o = 0 then none else some (pcidPart o)
    | none => none

/-- The pacer whose bib a page records (Table 4.15). -/
def pagePacer (n : Nat) : Option Nat :=
  match pageType n with
  | 0x0C => some (320 + (n - 0x80)) | 0x0D => some (256 + (n - 0xA0)) | 0x0E => some (384 + (n - 0xC0))
  | 0x0F => some (n - 0x400) | 0x10 => some (n - 0x1000) | _ => none

/-- Active bib of a pacer (R123). -/
def Device.bib (d : Device) (p : Nat) : W32 := Cfg.bib (d.pacer p).activeCfg

/-- Bib that ERR_BIB of a page takes (R420, Table 4.15); 0 where no layer is active. -/
def Device.pageBib (d : Device) (n : Nat) : W32 :=
  match pagePacer n with
  | some p => d.bib p
  | none => 0

/-! ### Event writes (R422) -/

/-- The bytes of an event record (Table 18.4). -/
def eventBytes (split : W64) (seq : W32) (source kind : Nat) (data : Nat) : List Byte :=
  leBytes 8 split.toNat ++ leBytes 4 seq.toNat ++ leBytes 2 source ++ leBytes 1 kind ++ leBytes 1 0 ++
    leBytes 8 data ++ leBytes 8 0

/-- Send one event record to a ring, on behalf of partition `k`. -/
def Device.sendRing (k : Nat) (r : EvtRing) (source kind data : Nat) (d : Device) : Device :=
  let a := r.base.toNat + 32 * (r.seq.toNat % r.len)
  d.sendPut k (BitVec.ofNat 64 a) r.part r.epoch r.cc (eventBytes d.split r.seq source kind data)

/-- Send an event to the device ring, when it is valid. -/
def Device.eventDevice (source kind data : Nat) (d : Device) : Device :=
  if d.mb.evt.valid then
    (d.sendRing 0 d.mb.evt source kind data).updMb fun m => { m with evt := { m.evt with seq := m.evt.seq + 1 } }
  else d

/-- Send an event of a partition, or of the device (R422): to the partition's ring when it is valid, else to the device
ring, else not at all. The boot ROM sends none, and a shadow's transport discards what its partition would send (R334). -/
def Device.event (owner : Option Nat) (source kind data : Nat) (d : Device) : Device :=
  if d.sec.bootStatus ≠ 0x02 then d
  else match owner with
    | none => d.eventDevice source kind data
    | some k =>
      if (d.part k).evt.valid then
        (if (d.part k).shadow.role = 2 then d.suppress k else d.sendRing k (d.part k).evt source kind data).updPart k fun p => { p with evt := { p.evt with seq := p.evt.seq + 1 } }
      else d.eventDevice source kind data

/-! ### INT_RAW (R417, R421, R423) -/

/-- INT_STAT of a page (Table 18.2). -/
def PageHdr.intStat (h : PageHdr) : W32 := h.intRaw &&& h.intEn

/-- Send the INT event when INT_STAT has become non-zero, and arm it again once INT_STAT is zero (R423). -/
def Device.intCheck (n : Nat) (d : Device) : Device :=
  let h := d.page n
  if h.intStat = 0 then d.updPage n fun h => { h with intSent := false }
  else if h.intSent then d
  else (d.updPage n fun h => { h with intSent := true }).event (d.pagePart n) n 0x01 h.intStat.toNat

/-- Set bits of INT_RAW (R417). -/
def Device.setInt (n : Nat) (bits : W32) (d : Device) : Device :=
  (d.updPage n fun h => { h with intRaw := h.intRaw ||| bits }).intCheck n

/-- Set one event bit of INT_RAW (Table 19.1). -/
def Device.setIntBit (n i : Nat) (d : Device) : Device := d.setInt n (BitVec.ofNat 32 (2 ^ i))

/-- Settle an attestation request (R396): ATT_RESULT, its event bit and the event write. -/
def Device.attSettle (d : Device) : Device :=
  ((d.updSec fun s => { s with attResult := 0, attValid := true }).setIntBit pgSecurity 2).event none pgSecurity 5 0

/-! ### Errors (R420) -/

/-- Count an error on a page: COUNT, INT_RAW[0], and the first error's code and bib. -/
def Device.countErr (n : Nat) (code : Nat) (d : Device) : Device :=
  let b := d.pageBib n
  (d.updPage n fun h =>
    { h with errCnt := satInc h.errCnt,
             errFirst := if h.errCnt = 0 then BitVec.ofNat 16 code else h.errFirst,
             errBib := if h.errCnt = 0 then b else h.errBib }).setInt n 1

/-- Common error codes (Table 18.3). -/
def errReserved : Nat := 1
def errState : Nat := 2
def errAccess : Nat := 3
def errRange : Nat := 4
def errDenied : Nat := 5

/-! ### Trace records (R124) -/

/-- Queue a trace record of a pacer; a full queue of 16 drops it and counts it. -/
def Device.traceWith (b : W32) (p kind stride : Nat) (split : W64) (d : Device) : Device :=
  let x := d.pacer p
  let r : TraceRec := { split := split, bib := b, pacer := p, kind := kind, bank := x.bank, stride := stride }
  d.updPacer p fun x =>
    if x.traceQ.length < 16 then { x with traceQ := x.traceQ ++ [r] } else { x with traceDrop := satInc x.traceDrop }

/-- Queue a trace record with the pacer's active bib. -/
def Device.trace (p kind stride : Nat) (split : W64) (d : Device) : Device := d.traceWith (d.bib p) p kind stride split

/-- The split a pacer's trace record carries now (R124, R253). -/
def Device.traceSplit (d : Device) (p : Nat) : W64 :=
  let sp := d.splitIn (pacerRegion p)
  match d.pacerPart p with
  | some k => d.stamp k d.cyc sp
  | none => sp

end Sys2Proof.Machine
end

