-- ==== Sys2Proof/Machine/Fault.lean ====
section
/-! DEFINITION. Faults and aborts as shared operations: one fault record (R341), its context and coalescing (R343, R345,
R346), the abort it registers (R111 to R113), hold causes and false starts (R245, R246, R251), planned events missed. -/

namespace Sys2Proof.Machine

/-! ### Aborts (R111 to R113) -/

/-- A pacer stops (R112): an active pacer becomes ABORTED, or FAULT when the abort is a fault on its context (Table 4.2). It issues
no stride any more; the repeats of operations already issued come in their cycles. -/
def Pacer.stop (fault : Bool) (c : Nat) (p : Pacer) : Pacer :=
  if p.state.active then { p with state := if fault then .fault else .aborted, stall := 0, stopped := some (c, p.state) } else p

/-- The commit pacer was DONE by a commit of this very cycle, which the abort undoes (R111, Table 4.2). -/
def Pacer.uncommit (fault : Bool) (p : Pacer) : Pacer := { p with state := if fault then .fault else .aborted }

/-- Result code of an abort request (R113). -/
def Device.abortCode (d : Device) (k : Nat) : Nat :=
  match (d.part k).run.phase with
  | .running => 0
  | .aborted => match (d.part k).run.abort with
    | some a => if a.cyc = d.cyc ∧ !a.written then 0 else 1
    | none => 1
  | .completed => 2
  | _ => 3

/-- What a held partition has queued is discarded (R250): its flits on the network and at its units' ingress ports, its lines on the
way and in its BMEs' buffers. A page slot that was frozen ends. -/
def Device.dropQueued (k : Nat) (d : Device) : Device :=
  let mine := fun p => d.pacerPart p == some k
  let atPort := fun key => match nodeUnit (key / 2 % 24) (key / 48) with
    | some u => mine u
    | none => false
  { d with net := { flits := d.net.flits.filter fun f => f.part != k, ingress := d.net.ingress.filter fun e => !atPort e.1 },
           chans := d.chans.map fun c => if mine (320 + c.1) then (c.1, { c.2 with inFlight := [] }) else c,
           bmes := d.bmes.map fun b => if mine (256 + b.1) then
             (b.1, { b.2 with lines := [], scan := b.2.scan.map fun sc => { sc with page := none } }) else b }

/-- Register an abort request of a partition with a cause and the fault record's ring index (R111): an accepted abort
stops every pacer and ends a hold with its queued flits and lines discarded (R112, R250). Requests of one cycle are one
abort with the lowest cause. -/
def Device.registerAbort (k cause idx : Nat) (d : Device) : Device :=
  match (d.part k).run.phase with
  | .running =>
    let im := (d.part k).image
    let bib := match im with
      | some im => d.bib im.commitPacer
      | none => 0
    let r0 := (d.part k).run
    let held := r0.hold.isSome
    let sp := match im with
      | some im => d.splitIn (pacerRegion im.commitPacer)
      | none => d.split
    let d := d.updRun k fun r =>
      { r with phase := .aborted, hold := none, resumed := none, nextFrame := none, commit := none,
               abort := some { cause := cause, cyc := d.cyc, split := sp, bib := bib, faultIdx := idx } }
    let undo := if r0.commit.isSome then (im.map (·.commitPacer)).toList else []
    let d := d.forAll undo fun p d => d.updPacer p (Pacer.uncommit (cause == 1))
    let d := d.forAll (d.pacersOf k) fun p d => d.updPacer p (Pacer.stop (cause == 1) d.cyc)
    if held then d.dropQueued k else d
  | .aborted =>
    d.updRun k fun r => { r with abort := r.abort.map fun a =>
      if a.cyc = d.cyc ∧ !a.written ∧ cause < a.cause then { a with cause := cause, faultIdx := idx } else a }
  | _ => d

/-! ### Fault records -/

/-- What a fault source states (Table 14.2). -/
structure FaultIn where
  code : Nat
  unit : Nat
  /-- OWNER or PCID the fault is attributed to; 0 for none (R346) -/
  pcid : W16 := 0
  action : Nat := 0
  bib : W32 := 0xFFFFFFFF
  addr : Nat := 0
  cause : Nat := 0
  drill : Bool := false
  specific : List Byte := []
  deriving DecidableEq, Repr

/-- Some channel is AVAILABLE: the lowest one's marshal area holds the device fault ring (R341). -/
def Device.ringChannel (d : Device) : Option Nat := (List.range 24).find? fun c => (d.chan c).state == .available

/-- Store a record under its SEQ in both stores (R341). -/
def Device.storeRecord (r : FaultRec) (d : Device) : Device :=
  let n := r.seq.toNat
  let d := d.updFlt fun f => { f with onDie := Map.set {} f.onDie (n % 256) r }
  match d.ringChannel with
  | some _ => d.updFlt fun f => { f with ring := Map.set {} f.ring (n % 4096) r }
  | none => d.updMb fun m => { m with ringMiss := satInc m.ringMiss }

/-- Rewrite record `seq` where the two stores still hold it. -/
def Device.editRecord (seq : W32) (g : FaultRec → FaultRec) (d : Device) : Device :=
  let f (r : FaultRec) : FaultRec := if r.seq = seq then g r else r
  d.updFlt fun x =>
    { x with onDie := Map.upd {} x.onDie (seq.toNat % 256) f, ring := Map.upd {} x.ring (seq.toNat % 4096) f }

/-- Increment REPEAT of a record in both stores (R343). -/
def Device.repeatRecord (seq : W32) (d : Device) : Device := d.editRecord seq fun r => { r with repeats := satInc r.repeats }

/-- The record of a fault raised now (Table 14.1), with the split of the unit's region (R236). -/
def Device.faultRec (f : FaultIn) (action : Nat) (second : Bool) (d : Device) : FaultRec :=
  { split := d.splitIn (unitRegion f.unit), bib := f.bib, pcid := f.pcid, unit := f.unit, code := f.code, action := action, seq := d.flt.seq,
    addr := f.addr, drill := f.drill, second := second, transient := d.flt.transientUnits.contains f.unit,
    cause := f.cause, specific := f.specific }

/-- Write one new record and mark it for its event (R341, R344). `k` is the partition whose ring is told. -/
def Device.newRecord (f : FaultIn) (k : Option Nat) (action : Nat) (second : Bool) (d : Device) : Device :=
  (d.storeRecord (d.faultRec f action second)).updFlt fun x =>
    { x with seq := x.seq + 1, pending := x.pending ++ [(k.getD 8, d.flt.seq, d.clk.now)] }

/-- Partitions that share a lent region with `k` are reset with it (R182, R358). -/
def Device.sharers (d : Device) (k : Nat) : List Nat :=
  partList.filter fun j => j != k && (d.part j).lent.any fun g => (d.part k).lent.contains g

/-- Begin a partition reset (R350 step 1): the abort has been registered; a reset under way is kept. -/
def Device.beginReset (k : Nat) (job : ResetJob) (d : Device) : Device :=
  d.updRun k fun r => if r.reset.isNone then { r with reset := some job } else r

/-- The action under way on a context: its partition reset, then the retest that completes action 0x3 (R343, R353). -/
def Run.action (r : Run) : Option ResetJob :=
  match r.reset with
  | some job => some job
  | none => r.retest

/-- Keep what has been recorded of the action under way. -/
def Run.setAction (job : ResetJob) (r : Run) : Run :=
  if r.reset.isSome then { r with reset := some job } else { r with retest := some job }

/-- A further fault of a context before its action completes: its own record with SECOND set; but of the faults of one cycle the one with the lowest code,
then the lowest unit, is the first, and the reset is its (R343). -/
def Device.laterFault (k : Nat) (job : ResetJob) (f : FaultIn) (d : Device) : Device :=
  let seq := d.flt.seq
  let job := { job with seen := job.seen ++ [(f.code, f.unit, seq)] }
  if job.cyc = some d.cyc ∧ (f.code < job.code ∨ f.code = job.code ∧ f.unit < job.unit) then
    ((d.newRecord f (some k) f.action false).editRecord job.faultSeq fun r => { r with second := true }).updRun k fun r =>
      { r.setAction { job with code := f.code, unit := f.unit, action := f.action, faultSeq := seq, specific := f.specific,
                               split := d.splitIn (unitRegion f.unit) } with
               abort := r.abort.map fun a => if a.cause = 1 ∧ a.cyc = d.cyc ∧ !a.written then { a with faultIdx := seq.toNat % 4096 } else a }
  else (d.newRecord f (some k) f.action true).updRun k (Run.setAction job)

/-- Raise a fault (R341 to R346): one record, and for the first fault of a context the abort and the partition reset
that the action names. -/
def Device.raise (f : FaultIn) (d : Device) : Device :=
  match d.ownerPart f.pcid with
  | none => d.newRecord f none (if f.code / 256 = 5 ∨ f.code / 256 = 6 ∨ f.code = 0x0301 ∨ f.code = 0x0401 then f.action else 0) false
  | some k =>
    if f.action = 0 then d.newRecord f (some k) 0 false
    else match (d.part k).run.action with
      | some job =>
        match job.seen.find? fun x => x.1 == f.code && x.2.1 == f.unit with
        | some x => d.repeatRecord x.2.2
        | none => d.laterFault k job f
      | none =>
        let seq := d.flt.seq
        let job : ResetJob := { code := f.code, unit := f.unit, action := f.action, capture := true, faultSeq := seq,
                                specific := f.specific, split := d.splitIn (unitRegion f.unit), seen := [(f.code, f.unit, seq)], cyc := some d.cyc }
        let d := (d.newRecord f (some k) f.action false).registerAbort k 1 (seq.toNat % 4096)
        let d := d.beginReset k job
        d.forAll (d.sharers k) fun j d =>
          (d.registerAbort j 1 (seq.toNat % 4096)).beginReset j { job with action := 2, seen := [] }

/-- Raise a fault on the context that owns a pacer's unit, carrying its active bib (R346, Table 4.15). -/
def Device.raisePacer (p code action : Nat) (cause : Nat) (specific : List Byte) (d : Device) : Device :=
  d.raise { code := code, unit := p, pcid := d.pacerOwner p, action := action, bib := d.bib p, cause := cause,
            drill := (d.pacer p).stuck, specific := specific }

/-! ### Planned events outside their window (R245, R246, R251) -/

/-- A false start of a pacer's unit (R251): FALSE_START with the stride index and bank, and the bib of the operation affected. -/
def Device.falseStart (p cause : Nat) (bib : W32) (d : Device) : Device :=
  let x := d.pacer p
  d.raise { code := 0x0101, unit := p, pcid := d.pacerOwner p, action := 2, bib := bib, cause := cause, drill := x.stuck,
            specific := leBytes 2 (x.next % 2048 + b2n x.bank * 2048) }

/-- Regions that have yet to resume from a run's last hold in cycle `c`, with the cycle in which they will (R248). -/
def Run.unresumed (r : Run) (c : Nat) : Map Nat :=
  match r.resumed with
  | some (h, m) => ((List.range 31).map fun g => (g, m + (h.fx g - h.fMin))).filter fun x => decide (c < x.2)
  | none => []

/-- Register a hold cause of a unit in region `g` (R245, R246, R248): the first cause of a partition freezes it, region by
region; a further cause joins the hold. A frozen pacer shows HOLD (`Device.shownState`). -/
def Device.holdCause (k unit g cause : Nat) (d : Device) : Device :=
  let c := d.cyc
  d.updRun k fun r =>
    match r.hold with
    | some h =>
      { r with hold := some { h with causes := if h.causes.contains (unit, cause) then h.causes else h.causes ++ [(unit, cause)],
                                     own := if Map.get 0 h.own g = 0 then Map.set 0 h.own g c else h.own } }
    | none =>
      { r with holds := min (r.holds + 1) 0xFFFF,
               hold := some { fMin := c, unit := unit, cause := cause, causes := [(unit, cause)], own := Map.set 0 [] g c,
                              frozen := r.unresumed c } }

/-- The device as the unit of pacer `p` meets the events of this cycle: a region that a cause of its own freezes in this very cycle, and
a pacer that an abort of this very cycle stops, have tested for the cycle's inputs all the same (R245, R246, R343). -/
def Device.asMet (p : Nat) (d : Device) : Device :=
  match d.pacerPart p with
  | none => d
  | some k =>
    let d := match (d.part k).run.hold with
      | some h => if Map.get 0 h.own (pacerRegion p) = d.cyc then d.updRun k fun r => { r with hold := none } else d
      | none => d
    match (d.pacer p).stopped with
    | some (c, st) => if c = d.cyc then d.updPacer p fun x => { x with state := st } else d
    | none => d

/-- An abort of this very cycle has ended the run of a partition. -/
def Device.endsNow (d : Device) (k : Nat) : Bool :=
  (d.part k).run.phase == .aborted && (d.part k).run.abort.any fun a => a.cyc == d.cyc

/-- A planned event of a unit misses its window with a cause of Table 10.3: a false start in lockstep mode, a lap hold in cadence
mode. `bib` is that of the operation affected (R95, R251). A run that has ended before this cycle meets no planned event. -/
def Device.missFor (p cause : Nat) (bib : W32) (d : Device) : Device :=
  match d.pacerPart p with
  | none => d
  | some k =>
    if !(d.running k || d.endsNow k) then d
    else if d.lockstep then d.falseStart p cause bib
    else if d.running k then d.holdCause k p (pacerRegion p) cause
    else d

/-- As `missFor`, for what the pacer stands at: its current bib. -/
def Device.missWindow (p cause : Nat) (d : Device) : Device := d.missFor p cause (d.bib p)

end Sys2Proof.Machine
end

