-- ==== Sys2Proof/Machine/Ecc.lean ====
section
/-! DEFINITION. The word code (R161, R162) and the outer code in DRAM (R163). Both are linear, so a stored word is kept
as its data and, sparsely, the mask of its inverted positions: a decoder works on the mask alone. -/

namespace Sys2Proof.Machine

/-! ### The word code -/

/-- x^p mod g for g = 0x19B (R161). -/
def xpow : Nat → Nat
  | 0 => 1
  | p + 1 => let y := 2 * xpow p; if y < 256 then y else Nat.xor y 0x19B

/-- The syndrome of the inverted positions of a 72-bit codeword (R162). -/
def syndrome (m : Nat) : Nat :=
  (List.range 72).foldl (fun s p => if m.testBit p then Nat.xor s (xpow p) else s) 0

/-- What the decoder leaves of a mask (R162): the positions still wrong, or none when uncorrectable. -/
def wordDecode (m : Nat) : Option Nat :=
  let s := syndrome m
  if s = 0 then some m
  else match (List.range 72).find? fun p => xpow p == s with
    | some p => some (Nat.xor m (2 ^ p))
    | none =>
      match (List.range 71).find? fun p => Nat.xor (xpow p) (xpow (p + 1)) == s with
      | some p => some (Nat.xor m (3 * 2 ^ p))
      | none => none

/-- Check bits of a data word: the remainder of d(x) x^8 (R161). -/
def checkBits (data : W64) : Nat := syndrome (data.toNat * 256)

/-! ### GF(2^8) with x^8 + x^4 + x^3 + x^2 + 1 (R163) -/

/-- Multiplication by α. -/
def gfx (a : Nat) : Nat := let y := 2 * a; if y < 256 then y else Nat.xor y 0x11D

/-- Multiplication by α^d. -/
def gfAlpha : Nat → Nat → Nat
  | 0, a => a
  | d + 1, a => gfx (gfAlpha d a)

/-- Error symbol of device `d` in a word mask (R163): 0 to 7 data nibbles, 8 check nibbles. -/
def symbol (m d : Nat) : Nat :=
  if d = 8 then bits m 0 8
  else bits m (8 + 4 * d) 4 + bits m (8 + 32 + 4 * d) 4 * 16

/-- The word mask with the error symbol of device `d` replaced. -/
def setSymbol (m d s : Nat) : Nat :=
  if d = 8 then m / 256 * 256 + s
  else
    let old := symbol m d
    let x := Nat.xor old s
    Nat.xor m (x % 16 * 2 ^ (8 + 4 * d) + x / 16 * 2 ^ (8 + 32 + 4 * d))

/-- Σ α^d s_d over devices 0 to 8. -/
def outerSum (m : Nat) : Nat := (List.range 9).foldl (fun a d => Nat.xor a (gfAlpha d (symbol m d))) 0

/-- The result of a burst's decoding (R163): the data masks still wrong, the device rebuilt, and whether the burst was
corrected. -/
inductive Burst where
  | clean
  /-- every check holds on positions that are wrong all the same: delivered without a correction -/
  | passed (residual : List Nat)
  | corrected (residual : List Nat) (device : Option Nat)
  | bad
  deriving DecidableEq, Repr

/-- α^-j times a symbol: α has order 255. -/
def gfDiv (j a : Nat) : Nat := gfAlpha (255 - j) a

/-- Rebuild device `j` in one word from the outer equation. -/
def rebuild (j : Nat) (m u : Nat) : Nat :=
  if j = 9 then m
  else setSymbol m j (gfDiv j (Nat.xor u (outerSum (setSymbol m j 0))))

/-- Decode a burst from the word masks and the outer symbols' errors (R163). -/
def burstDecode (ms us : List Nat) : Burst :=
  let ws := ms.zip us
  if ms.all fun m => syndrome m == 0 then
    if ms.all (· == 0) && us.all (· == 0) then .clean
    else if ws.all fun w => Nat.xor w.2 (outerSum w.1) == 0 then .passed ms
    else .corrected ms (some 9)
  else
    let dec := ws.map fun w => (wordDecode w.1, w.2)
    if dec.all fun w => match w.1 with
      | some m => Nat.xor w.2 (outerSum m) == 0
      | none => false
    then .corrected (dec.map fun w => w.1.getD 0) none
    else
      match (List.range 10).filter fun j => ws.all fun w => syndrome (rebuild j w.1 w.2) == 0 with
      | [j] => .corrected (ws.map fun w => rebuild j w.1 w.2) (some j)
      | _ => .bad

/-! ### Errors kept in the state -/

/-- The mask of inverted positions at a site, if any. -/
def Device.upset (d : Device) (s : Site) : Option Upset := d.flt.upsets.find? fun u => u.site == s

/-- The word at a site has been read: a drill's error there has had its effect (R340). -/
def Device.noteRead (s : Site) (d : Device) : Device :=
  if d.flt.upsets.any fun u => u.site == s && u.drill && !u.read then
    d.updFlt fun f => { f with upsets := f.upsets.map fun u => if u.site = s then { u with read := true } else u }
  else d

/-- Count drill injections that disappear before their words were read (R340). -/
def Device.countVoid (us : List Upset) (d : Device) : Device :=
  let n := us.countP fun u => u.drill && !u.read
  if n = 0 then d else d.updMb fun m => { m with drillVoid := satAdd m.drillVoid n }

/-- Remove the errors at a site: the stored word is written again. -/
def Device.clearUpset (s : Site) (d : Device) : Device :=
  match d.upset s with
  | none => d
  | some u =>
    (d.updFlt fun f => { f with upsets := f.upsets.filter fun v => v.site != s }).countVoid [u]

/-- Errors of one part of a unit disappear: it has been written with valid check bits. -/
def Device.dropUpsets (gone : Site → Bool) (d : Device) : Device :=
  (d.updFlt fun f => { f with upsets := f.upsets.filter fun u => !gone u.site }).countVoid (d.flt.upsets.filter fun u => gone u.site)

/-- Errors of one bank pair of a pacer disappear: 4,096 words of table memory and 2,048 of descriptors a bank. -/
def Device.dropPacerUpsets (p bank : Nat) (d : Device) : Device :=
  d.dropUpsets fun s => match s with
    | .pacer q store w => q == p && w / (if store = 0 then 4096 else 2048) == bank
    | _ => false

/-- Invert positions at a site. -/
def Device.addUpset (s : Site) (mask : List Nat) (outer : List Byte) (drill : Bool) (d : Device) : Device :=
  let old := d.upset s
  let n := match s with | .dram _ _ => 8 | _ => 1
  let base := match old with | some u => u.mask.map BitVec.toNat | none => []
  let m := (List.range n).map fun i => BitVec.ofNat 72 (Nat.xor (base.getD i 0) (mask.getD i 0))
  let ob := match old with | some u => u.outer | none => []
  let o := (List.range n).map fun i => ob.getD i 0 ^^^ outer.getD i 0
  d.updFlt fun f => { f with upsets := (f.upsets.filter fun v => v.site != s) ++ [{ site := s, mask := m, outer := o, drill := drill }] }

/-- What a reader of one protected word meets (R162): a clean word, a corrected word with the data bits still wrong, or
an uncorrectable word; with the DRILL flag and the syndrome. -/
inductive WordRead where
  | clean
  /-- the positions make another codeword: delivered as clean, wrong in these data bits (R162) -/
  | undetected (residual : W64)
  | corrected (residual : W64)
  | bad (syndrome : Nat) (drill : Bool)
  deriving DecidableEq, Repr

/-- Decode the word at a site. -/
def Device.readSite (d : Device) (s : Site) : WordRead :=
  match d.upset s with
  | none => .clean
  | some u =>
    let m := (u.mask.headD 0).toNat
    if syndrome m = 0 then (if m / 256 = 0 then .clean else .undetected (BitVec.ofNat 64 (m / 256)))
    else match wordDecode m with
      | some r => .corrected (BitVec.ofNat 64 (r / 256))
      | none => .bad (syndrome m) u.drill

end Sys2Proof.Machine
end

