-- ==== Sys2Proof/Machine/Aes.lean ====
section
/-! DEFINITION. AES-256 (FIPS 197; PRESUMED, log entry 11), the tweakable mode of IEEE 1619 in which DRAM lines are encrypted (R166), and
the random bit generator that makes the keys (R393).
Bytes are numbers below 256, a block is a list of 16 of them. -/

namespace Sys2Proof.Machine

/-- Multiplication by x in the field of AES. -/
def aesTimes (a : Nat) : Nat := let y := 2 * a; if y < 256 then y else Nat.xor y 0x11B

/-- Product in the field of AES, over the low `n` bits of `b`. -/
def aesMul : Nat → Nat → Nat → Nat
  | 0, _, _ => 0
  | n + 1, a, b => Nat.xor (if b % 2 = 1 then a else 0) (aesMul n (aesTimes a) (b / 2))

/-- `n` squarings, each multiplied into the product. -/
def aesPower : Nat → Nat → Nat → Nat
  | 0, _, p => p
  | n + 1, a, p => let s := aesMul 8 a a; aesPower n s (aesMul 8 p s)

/-- Inverse in the field, a to the power 254; zero stays. -/
def aesInv (a : Nat) : Nat := aesPower 7 a 1

/-- A byte rotated left. -/
def aesRot (n a : Nat) : Nat := a * 2 ^ n % 256 + a / 2 ^ (8 - n)

/-- SubBytes of one byte, and its inverse. -/
def aesSub (a : Nat) : Nat :=
  let b := aesInv a
  [aesRot 1 b, aesRot 2 b, aesRot 3 b, aesRot 4 b, 0x63].foldl Nat.xor b
def aesUnsub (s : Nat) : Nat := aesInv (Nat.xor (Nat.xor (aesRot 1 s) (aesRot 3 s)) (Nat.xor (aesRot 6 s) 0x05))

/-- Two byte strings added. -/
def aesXor (a b : List Nat) : List Nat := List.zipWith Nat.xor a b

/-- Words that each add the one before, from `t` on. -/
def aesChain : List Nat → List (List Nat) → List (List Nat)
  | _, [] => []
  | t, w :: ws => let n := aesXor w t; n :: aesChain n ws

/-- The eight words of the key schedule after eight others. -/
def aesNextKey (rcon : Nat) (ws : List (List Nat)) : List (List Nat) :=
  let l := (ws.getD 7 []).map aesSub
  let t := aesXor (l.drop 1 ++ l.take 1) [rcon, 0, 0, 0]
  let a := aesChain t (ws.take 4)
  a ++ aesChain ((a.getD 3 []).map aesSub) (ws.drop 4)

/-- Words of the key schedule, eight at a time. -/
def aesSchedule : Nat → Nat → List (List Nat) → List (List Nat)
  | 0, _, ws => ws
  | n + 1, rcon, ws => ws ++ aesSchedule n (aesTimes rcon) (aesNextKey rcon ws)

/-- The 15 round keys of a key of 32 bytes. -/
def aesKeys (key : List Nat) : List (List Nat) :=
  let ws := aesSchedule 7 1 ((List.range 8).map fun i => (key.drop (4 * i)).take 4)
  (List.range 15).map fun r => ((ws.drop (4 * r)).take 4).flatten

/-- ShiftRows by `s` columns a row: 1 for the cipher, 3 for its inverse. -/
def aesShift (s : Nat) (b : List Nat) : List Nat := (List.range 16).map fun i => b.getD (i % 4 + 4 * ((i / 4 + s * (i % 4)) % 4)) 0

/-- MixColumns with a first row of coefficients. -/
def aesMix (m : List Nat) (b : List Nat) : List Nat :=
  (List.range 16).map fun i => (List.range 4).foldl (fun x j => Nat.xor x (aesMul 4 (b.getD (i / 4 * 4 + j) 0) (m.getD ((j + 4 - i % 4) % 4) 0))) 0

/-- Encryption and decryption of one block. -/
def aesEncrypt (ks : List (List Nat)) (b : List Nat) : List Nat :=
  let s := ((ks.drop 1).take 13).foldl (fun s k => aesXor (aesMix [2, 3, 1, 1] (aesShift 1 (s.map aesSub))) k) (aesXor b (ks.getD 0 []))
  aesXor (aesShift 1 (s.map aesSub)) (ks.getD 14 [])
def aesDecrypt (ks : List (List Nat)) (b : List Nat) : List Nat :=
  let s := ((ks.drop 1).take 13).reverse.foldl (fun s k => aesMix [14, 11, 13, 9] (aesXor ((aesShift 3 s).map aesUnsub) k))
    (aesXor b (ks.getD 14 []))
  aesXor ((aesShift 3 s).map aesUnsub) (ks.getD 0 [])

/-- The low `n` bytes of a number, and the number that bytes spell. -/
def aesBytes (n x : Nat) : List Nat := (List.range n).map fun i => x / 256 ^ i % 256
def aesNat (bs : List Nat) : Nat := bs.foldr (fun b n => b + 256 * n) 0

/-- The tweak of the next block: multiplied by x in GF(2^128). -/
def xtsTweak (t : Nat) : Nat := let y := 2 * t; if y < 2 ^ 128 then y else Nat.xor (y - 2 ^ 128) 0x87

/-- The blocks of a data unit under their tweaks. -/
def xtsBlocks (f : List Nat → List Nat) : Nat → Nat → Nat → List Nat
  | 0, _, _ => []
  | n + 1, t, x =>
    let w := aesBytes 16 t
    aesXor (f (aesXor (aesBytes 16 x) w)) w ++ xtsBlocks f n (xtsTweak t) (x / 2 ^ 128)

/-- AES-256-XTS on a 64 B line (R166): encrypt (true) or decrypt, under a key pair of 512 bits, the data key in its low half and the
tweak key in its high half; the data unit number is the tweak. -/
def aesXts (enc : Bool) (key : BitVec 512) (unit : Nat) (l : BitVec 512) : BitVec 512 :=
  let k := aesBytes 64 key.toNat
  let ks := aesKeys (k.take 32)
  let t := aesNat (aesEncrypt (aesKeys (k.drop 32)) (aesBytes 16 unit))
  BitVec.ofNat 512 (aesNat (xtsBlocks (if enc then aesEncrypt ks else aesDecrypt ks) 4 t l.toNat))

/-! ### The random bit generator (R393) -/

/-- Blocks of output: the counter block counts on before each. Bytes stand in the order of the standard, the highest first. -/
def Drbg.blocks : Nat → Drbg → List Nat × Drbg
  | 0, g => ([], g)
  | n + 1, g =>
    let v := g.v + 1
    let b := aesEncrypt (aesKeys (aesBytes 32 g.key.toNat).reverse) (aesBytes 16 v.toNat).reverse
    let (bs, g) := Drbg.blocks n { g with v := v }
    (b ++ bs, g)

/-- Update with 48 bytes: a new key and counter block. -/
def Drbg.update (x : List Nat) (g : Drbg) : Drbg :=
  let (bs, g) := g.blocks 3
  let t := aesXor bs x
  { g with key := BitVec.ofNat 256 (aesNat (t.take 32).reverse), v := BitVec.ofNat 128 (aesNat (t.drop 32).reverse) }

/-- Seed the generator from the entropy source. -/
def Drbg.seed (g : Drbg) : Drbg :=
  { g.update (aesBytes 48 (Config.entropy g.seeds).toNat).reverse with count := 0, seeds := g.seeds + 1 }

/-- One request for `n` bytes, which seeds the generator first when 2^20 requests have passed since it was seeded. -/
def Drbg.generate (n : Nat) (g : Drbg) : List Nat × Drbg :=
  let g := if 1048576 ≤ g.count then g.seed else g
  let (bs, g) := g.blocks ((n + 15) / 16)
  (bs.take n, { g.update (List.replicate 48 0) with count := g.count + 1 })

/-- Random bytes as a number. -/
def Device.random (n : Nat) (d : Device) : Nat × Device :=
  let (bs, g) := d.sec.drbg.generate n
  (aesNat bs, d.updSec fun s => { s with drbg := g })

/-- Generate a memory key pair (R166): its identity. -/
def Device.makeKey (d : Device) : Nat × Device :=
  let n := d.sec.nextKey
  let (k, d) := d.random 64
  (n, d.updSec fun s => { s with nextKey := n + 1, keys := Map.set 0 s.keys n (BitVec.ofNat 512 k) })

end Sys2Proof.Machine
end

