-- ==== Sys2Proof/Machine/Mem.lean ====
section
/-! DEFINITION. The addressed memories as named operations: the local address map (R147, R148), DRAM lines under their
keys and codes (R163 to R169), tile array memory (R60 to R64), and the marshal's own writes of records. -/

namespace Sys2Proof.Machine

/-! ### The local address map -/

/-- Where a local address lies (Table 6.2, R60 to R62, R148). -/
inductive Place where
  /-- the partition area of a channel: channel and channel offset -/
  | dram (c off : Nat)
  /-- the marshal area of a channel -/
  | marshal (c off : Nat)
  /-- beyond a channel's capacity -/
  | dramHole (c : Nat)
  /-- a tile window: tile and window offset -/
  | tile (t off : Nat)
  | tileHole (t : Nat)
  /-- the window of a tile index 208 to 4,095 -/
  | noTile
  | reqtab (off : Nat)
  | page (slot off : Nat)
  | reserved
  deriving DecidableEq, Repr

/-- Capacity in bytes by CAP code (Table 19.6, R9). -/
def capBytes (cap : Nat) : Nat := 64000000000 * 2 ^ cap

/-- End of the partition area of a channel (R148). -/
def Chan.area (c : Chan) : Nat := capBytes c.cap - 67108864

/-- Classify a local address. -/
def Device.place (d : Device) (a : Nat) : Place :=
  if a < 0x0C0000000000 then
    let c := a / 2 ^ 39
    let o := a % 2 ^ 39
    let x := d.chan c
    if o < x.area then .dram c o else if o < capBytes x.cap then .marshal c o else .dramHole c
  else if a < 0x0D0000000000 then .reserved
  else if a < 0x0D0800000000 then
    let t := (a - 0x0D0000000000) / 2 ^ 23
    let o := a % 2 ^ 23
    if 208 ≤ t then .noTile else if 0x60000 ≤ o % 2 ^ 19 then .tileHole t else .tile t o
  else if a < 0x0E0000000000 then .reserved
  else if a < 0x0E0002000000 then .reqtab (a - 0x0E0000000000)
  else if a < 0x0F0000000000 then .reserved
  else if a < 0x0F0010000000 then .page ((a - 0x0F0000000000) / 4096) (a % 4096)
  else .reserved

/-- The page that counts an access of an address in a hole, a reserved range or a missing tile (R60, R62, R147, R148). -/
def Device.holePage (d : Device) (a : Nat) : Option Nat :=
  match d.place a with
  | .dramHole c => some (pgChan c)
  | .tileHole t => some (pgTile t)
  | .noTile | .reserved => some pgMailbox
  | .page s _ => if pageType s = 0 then some pgMailbox else none
  | _ => none

/-- An address of each part of a range: every boundary between parts is a multiple of 64. -/
def rangePoints (a n : Nat) : List Nat := a :: (((List.range (n / 64 + 1)).map fun i => (a / 64 + 1 + i) * 64).filter fun x => decide (x < a + n))

/-- Count an access on every page that names a hole or a reserved range in it, once each (R304). -/
def Device.countHoles (a n : Nat) (d : Device) : Device :=
  ((rangePoints a n).filterMap d.holePage).eraseDups.foldl (fun d p => d.countErr p errAccess) d

/-- Count a read by the marshal, the starter or the security island: as `countHoles`, but a read of a DRAM hole counts nowhere (R148). -/
def Device.countReadHoles (a n : Nat) (d : Device) : Device :=
  (((rangePoints a n).filter fun x => match d.place x with | .dramHole _ => false | _ => true).filterMap d.holePage).eraseDups.foldl
    (fun d p => d.countErr p errAccess) d

/-- Local address of a channel offset. -/
def dramAddr (c off : Nat) : Nat := c * 2 ^ 39 + off

/-! ### DRAM lines (R163, R164, R166, R167) -/

/-- The key and plaintext of a stored line: what was written there, or the zero of its area's fill (R166, R167). -/
def Chan.stored (x : Chan) (idx : Nat) : Option DramLine :=
  match Map.get none x.lines idx with
  | some l => some l
  | none => (if 64 * idx < x.area then x.filled else x.filledM).map fun k => { key := k, data := 0 }

/-- What a line reads as under a key with ciphertext bits `err` inverted (R164, R166): its plaintext under its own key without an error;
else what the cipher makes of it, with the line's local address ÷ 64 as data unit number. Where nothing was ever written, or there is
no key, a free value (DESIGN CHOICE, log entry 10). -/
def Device.plain (c idx : Nat) (key : Option Nat) (err : Line) (d : Device) : Line × Device :=
  let unit := c * 2 ^ 33 + idx
  match (d.chan c).stored idx, key with
  | some l, some k =>
    let pair (n : Nat) : BitVec 512 := Map.get 0 d.sec.keys n
    if k = l.key ∧ err = 0 then (l.data, d) else (aesXts false (pair k) unit (aesXts true (pair l.key) unit l.data ^^^ err), d)
  | _, _ => (BitVec.ofNat 512 d.draw.1, d.draw.2)

/-- Count a corrected burst (R163). -/
def Device.countCe (c : Nat) (dev : Option Nat) (d : Device) : Device :=
  let d := d.updChan c fun x => { x with ceCnt := satInc x.ceCnt }
  match dev with
  | none => d.setIntBit (pgChan c) 1
  | some j =>
    ((d.updChan c fun x => { x with devCe := Map.upd 0 x.devCe j satInc }).setInt (pgChan c) (if j = 9 then 2 else 6))

/-- The data bits of a line that a decoder leaves inverted, from its word masks: bit i of word w is position i + 8 (R161). -/
def errLine (ms : List Nat) : Line := BitVec.ofNat 512 (ms.foldr (fun m n => m / 256 % 2 ^ 64 + 2 ^ 64 * n) 0)

/-- Read a line through the decoder (R163, R164): none when the burst is uncorrectable. -/
def Device.readLine (c idx : Nat) (key : Option Nat) (d : Device) : Option Line × Device :=
  let give (err : Line) (d : Device) : Option Line × Device := let (l, d) := d.plain c idx key err; (some l, d)
  match d.upset (.dram c idx) with
  | none => give 0 d
  | some u =>
    let d := d.noteRead (.dram c idx)
    match burstDecode (u.mask.map BitVec.toNat) (u.outer.map BitVec.toNat) with
    | .clean => give 0 d
    | .passed r => give (errLine r) d
    | .corrected r j => give (errLine r) (d.countCe c j)
    | .bad => (none, d)

/-- Write a line under a key, with fresh codes (R164). -/
def Device.writeLine (c idx : Nat) (key : Option Nat) (l : Line) (d : Device) : Device :=
  match key with
  | none => d
  | some k =>
    (d.updChan c fun x => { x with lines := Map.set none x.lines idx (some { key := k, data := l }) }).clearUpset (.dram c idx)

/-- DRAM_UE of a line (R169): on the context that owns the channel; of a channel that no partition owns, or of a marshal area, it is
recorded and changes no partition. -/
def Device.dramUe (c idx unit : Nat) (bib : W32) (d : Device) : Device :=
  let owner := if 64 * idx < (d.chan c).area then (d.chan c).owner else 0
  let drill := match d.upset (.dram c idx) with | some u => u.drill | none => false
  let sig : List Byte := match d.upset (.dram c idx) with
    | some u =>
      let ws := (u.mask.map BitVec.toNat).zip (u.outer.map BitVec.toNat)
      let cand := (List.range 10).filter fun j => ws.all fun w => syndrome (rebuild j w.1 w.2) == 0
      (u.mask.map fun m => BitVec.ofNat 8 (syndrome m.toNat)) ++ leBytes 2 (cand.foldl (fun a j => a + 2 ^ j) 0)
    | none => []
  d.raise { code := 0x0203, unit := unit, pcid := owner, action := if owner = 0 then 0 else 2, bib := bib,
            addr := dramAddr c (64 * idx), drill := drill, specific := sig }

/-- The range touches the read-only bytes of an accepted image (R177). -/
def Device.inImage (d : Device) (a n : Nat) : Bool :=
  partList.any fun j => (d.part j).roRanges.any fun r => decide (a < r.1 + r.2) && decide (r.1 < a + n)

/-- A line of a channel holds read-only bytes of an accepted image (R177). -/
def Device.imageLine (d : Device) (c idx : Nat) : Bool := d.inImage (dramAddr c (64 * idx)) 64

/-- The key a partition's channels use (R166). -/
def Device.keyOf (d : Device) (k : Nat) : Option Nat := (d.part k).key

/-- An unplanned access asks for a line of a channel (R158). What it reads or writes is settled with the request; its line transfer waits
until the controller admits it (DESIGN CHOICE, log entry 53). -/
def Device.askLine (c idx : Nat) (wr : Bool) (d : Device) : Device :=
  d.updChan c fun x => { x with asked := x.asked ++ [(d.cyc, idx, wr)] }

/-- Read `n` lines from a line index on, by the marshal or the starter, for partition `k`; an uncorrectable line is
replaced by zeros after its fault (R169). A line of an image copy, which only the load gate may read (R177), and one beyond the partition
area read as zeros (R148; DESIGN CHOICE, log entry 49). -/
def Device.readLines (k c : Nat) : Nat → Nat → Device → List Line × Device
  | _, 0, d => ([], d)
  | idx, n + 1, d =>
    let (l, d) := if d.imageLine c idx || decide ((d.chan c).area ≤ 64 * idx) then (some 0, d)
      else (d.askLine c idx false).readLine c idx (d.keyOf k)
    let d := match l with
      | some _ => d
      | none => d.dramUe c idx (2304 + c) 0xFFFFFFFF
    let (t, d) := Device.readLines k c (idx + 1) n d
    (l.getD 0 :: t, d)

/-- Read bytes of a partition's DRAM at a local address (R158); bytes elsewhere read as zero, and an access of a reserved range is counted
(R147). -/
def Device.readBytes (k a n : Nat) (d : Device) : List Byte × Device :=
  let d := d.countReadHoles a n
  match d.place a with
  | .dram c o =>
    let i := o / 64
    let j := (o + n + 63) / 64
    let (ls, d) := d.readLines k c i (j - i) 
    (((ls.map Line.bytes).flatten.drop (o % 64)).take n, d)
  | _ => (List.replicate n 0, d)

/-- Overlay bytes on a line from byte `at_` on. -/
def Line.overlay (l : Line) (at_ : Nat) (bs : List Byte) : Line :=
  Line.ofBytes (l.bytes.take at_ ++ bs ++ l.bytes.drop (at_ + bs.length))

/-- Words `ws` of an arriving line as the controller's decoders leave them, and their errors gone with them (R164): none where one is
uncorrectable. `w0` is the number of the line's word 0 among the sites. -/
def Device.arriving (c w0 : Nat) (ws : List Nat) (l : Line) (d : Device) : Option Line × Device :=
  let res := (List.range 8).map fun i => if ws.contains i then (match d.readSite (.arriving c (w0 + i)) with
    | .clean => some 0
    | .corrected r | .undetected r => some r.toNat
    | .bad _ _ => none) else some 0
  let d := d.forAll ws fun i => Device.clearUpset (.arriving c (w0 + i))
  (if res.all (·.isSome) then some (l ^^^ errLine (res.map fun r => r.getD 0 * 256)) else none, d)

/-- Bytes of an unplanned write to one line as they arrive through the word code (R164): none where a word of them is uncorrectable. -/
def Device.arrivingPart (c at_ : Nat) (bs : List Byte) (d : Device) : Option (List Byte) × Device :=
  let ws := (List.range 8).filter fun i => decide (8 * i < at_ + bs.length) && decide (at_ < 8 * i + 8)
  let (l, d) := d.arriving c 16 ws (Line.overlay 0 at_ bs)
  (l.map fun l => (l.bytes.drop at_).take bs.length, d)

/-- Write bytes within one line of the partition area; those of an image copy are refused and counted (R177), and those with an
uncorrectable arriving word are not written (R169). -/
def Device.writePart (k c idx at_ : Nat) (bs : List Byte) (d : Device) : Device :=
  if (d.chan c).area ≤ 64 * idx then d
  else if d.inImage (dramAddr c (64 * idx + at_)) bs.length then d.countErr (pgChan c) errDenied
  else
    match (d.askLine c idx true).arrivingPart c at_ bs with
    | (none, d) => d.dramUe c idx (2304 + c) 0xFFFFFFFF
    | (some bs, d) =>
      if at_ = 0 ∧ bs.length = 64 then d.writeLine c idx (d.keyOf k) (Line.ofBytes bs)
      else
        let (l, d) := d.readLine c idx (d.keyOf k)
        match l with
        | some l => d.writeLine c idx (d.keyOf k) (Line.overlay l at_ bs)
        | none => d.dramUe c idx (2304 + c) 0xFFFFFFFF

/-- Write bytes to a partition's DRAM, line by line, `fuel` lines at most. -/
def Device.writeBytesAt (k c : Nat) : Nat → Nat → List Byte → Device → Device
  | 0, _, _, d => d
  | fuel + 1, o, bs, d =>
    if bs.isEmpty then d
    else
      let room := 64 - o % 64
      Device.writeBytesAt k c fuel (o + room) (bs.drop room) (d.writePart k c (o / 64) (o % 64) (bs.take room))

/-- Write bytes at a local address of a partition's DRAM (R158); a write elsewhere does nothing, and one to a hole or a reserved range is
counted (R147, R148). -/
def Device.writeBytes (k a : Nat) (bs : List Byte) (d : Device) : Device :=
  let d := d.countHoles a bs.length
  match d.place a with
  | .dram c o => d.writeBytesAt k c (bs.length / 64 + 2) o bs
  | _ => d

/-- Physical address of a virtual DRAM address of a partition's image (R172). -/
def Device.physAddr (d : Device) (k a : Nat) : Nat :=
  match (d.part k).image with
  | some im => dramAddr (im.chans.getD (a / 2 ^ 39) 0) (a % 2 ^ 39)
  | none => a

/-! ### Tile array memory (R61, R63, R67) -/

/-- Word index of a window offset: 2,048 × (24 × bank + subarray) + word (R61). -/
def tileWord (off : Nat) : Nat :=
  2048 * (24 * (off / 2 ^ 19 % 16) + off % 2 ^ 19 / 2 ^ 14) + off % 2 ^ 14 / 8

/-- A word as it stands. -/
def Tile.word (t : Tile) (w : Nat) : W64 := Map.get 0 t.mem w

/-- Write a word; the canonical form drops zeros (R67). -/
def Tile.setWord (w : Nat) (v : W64) (t : Tile) : Tile := { t with mem := Map.set 0 t.mem w v }

/-- The eight words of a line by window offset ÷ 64. -/
def lineWords (idx : Nat) : List Nat := (List.range 8).map fun j => tileWord (64 * idx) + j

/-- The words of a line. -/
def Line.words (l : Line) : List W64 := (List.range 8).map fun j => BitVec.ofNat 64 (l.toNat >>> (64 * j))

/-- A line from words. -/
def Line.ofWords (ws : List W64) : Line := BitVec.ofNat 512 (ws.foldr (fun w n => w.toNat + 2 ^ 64 * n) 0)

/-- Write a line of array memory. -/
def Tile.setLine (idx : Nat) (l : Line) (t : Tile) : Tile :=
  ((lineWords idx).zip (Line.words l)).foldl (fun t x => t.setWord x.1 x.2) t

/-- The array clear of a tile reset is under way (R67, Table 3.7): 6,144 cycles from the reset's release. -/
def Device.clearing (d : Device) (t : Nat) : Bool := decide (d.cyc < (d.tile t).clearUntil)

/-- Whether the array clear overwrites a word written in the meantime: the order of the lines is not stated, so the choice is free
(DESIGN CHOICE, log entry 5). -/
def Device.overwritten (t : Nat) (d : Device) : Bool × Device :=
  if d.clearing t then (d.draw.1 % 2 == 0, d.draw.2) else (false, d)

/-- Write a line and give its words fresh check bits. -/
def Device.writeTileLine (t idx : Nat) (l : Line) (d : Device) : Device :=
  let (lost, d) := d.overwritten t
  (d.updTile t (Tile.setLine idx (if lost then 0 else l))).forAll (lineWords idx) fun w d => d.clearUpset (.sram t w)

/-- Write a word and give it fresh check bits. -/
def Device.writeTileWord (t w : Nat) (v : W64) (d : Device) : Device :=
  let (lost, d) := d.overwritten t
  (d.updTile t (Tile.setWord w (if lost then 0 else v))).clearUpset (.sram t w)

/-- SRAM_UE of a word (R63). -/
def Device.sramUe (t w syn : Nat) (drill : Bool) (bib : W32) (d : Device) : Device :=
  let g := w / 2048
  d.raise { code := 0x0201, unit := t, pcid := (d.tile t).owner, action := 3, bib := bib, drill := drill,
            addr := 0x0D0000000000 + t * 2 ^ 23 + g / 24 * 2 ^ 19 + g % 24 * 2 ^ 14 + w % 2048 * 8,
            specific := leBytes 1 syn ++ leBytes 1 (g / 24) ++ leBytes 1 (g % 24) }

/-- Read a word through the word code (R63): none when it is uncorrectable, after its fault. While the array clear of a reset runs
the memory is not yet readable, and what a read gives is a free value (DESIGN CHOICE, log entry 5). -/
def Device.readTileWord (t w : Nat) (bib : W32) (d : Device) : Option W64 × Device :=
  let v := (d.tile t).word w
  if d.clearing t then (some (BitVec.ofNat 64 d.draw.1), d.draw.2)
  else match d.readSite (.sram t w) with
  | .clean => (some v, d)
  | .undetected r => (some (v ^^^ r), d.noteRead (.sram t w))
  | .corrected r =>
    (some (v ^^^ r), ((d.noteRead (.sram t w)).updTile t fun x => { x with sramCe := satInc x.sramCe }).setIntBit (pgTile t) 1)
  | .bad s drill => (none, (d.noteRead (.sram t w)).sramUe t w s drill bib)

/-- Read words in order; an uncorrectable word is not delivered: zero stands in its place in the line or block, after its fault
(DESIGN CHOICE, log entry 47). -/
def Device.readTileWords (t : Nat) (bib : W32) : List Nat → Device → List W64 × Device
  | [], d => ([], d)
  | w :: ws, d =>
    let (v, d) := d.readTileWord t w bib
    let (vs, d) := Device.readTileWords t bib ws d
    (v.getD 0 :: vs, d)

/-- Read a line of array memory. -/
def Device.readTileLine (t idx : Nat) (bib : W32) (d : Device) : Line × Device :=
  let (ws, d) := d.readTileWords t bib (lineWords idx)
  (Line.ofWords ws, d)

end Sys2Proof.Machine
end

