-- ==== Sys2Proof/Machine/Reqtab.lean ====
section
/-! DEFINITION. The request table (R191 to R193, Tables 8.2 and 8.3): the fields of an entry, reading one through the word
code, REQTAB_UE (R349), and the states that a run's end or a teardown gives requests (R210). -/

namespace Sys2Proof.Machine

/-- A request entry of 32 B (Table 8.2): word w, bit b is bit 64 w + b. -/
abbrev ReqEntry := BitVec 256

/-- Replace a field of an entry. -/
def setBits (n : Nat) (x : BitVec n) (lo w v : Nat) : BitVec n :=
  BitVec.ofNat n (x.toNat - bits x.toNat lo w * 2 ^ lo + v % 2 ^ w * 2 ^ lo)

def ReqEntry.tenant (e : ReqEntry) : Nat := bits e.toNat 0 12
def ReqEntry.part (e : ReqEntry) : Nat := bits e.toNat 12 3
def ReqEntry.latepol (e : ReqEntry) : Bool := bit e.toNat 15
def ReqEntry.state (e : ReqEntry) : Nat := bits e.toNat 16 4
def ReqEntry.spec (e : ReqEntry) : Nat := bits e.toNat 20 2
def ReqEntry.fallback (e : ReqEntry) : Bool := bit e.toNat 22
def ReqEntry.lateSeen (e : ReqEntry) : Bool := bit e.toNat 23
def ReqEntry.tag (e : ReqEntry) : Nat := bits e.toNat 24 16
def ReqEntry.maxTokens (e : ReqEntry) : Nat := bits e.toNat 40 19
def ReqEntry.cause (e : ReqEntry) : Nat := bits e.toNat 59 4
def ReqEntry.deadline (e : ReqEntry) : Nat := bits e.toNat 64 64
def ReqEntry.dirLine (e : ReqEntry) : Nat := bits e.toNat 128 42
def ReqEntry.winStep (e : ReqEntry) : Nat := bits e.toNat 170 5
def ReqEntry.winAcc (e : ReqEntry) : Nat := bits e.toNat 175 9
def ReqEntry.rearm (e : ReqEntry) : Nat := bits e.toNat 184 8
def ReqEntry.pos0 (e : ReqEntry) : Nat := bits e.toNat 192 27
def ReqEntry.home (e : ReqEntry) : Nat := bits e.toNat 219 5
def ReqEntry.tokensOut (e : ReqEntry) : Nat := bits e.toNat 224 19
def ReqEntry.slot (e : ReqEntry) : Nat := bits e.toNat 243 13

def ReqEntry.setState (s c : Nat) (e : ReqEntry) : ReqEntry := setBits 256 (setBits 256 e 16 4 s) 59 4 c
def ReqEntry.setFallback (b : Bool) (e : ReqEntry) : ReqEntry := setBits 256 e 22 1 (b2n b)
def ReqEntry.setLateSeen (e : ReqEntry) : ReqEntry := setBits 256 e 23 1 1
def ReqEntry.setWin (step acc rearm : Nat) (e : ReqEntry) : ReqEntry :=
  setBits 256 (setBits 256 (setBits 256 e 170 5 step) 175 9 acc) 184 8 rearm
def ReqEntry.setTokensOut (n : Nat) (e : ReqEntry) : ReqEntry := setBits 256 e 224 19 n
def ReqEntry.setSlot (n : Nat) (e : ReqEntry) : ReqEntry := setBits 256 e 243 13 n

/-- Fields the starter writes are zero when an entry is submitted (R191). -/
def ReqEntry.submitted (e : ReqEntry) : ReqEntry :=
  ReqEntry.setSlot 0 (ReqEntry.setTokensOut 0 (ReqEntry.setWin 0 0 0 (setBits 256 (setBits 256 e 22 2 0) 59 4 0)))

/-- A terminal state (Table 8.3). -/
def terminalState (s : Nat) : Bool := 3 ≤ s && s ≤ 6

/-- Entry `r` as stored. -/
def Device.req (d : Device) (r : Nat) : ReqEntry := Map.get 0 d.starter.table r

/-- Write an entry whole, with fresh check bits. -/
def Device.setReq (r : Nat) (e : ReqEntry) (d : Device) : Device :=
  (d.updStarter fun s => { s with table := Map.set 0 s.table r e }).forAll [0, 1, 2, 3] fun w d => d.clearUpset (.reqtab r w)

/-- Change an entry. -/
def Device.updReq (r : Nat) (f : ReqEntry → ReqEntry) (d : Device) : Device := d.setReq r (f (d.req r))

/-- Take a request out of every queue (R193). -/
def Device.unqueue (r : Nat) (d : Device) : Device :=
  d.updStarter fun s => { s with queues := (s.queues.map fun q => (q.1, q.2.filter (· != r))).filter fun q => !q.2.isEmpty }

/-- The partition and slot a request occupies, from the slot tables. -/
def Device.slotOf (d : Device) (r : Nat) : Option (Nat × Nat) :=
  partList.findSome? fun k =>
    ((d.part k).serving.slotTab.find? fun s => s.2.req == some r).map fun s => (k, s.1)

/-- The partition of a queued request, from the link store. -/
def Device.queuePart (d : Device) (r : Nat) : Option Nat :=
  (d.starter.queues.find? fun q => q.2.contains r).map fun q => q.1 / 4096

/-- Change one slot of a partition. -/
def Device.updSlot (k s : Nat) (f : Slot → Slot) (d : Device) : Device :=
  d.updServing k fun v => { v with slotTab := Map.upd {} v.slotTab s f }

/-- REQTAB_UE (R349): the entry becomes FAILED with cause 0xD; a queued entry leaves its queue, an active one's slot is
masked and freed as under a cancel. -/
def Device.reqtabUe (r w syn : Nat) (drill : Bool) (d : Device) : Device :=
  let _ := syn
  let owner := match d.slotOf r with
    | some (k, _) => d.pcid k
    | none => match d.queuePart r with
      | some k => d.pcid k
      | none => 0
  let d := d.raise { code := 0x0206, unit := 2369, pcid := owner, action := 0, drill := drill,
                     addr := 0x0E0000000000 + 32 * r + 8 * w, specific := leBytes 4 r }
  let d := match d.slotOf r with
    | some (k, s) => d.updSlot k s fun x => { x with cancel := true }
    | none => d
  let e := (List.range 4).foldl (fun (e : ReqEntry) w =>
    match d.readSite (.reqtab r w) with
    | .bad _ _ => setBits 256 e (64 * w) 64 0
    | _ => e) (d.req r)
  (d.unqueue r).setReq r (ReqEntry.setState 6 0xD e)

/-- Read an entry through the word code: corrected words are counted (REQTAB_CE_CNT), an uncorrectable one fails the
entry. -/
def Device.readReq (r : Nat) (d : Device) : ReqEntry × Device :=
  let d := [0, 1, 2, 3].foldl (fun (d : Device) w =>
    match d.readSite (.reqtab r w) with
    | .clean | .undetected _ => d
    | .corrected _ => ((d.noteRead (.reqtab r w)).updStarter fun s => { s with ceCnt := satInc s.ceCnt }).setIntBit pgReqtab 1
    | .bad s drill => (d.noteRead (.reqtab r w)).reqtabUe r w s drill) d
  (d.req r, d)

/-- Entries in a state that mirrored writes have left in a shadow partition (R333). -/
def Device.mirroredIn (d : Device) (k st : Nat) : List Nat := (d.part k).shadow.entries.filter fun r => ReqEntry.state (d.req r) == st

/-- Every ACTIVE request of a partition becomes FAILED with a cause, and its slot is freed (R210). -/
def Device.failActive (k cause : Nat) (d : Device) : Device :=
  let rs := (d.part k).serving.slotTab.filterMap (fun s => s.2.req) ++ d.mirroredIn k 2
  let d := d.forAll rs fun r d =>
    let e := d.req r
    if e.state = 2 then d.setReq r (ReqEntry.setState 6 cause e) else d
  d.updServing k fun v => { v with slotTab := [], boundary := none, expected := none, applied := 0 }

/-- Every QUEUED request of a partition becomes FAILED with a cause (R210). -/
def Device.failQueued (k cause : Nat) (d : Device) : Device :=
  let rs := ((d.starter.queues.filter fun q => q.1 / 4096 == k).map (·.2)).flatten ++ d.mirroredIn k 1
  let d := d.forAll rs fun r d => d.updReq r (ReqEntry.setState 6 cause)
  d.updStarter fun s => { s with queues := s.queues.filter fun q => q.1 / 4096 != k }

/-- A serving run has ended by completion, abort or reset, or is torn down (R210). -/
def Device.servingEnd (k : Nat) (d : Device) : Device :=
  match (d.part k).image with
  | some im => if im.serving then d.failActive k (if (d.part k).run.teardown then 0xC else 0xB) else d
  | none => d

end Sys2Proof.Machine
end

