-- ==== Sys2Proof/Machine/Issue.lean ====
section
/-! DEFINITION. How a pacer issues strides (R88 to R95): the next stride and its due cycle, the configuration an
operation sees, repeats, and moving past an issued stride. -/

namespace Sys2Proof.Machine

/-- The stride a pacer is to issue next. -/
def Pacer.nextStride (x : Pacer) : Stride := Map.get 0 x.table (2048 * b2n x.bank + x.next)

/-- The cycle in which the next stride is due (R89). -/
def Pacer.dueAt (x : Pacer) : Nat := x.lastIssue + Stride.offset x.nextStride

/-- The shadow set as it stands in cycle `c` (R94). -/
def Pacer.shadowNow (x : Pacer) (c : Nat) : Cfg :=
  match x.ldesc with
  | some (due, g) => if due ≤ c then g else x.shadowCfg
  | none => x.shadowCfg

/-! ### Comparators (R102, R103) -/

/-- Write LC_CUR of a counter in cycle `c`. -/
def Pacer.setLc (c ctr : Nat) (v : BitVec 24) (x : Pacer) : Pacer :=
  { x with lcOld := rememberOld c ctr (Map.get 0 x.lcCur ctr) x.lcOld, lcCur := Map.set 0 x.lcCur ctr v }

/-- Write a comparator in cycle `c`. -/
def Pacer.setCmp (c m : Nat) (v : Cmp) (x : Pacer) : Pacer :=
  { x with cmpOld := rememberOld c m (Map.get {} x.cmps m) x.cmpOld, cmps := Map.set {} x.cmps m v }

/-- The comparator a wait with due cycle `td` uses: a SETCMP counts from the cycle after its issue (R102). -/
def Pacer.cmpFor (td m : Nat) (x : Pacer) : Cmp := atStart td m (Map.get {} x.cmps m) x.cmpOld

/-- The value of a comparator's source at the start of plan cycle `c`, for pacer `p` as `x` stands (R102, R103). -/
def Device.cmpSource (d : Device) (p : Nat) (x : Pacer) (c : Nat) (m : Cmp) : Nat :=
  match m.src with
  | 0 => (atStart c m.index (Map.get 0 x.lcCur m.index) x.lcOld).toNat
  | 1 => match d.pacerPart p with
    | some k => (atStart d.cyc m.index (d.ccOf k m.index) (d.part k).ccOld).count.toNat
    | none => 0
  | 2 => d.clk.lapCyc
  | _ => (d.splitIn (pacerRegion p) - x.heatT0).toNat % 2 ^ 48

/-- A comparator is satisfied (R102). -/
def Device.cmpTrue (d : Device) (p : Nat) (x : Pacer) (c : Nat) (m : Cmp) : Bool :=
  m.enable && (match m.rel with
    | 0 => decide (m.value.toNat ≤ d.cmpSource p x c m)
    | 1 => d.cmpSource p x c m == m.value.toNat
    | _ => false)

/-- BANK_READY stood at the start of this cycle (R103, R109). -/
def Device.readyNow (d : Device) (x : Pacer) : Bool := x.ready && decide (x.readyCyc < d.cyc)

/-! ### The course of a pacer (R89, R97 to R99, R107) -/

/-- Entry of the loop of the next stride in cycle `c` (R98): latch the count, or skip the body when it is zero. A loop-begin stride that a
SWAP's ENTRY names, or that is stride 0 at S, is entered as one that the stride before it leads to (DESIGN CHOICE, log entry 52). -/
def Pacer.enterLoop (c ctr : Nat) (forever : Bool) (e : Nat) (x : Pacer) : Pacer :=
  if forever then { x with entered := true }
  else
    let n := Map.get 0 x.lcInit ctr
    let x := x.setLc c ctr n
    if n = 0 then { x with next := e + 1, lastIssue := c } else { x with entered := true }

/-- The counter, the FOREVER flag and the begin stride of the loop that a stride ends. -/
def Pacer.loopOf (x : Pacer) (i : Nat) : Option (Nat × Bool × Nat) :=
  let lw (j : Nat) : Lw := lwDecode (Stride.lw (Map.get 0 x.table (2048 * b2n x.bank + j)))
  match lw i with
  | .loopEnd ctr b => match lw b with
    | .loopBegin _ f _ => some (ctr, f, b)
    | _ => some (ctr, false, b)
  | .loopBegin ctr f _ => some (ctr, f, i)
  | _ => none

/-- After a loop's end stride has issued in cycle `c` (R99): decrement, and jump back or fall through. -/
def Pacer.endLoop (c : Nat) (x : Pacer) : Pacer :=
  match x.pendingEnd with
  | none => x
  | some i =>
    match x.loopOf i with
    | none => { x with pendingEnd := none }
    | some (ctr, forever, b) =>
      let x := { x with pendingEnd := none }
      if forever then { x with next := b, entered := true }
      else
        let n : BitVec 24 := Map.get 0 x.lcCur ctr - 1
        let x := x.setLc c ctr n
        if n = 0 then x else { x with next := b, entered := true }

/-- Move past the stride issued in cycle `c` under configuration `cfg` (R89, R90, R99). -/
def Pacer.pass (c : Nat) (cfg : Cfg) (x : Pacer) : Pacer :=
  let w := x.nextStride
  let op := Stride.op w
  let o := Stride.opnd w
  { x with
    strideIdx := x.next
    lastIssue := c
    stall := 0
    entered := false
    waitOk := none
    lapsed := false
    missed := false
    pendingEnd := match lwDecode (Stride.lw w) with
      | .loopEnd _ _ => some x.next
      | .loopBegin _ _ e => if e = x.next then some x.next else none
      | _ => none
    outst := if repOf op o = 0 then x.outst
             else x.outst ++ [{ op := op, opnd := BitVec.ofNat 64 o, cfg := cfg, issued := c, next := 1 }]
    next := x.next + 1 }

/-- The other bank pair becomes active and stride `entry` of it follows (R107). -/
def Pacer.swapTo (entry : Nat) (x : Pacer) : Pacer := { x with bank := !x.bank, ready := false, next := entry }

/-- Move past the stride that issues in cycle `c`, with what it does to the pacer's course within the cycle: a SETCNT counts for a loop
begin of the same cycle, a SWAP goes to its entry (R98, R100, R107). -/
def Pacer.onward (c : Nat) (x : Pacer) : Pacer :=
  let o := Stride.opnd x.nextStride
  let y := x.pass c 0
  match Stride.op x.nextStride with
  | 0x03 => { y with lcInit := Map.set 0 y.lcInit (bits o 24 3) (BitVec.ofNat 24 o) }
  | 0x05 => y.swapTo (bits o 0 11)
  | _ => y

/-- The pacer's strides of a cycle end with this one: FRAME, HALT and END. -/
def stopsCycle (op : Nat) : Bool := op == 0x07 || op == 0x09 || op == 0x0A

/-- The configuration that a START makes active in cycle `c`, when one still issues in it: `x` is the pacer with everything of the
cycle so far behind it. Followed through loops, satisfied waits and a SWAP (R89, R95); at most 8 strides share a cycle. -/
def Device.startAhead (d : Device) (p c : Nat) : Nat → Pacer → Option Cfg
  | 0, _ => none
  | fuel + 1, x =>
    let x := x.endLoop c
    let w := x.nextStride
    if x.dueAt ≠ c then none
    else
      let go (x : Pacer) : Option Cfg :=
        let op := Stride.op w
        if op = 0x02 then some (x.shadowNow c)
        else if stopsCycle op || (op == 0x05 && !d.readyNow x) then none
        else Device.startAhead d p c fuel (x.onward c)
      match lwDecode (Stride.lw w) with
      | .loopBegin ctr forever e =>
        if x.entered then go x
        else
          let x' := x.enterLoop c ctr forever e
          if x'.entered then go x' else Device.startAhead d p c fuel x'
      | .wait m _ => if d.cmpTrue p x c (x.cmpFor c m) then go x else none
      | _ => go x

/-- The configuration that the stride issued in cycle `c` sees (R89, R95): that of a START of the same cycle, whatever their order, the
stride itself among them. -/
def Device.cfgNow (d : Device) (p c : Nat) : Cfg :=
  let x := d.pacer p
  let op := Stride.op x.nextStride
  if op = 0x02 then x.shadowNow c
  else if stopsCycle op then x.activeCfg
  else (d.startAhead p c 24 (x.onward c)).getD x.activeCfg

/-- The active configuration of cycle `c` for a pacer whose next stride may issue in it, or has been held for it (R89, Table 4.15). -/
def Device.cfgAt (d : Device) (p c : Nat) : Cfg :=
  let x := d.pacer p
  if x.missed then d.cfgNow p c else (d.startAhead p c 24 x).getD x.activeCfg

/-- The cycle in which a SWAP at the next stride is due (R109): with its stride, or once the stride's wait has resolved. -/
def Pacer.swapDue (x : Pacer) : Option Nat :=
  if Stride.op x.nextStride ≠ 0x05 then none
  else match lwDecode (Stride.lw x.nextStride) with
    | .wait _ _ => x.waitOk
    | .loopBegin _ _ _ => if x.entered then some x.dueAt else none
    | _ => some x.dueAt

/-- The next stride may issue in plan cycle `c`: its loop has been entered, or its wait has resolved in this cycle, and
otherwise it is due now (R89, R97, R103). A SWAP that missed its cycle issues later (R109). -/
def Pacer.canIssue (x : Pacer) (c : Nat) : Bool :=
  x.state == .running && !x.stuck && x.pendingEnd.isNone &&
  ((match lwDecode (Stride.lw x.nextStride) with
    | .loopBegin _ _ _ => x.entered && x.dueAt == c
    | .wait _ _ => x.waitOk == some c
    | _ => x.dueAt == c) ||
   (x.missed && (match x.swapDue with
    | some t => decide (t < c)
    | none => false)))

/-- Words `w` to `w + n - 1` of a pacer's table memory (0) or descriptor store (1), read through the word code: the data bits still
wrong in them, or of an uncorrectable word whether a drill armed it (R161, R162). -/
def Device.readPacer (d : Device) (p store w n : Nat) : Except Bool Nat :=
  d.flt.upsets.foldl (fun r u =>
    match r, u.site with
    | .ok m, .pacer q st x =>
      if q = p ∧ st = store ∧ w ≤ x ∧ x < w + n then
        match d.readSite u.site with
        | .clean => .ok m
        | .undetected e => .ok (Nat.xor m (e.toNat * 2 ^ (64 * (x - w))))
        | .corrected e => .ok (Nat.xor m (e.toNat * 2 ^ (64 * (x - w))))
        | .bad _ drill => .error drill
      else .ok m
    | r, _ => r) (.ok 0)

/-- PACER_UE: an uncorrectable word in table memory or a descriptor store of pacer `p`, with the bank pair it stands in (Table 14.2). -/
def Device.pacerUe (p : Nat) (drill : Bool) (d : Device) : Device :=
  d.raise { code := 0x0204, unit := p, pcid := d.pacerOwner p, action := 3, bib := d.bib p, drill := drill,
            specific := leBytes 1 (b2n (d.pacer p).bank) }

/-- The next stride of a pacer as the word code delivers it. -/
def Device.readStride (d : Device) (p : Nat) : Except Bool Nat :=
  d.readPacer p 0 (2 * (2048 * b2n (d.pacer p).bank + (d.pacer p).next)) 2

/-- Bits of the next stride that the code delivers wrong stand in the table from then on. -/
def Device.settleStride (p m : Nat) (d : Device) : Device :=
  if m = 0 then d
  else
    let x := d.pacer p
    let i := 2048 * b2n x.bank + x.next
    (d.updPacer p fun x => { x with table := Map.upd 0 x.table i (· ^^^ BitVec.ofNat 128 m) }).dropUpsets fun s =>
      s == .pacer p 0 (2 * i) || s == .pacer p 0 (2 * i + 1)

/-- Issue the next stride of a pacer when it is ready and holds operation `op` with an operand that `ok` admits: its
operand, its configuration, and the device after it. A wait or SWAP that was held past its due cycle leaves a trace
record of kind 0x3 when TR_WAIT is set (R124). A stride whose words cannot be read does not issue. -/
def Device.issueStride (p op : Nat) (ok : Nat → Bool) (d : Device) : Option (Nat × Cfg × Device) :=
  match d.pacerCyc p, d.readStride p with
  | none, _ => none
  | _, .error _ => none
  | some c, .ok m =>
    let d := d.settleStride p m
    let x := d.pacer p
    let w := x.nextStride
    if x.canIssue c && Stride.op w == op && ok (Stride.opnd w) then
      let cfg := d.cfgNow p c
      let held := x.dueAt < c
      let d := if held && Cfg.trWait cfg p then d.traceWith (Cfg.bib cfg) p 3 x.next (d.traceSplit p) else d
      some (Stride.opnd w, cfg, d.updPacer p (Pacer.pass c cfg))
    else none

/-- The operation whose repeat `n` is due in plan cycle `c`. -/
def Pacer.repeatAt (x : Pacer) (op n c : Nat) (ok : Nat → Bool) : Option Outst :=
  x.outst.find? fun o => o.op == op && o.next == n && ok o.opnd.toNat && o.issued + n * gapOf op o.opnd.toNat == c

/-- Issue number `n` of an operation that repeats (R90, R95): due in its own cycle, with the configuration of its first
issue. -/
def Device.issueRepeat (p op n : Nat) (ok : Nat → Bool) (d : Device) : Option (Nat × Cfg × Device) :=
  match d.pacerCyc p with
  | none => none
  | some c =>
    let x := d.pacer p
    match x.repeatAt op n c ok with
    | none => none
    | some o =>
      let rest := x.outst.filter (· != o)
      let rest := if n < repOf op o.opnd.toNat then rest ++ [{ o with next := n + 1 }] else rest
      some (o.opnd.toNat, o.cfg, d.updPacer p fun x => { x with outst := rest, stall := 0 })

/-- Issue `n` of an operation in this cycle: the stride itself, or a later issue of its repeat. -/
def Device.fetch (p op n : Nat) (ok : Nat → Bool) (d : Device) : Option (Nat × Cfg × Device) :=
  if n = 0 then d.issueStride p op ok else d.issueRepeat p op n ok

/-- What is left of an operation that does not issue: nothing, or PACER_UE where the stride due now cannot be read. -/
def Device.noIssue (p n : Nat) (d : Device) : Device :=
  match d.pacerCyc p, d.readStride p with
  | some c, .error drill => if n = 0 ∧ (d.pacer p).canIssue c then d.pacerUe p drill else d
  | _, _ => d

/-- Run `f` on the operand, configuration and device of an issue; nothing happens when the operation is not due. -/
def Device.onIssue (p op n : Nat) (ok : Nat → Bool) (f : Nat → Cfg → Device → Device) (d : Device) : Device :=
  match d.fetch p op n ok with
  | some (o, c, d') => f o c d'
  | none => d.noIssue p n

/-- Every operand. -/
def anyOpnd (_ : Nat) : Bool := true

/-- Plan cycle of a unit's pacer now, 0 while frozen: used after an issue, when it stands. -/
def Device.now (d : Device) (p : Nat) : Nat := (d.pacerCyc p).getD 0

end Sys2Proof.Machine
end

