-- ==== Sys2Proof/Machine/Photo.lean ====
section
/-! DEFINITION. The photo-finish check (R335 to R337): the running register of a contributing pacer, lap digests, and the
heat digest with its record. -/

namespace Sys2Proof.Machine

/-- One bit step of the CRC-64 of R335. -/
def crcBits : Nat → Nat → Nat
  | 0, r => r
  | n + 1, r => crcBits n (if r.testBit 63 then Nat.xor (r * 2 % 2 ^ 64) 0x42F0E1EBA9EA3693 else r * 2)

/-- CRC-64 (R335): polynomial 0x42F0_E1EB_A9EA_3693, no reflection, no final XOR, from a running value. -/
def crc64 (r : W64) (bs : List Byte) : W64 :=
  BitVec.ofNat 64 (bs.foldl (fun r b => crcBits 8 (Nat.xor r (b.toNat * 2 ^ 56))) r.toNat)

/-- The partition of a pacer when it is a primary or a shadow. -/
def Device.shadowRole (d : Device) (p : Nat) : Nat :=
  match d.pacerPart p with
  | some k => (d.part k).shadow.role
  | none => 0

/-- A port pacer or DRAM channel pacer of a primary or a shadow takes bytes into C_u (R335). -/
def Device.takeDigest (p : Nat) (bs : List Byte) (d : Device) : Device :=
  if d.shadowRole p = 0 then d else d.updPacer p fun x => { x with digest := crc64 x.digest bs }

/-- The lap digest of plan lap `n` (R335): `n` and, by ascending virtual identity, each contributing pacer's C_u. -/
def Device.lapDigest (k n : Nat) (d : Device) : W64 :=
  match (d.part k).image with
  | none => 0
  | some im =>
    let ps := im.pacers.filter fun x => decide (320 ≤ x.2)
    let ids := (List.range 1024).filterMap fun v => ps.find? fun x => x.1 == v
    crc64 0 (leBytes 8 n ++ (ids.map fun x => leBytes 2 x.1 ++ leBytes 8 (d.pacer x.2).digest.toNat).flatten)

/-- The heat digest HD (R337). -/
def Device.heatDigest (k : Nat) (d : Device) : BitVec 512 :=
  let p := d.part k
  sha3_512 (leBytes 4 p.run.heatNo.toNat ++ (p.shadow.digests.map fun x => leBytes 8 x.toNat).flatten)

/-- At the commit of a primary or a shadow: the photo-finish record of 128 B at PF_BASE (R337). -/
def Device.photoFinish (k : Nat) (d : Device) : Device :=
  let p := d.part k
  let sh := p.shadow
  if sh.role = 0 then d
  else
    let laps := d.clk.lap - p.run.startCyc / 65536
    d.writeBytes k sh.base.toNat
      (leBytes 8 d.split.toNat ++ leBytes 4 p.run.heatNo.toNat ++ leBytes 4 (d.pcid k).toNat ++ leBytes 4 laps ++
       leBytes 4 sh.matches_.toNat ++ leBytes 4 sh.misses.toNat ++ leBytes 4 sh.firstLap.toNat ++ leBytes 32 0 ++
       leBytes 64 (d.heatDigest k).toNat)

end Sys2Proof.Machine
end

