-- ==== Sys2Proof/Machine/Pacer.lean ====
section
/-! DEFINITION. The common operations of pacers, loops, waits, the commit and aborts (R87 to R114, R119, R124, R347). -/

namespace Sys2Proof.Machine

/-! ### Pieces of a pacer -/

/-- Bring a descriptor that has arrived by cycle `c` into the shadow set (R94). -/
def Pacer.settleDesc (c : Nat) (x : Pacer) : Pacer :=
  match x.ldesc with
  | some (due, g) => if due ≤ c then { x with shadowCfg := g, ldesc := none } else x
  | none => x

/-- The next stride is a wait whose comparator is satisfied in plan cycle `c`. -/
def Device.waitTrue (d : Device) (p c : Nat) : Bool :=
  let x := d.pacer p
  match lwDecode (Stride.lw x.nextStride) with
  | .wait cmp _ => d.cmpTrue p x c (x.cmpFor x.dueAt cmp)
  | _ => false

/-- Every pacer of the partition but the commit pacer is DONE (R110). -/
def Device.othersDone (d : Device) (k : Nat) : Bool :=
  match (d.part k).image with
  | some im => (d.pacersOf k).all fun q => q == im.commitPacer || (d.pacer q).state == .done
  | none => false

/-- The pacer is the commit pacer of its partition (R110). -/
def Device.commitOf (d : Device) (p : Nat) : Option Nat :=
  match d.pacerPart p with
  | some k => match (d.part k).image with
    | some im => if im.commitPacer = p then some k else none
    | none => none
  | none => none

/-- The pacer is at a stride that it may work on. -/
def Pacer.atStride (x : Pacer) : Bool := x.state == .running && !x.stuck && x.pendingEnd.isNone

/-- What the pacer stands at in plan cycle `c` is due and has a window: the last cycle of the window, and whether it is satisfied. A
wait (R103); a SWAP, whose window is 0 and whose comparator is BANK_READY (R109); the commit, whose window is 0 (R110). -/
def Device.windowOf (d : Device) (p c : Nat) : Option (Nat × Bool) :=
  let x := d.pacer p
  if x.atStride then
    match lwDecode (Stride.lw x.nextStride), x.swapDue with
    | .wait _ w, none => if x.dueAt ≤ c && x.waitOk.isNone then some (x.dueAt + w, d.waitTrue p c) else none
    | _, some t => if t ≤ c then some (t, d.readyNow x) else none
    | _, none => none
  else match d.commitOf p, x.commitCyc with
    | some k, some tc => if x.state == .draining && decide (tc ≤ c) then some (tc, d.othersDone k) else none
    | _, _ => none

/-- What the state field of a pacer page shows (R86): HOLD while the partition's units are frozen (R246), WAITING while a wait, a SWAP
or the commit is due and not yet satisfied. -/
def Device.shownState (d : Device) (p : Nat) : PState :=
  let x := d.pacer p
  match d.pacerCyc p with
  | none => .hold
  | some c =>
    match d.windowOf p c with
    | some (_, false) => .waiting
    | _ => x.state

/-! ### Common operations (Table 4.5) -/

/-- NOP: a stride that carries a wait or loop field. -/
def execNop (p : Nat) (s : State) : Host.Outcome State Fault Refusal :=
  .next (s.on (Device.onIssue p 0x00 0 anyOpnd fun _ _ d => d))

/-- LDESC (R94): descriptor DREF of the active descriptor bank, its 32 words read through the word code, is in the shadow set from
four cycles on. -/
def Device.opLdesc (p : Nat) (d : Device) : Device :=
  d.onIssue p 0x01 0 anyOpnd fun _ _ d =>
    let c := d.now p
    let x := d.pacer p
    let i := 64 * b2n x.bank + Stride.dref (Map.get 0 x.table (2048 * b2n x.bank + x.strideIdx))
    match d.readPacer p 1 (32 * i) 32 with
    | .error drill => d.pacerUe p drill
    | .ok m => d.updPacer p fun x => { x.settleDesc c with ldesc := some (c + 4, Map.get 0 x.descs i ^^^ BitVec.ofNat 2048 m) }

def execLdesc (p : Nat) (s : State) : Host.Outcome State Fault Refusal := .next (s.on (Device.opLdesc p))

/-- The beat counters of a pacer's unit return to 0 (R94, R153). -/
def Device.resetBeats (p : Nat) (d : Device) : Device :=
  if p < 208 then d.updTile p fun t => { t with rdBeat := [], wrBeat := [] }
  else if 320 ≤ p ∧ p < 344 then d.updChan (p - 320) fun c => { c with beats := [], cursors := [] }
  else d

/-- START: the shadow set becomes active, the beat counters return to 0, and with TR_START set a trace record is made
(R94, R124). -/
def Device.opStart (p : Nat) (d : Device) : Device :=
  let idx := (d.pacer p).next
  d.onIssue p 0x02 0 anyOpnd fun _ _ d =>
    let c := d.now p
    let d := (d.updPacer p fun x => let x := x.settleDesc c; { x with activeCfg := x.shadowCfg }).resetBeats p
    d.when (Cfg.trStart (d.pacer p).activeCfg p) (Device.trace p 2 idx (d.traceSplit p))

def execStart (p : Nat) (s : State) : Host.Outcome State Fault Refusal := .next (s.on (Device.opStart p))

/-- SETCNT: LC_INIT[CTR] := VALUE (R100). -/
def Device.opSetcnt (p : Nat) (d : Device) : Device :=
  d.onIssue p 0x03 0 anyOpnd fun o _ d =>
    d.updPacer p fun x => { x with lcInit := Map.set 0 x.lcInit (bits o 24 3) (BitVec.ofNat 24 o) }

def execSetcnt (p : Nat) (s : State) : Host.Outcome State Fault Refusal := .next (s.on (Device.opSetcnt p))

/-- The comparator a SETCMP operand configures (Table 4.5). -/
def cmpFields (o : Nat) : Cmp :=
  { value := BitVec.ofNat 48 o, src := bits o 48 2, index := bits o 50 6, rel := bits o 56 2, enable := bit o 60 }

/-- SETCMP: comparator CMP is configured for waits due from the next cycle on (R102). -/
def Device.opSetcmp (p : Nat) (d : Device) : Device :=
  d.onIssue p 0x04 0 anyOpnd fun o _ d =>
    let c := d.now p
    d.updPacer p (Pacer.setCmp c (bits o 58 2) (cmpFields o))

def execSetcmp (p : Nat) (s : State) : Host.Outcome State Fault Refusal := .next (s.on (Device.opSetcmp p))

/-- The pair that follows SEQ `q` in a pacer's load sequence (R187). -/
def Device.nextSeq (d : Device) (k p q : Nat) : Option Nat :=
  match (d.part k).image with
  | none => none
  | some im =>
    let ps := Map.get [] im.pairs p
    match ps.find? fun x => x.seq == q with
    | none => none
    | some x =>
      if x.last then (if x.repeatTo = 0xFF then none else some x.repeatTo)
      else if ps.any fun y => y.seq == q + 1 then some (q + 1) else none

/-- Put a refill of pacer `p` caused in cycle `c` into the partition's order (R187). -/
def insertRefill (p c : Nat) : List (Nat × Nat) → List (Nat × Nat)
  | [] => [(p, c)]
  | (q, e) :: t => if e = c ∧ p < q then (p, c) :: (q, e) :: t else (q, e) :: insertRefill p c t

/-- SWAP with BANK_READY set: the other bank pair becomes active, stride ENTRY follows, BANK_READY clears, and the pair
just left waits for its refill (R107, R187). -/
def Device.opSwap (p : Nat) (d : Device) : Device :=
  if !d.readyNow (d.pacer p) then d
  else
    let x0 := d.pacer p
    d.onIssue p 0x05 0 anyOpnd fun o cfg d =>
      let d := d.when (Cfg.trSwap cfg p) (Device.traceWith (Cfg.bib cfg) p 4 x0.next (d.traceSplit p))
      let k := d.pacerPart p
      let q := match k with
        | some k => d.nextSeq k p x0.seqPos
        | none => none
      let d := d.updPacer p fun x =>
        { x.swapTo (bits o 0 11) with seqPos := q.getD x.seqPos }
      match k, q with
      | some k, some q => if (d.nextSeq k p q).isSome then d.updRun k fun r => { r with refills := insertRefill p d.cyc r.refills } else d
      | _, _ => d

def execSwap (p : Nat) (s : State) : Host.Outcome State Fault Refusal := .next (s.on (Device.opSwap p))

/-- TRACE: a trace record of kind 0x1 (R124). -/
def Device.opTrace (p : Nat) (d : Device) : Device :=
  let idx := (d.pacer p).next
  d.onIssue p 0x06 0 anyOpnd fun _ cfg d => d.traceWith (Cfg.bib cfg) p 1 idx (d.traceSplit p)

def execTrace (p : Nat) (s : State) : Host.Outcome State Fault Refusal := .next (s.on (Device.opTrace p))

/-- Nominal time of frame `n` of a partition: T_F0 + n × P (R120). -/
def Device.frameNominal (d : Device) (k n : Nat) : Nat :=
  match (d.part k).image with
  | some im => (d.part k).run.startSplit.toNat + n * im.framePeriod
  | none => 0

/-- Pacers whose units lie in a compute region and belong to a partition. -/
def Device.regionPacers (d : Device) (k g : Nat) : List Nat := (d.pacersOf k).filter fun q => pacerRegion q == g

/-- Units of TIME in `n` unstretched pace cycles (Table 9.1). -/
def Device.cycleUnits (d : Device) (n : Nat) : Nat := 640 * n / mult d.clk.opCur

/-- When M_k of the partition's next frame is to come, in unstretched laps from now: the first lap mark from now on that lies a lap after its
last FRAME stride and at or after the nominal time (R120). The marshal foresees no stretch (DESIGN CHOICE, log entry 52). -/
def Device.frameMark (d : Device) (k : Nat) : Nat :=
  let r := (d.part k).run
  let n := max ((r.lastFrame + 65535) / 65536 + 1) ((d.cyc + 65535) / 65536)
  let first := d.tk.time.toNat + d.cycleUnits (65536 * n - d.cyc)
  let nominal := d.frameNominal k r.frameNo
  let lap := d.cycleUnits 65536
  first + (nominal - first + lap - 1) / lap * lap

/-- Clock-gate a compute region whose pacers all sleep and whose next M_k lies at least 40 µs ahead (R121). -/
def Device.frameGate (k g : Nat) (d : Device) : Device :=
  if g < 24 && (d.regionPacers k g).all (fun q => (d.pacer q).state == .sleep) &&
      decide (d.tk.time.toNat + 640000 ≤ d.frameMark k) then
    d.setPower g .gated
  else d

/-- FRAME: the pacer sleeps until the frame's lap mark (R119); a region whose pacers all sleep may be gated (R121). -/
def Device.opFrame (p : Nat) (d : Device) : Device :=
  d.onIssue p 0x07 0 anyOpnd fun _ _ d =>
    let d := d.updPacer p fun x => { x with state := .sleep, stall := 0 }
    match d.pacerPart p with
    | some k =>
      let d := d.updRun k fun r => { r with lastFrame := d.cyc }
      match (d.part k).image with
      | some _ => d.forAll ((d.pacersOf k).map pacerRegion) fun g d => d.frameGate k g
      | none => d
    | none => d

def execFrame (p : Nat) (s : State) : Host.Outcome State Fault Refusal := .next (s.on (Device.opFrame p))

/-- HALT: the pacer's part of the run ends (Table 4.5). -/
def Device.opHalt (p : Nat) (d : Device) : Device :=
  d.onIssue p 0x09 0 anyOpnd fun _ _ d => d.updPacer p fun x => { x with state := .done, stall := 0 }

def execHalt (p : Nat) (s : State) : Host.Outcome State Fault Refusal := .next (s.on (Device.opHalt p))

/-- END on the commit pacer: DRAINING until t_c = t_e + DRAIN (R110). -/
def Device.opEnd (p : Nat) (d : Device) : Device :=
  if (d.commitOf p).isNone then d
  else d.onIssue p 0x0A 0 anyOpnd fun o _ d =>
    let c := d.now p
    d.updPacer p fun x => { x with state := .draining, commitCyc := some (c + bits o 0 16) }

def execEndRun (p : Nat) (s : State) : Host.Outcome State Fault Refusal := .next (s.on (Device.opEnd p))

/-! ### Loops (R97 to R99) -/

/-- Entry of a loop at its begin stride's cycle (R98): latch the count, or skip the body when it is zero. -/
def Device.opLoopBegin (p : Nat) (d : Device) : Device :=
  match d.pacerCyc p with
  | none => d
  | some c =>
    let x := d.pacer p
    match lwDecode (Stride.lw x.nextStride) with
    | .loopBegin ctr forever e =>
      if x.atStride && !x.entered && x.dueAt == c then d.updPacer p (Pacer.enterLoop c ctr forever e) else d
    | _ => d

def execLoopBegin (p : Nat) (s : State) : Host.Outcome State Fault Refusal := .next (s.on (Device.opLoopBegin p))

/-- After a loop's end stride (R99): decrement, and jump back or fall through. -/
def Device.opLoopEnd (p : Nat) (d : Device) : Device :=
  match d.pacerCyc p with
  | none => d
  | some c => d.updPacer p (Pacer.endLoop c)

def execLoopEnd (p : Nat) (s : State) : Host.Outcome State Fault Refusal := .next (s.on (Device.opLoopEnd p))

/-! ### Waits (R103, R104, R109) -/

/-- A due wait whose comparator is satisfied issues in this cycle, within its window or after a hold (R103, R104). -/
def Device.opWaitResolve (p : Nat) (d : Device) : Device :=
  match d.pacerCyc p with
  | none => d
  | some c =>
    let x := d.pacer p
    match lwDecode (Stride.lw x.nextStride) with
    | .wait _ w =>
      if x.atStride && x.waitOk.isNone && decide (x.dueAt ≤ c) && (decide (c ≤ x.dueAt + w) || x.missed) && d.waitTrue p c then
        d.updPacer p fun x => { x with waitOk := some c, missed := false, lapsed := false }
      else d
    | _ => d

def execWaitResolve (p : Nat) (s : State) : Host.Outcome State Fault Refusal := .next (s.on (Device.opWaitResolve p))

/-- The event of a window that has passed unsatisfied is registered in plan cycle `c` (R104, R109, R110): in the first cycle outside the
window, or again where a held one is still unsatisfied when its partition has resumed. The hold cause (Table 10.3). -/
def Device.windowMissed (d : Device) (p c : Nat) : Option Nat :=
  let x := d.pacer p
  match d.windowOf p c with
  | some (last, ok) =>
    if (x.lapsed && !x.missed && c == last + 1) || (x.missed && decide (last < c) && !ok) then
      some (if x.swapDue.isSome then 2 else 1)
    else none
  | none => none

/-- A wait, SWAP or commit outside its window (R104, R109, R110): a false start, or a hold, which another cause of this cycle may have
begun already. -/
def Device.opWindowExpiry (p : Nat) (d : Device) : Device :=
  let m := d.asMet p
  match m.pacerCyc p with
  | none => d
  | some c =>
    match m.windowMissed p c with
    | none => d
    | some cause => (d.updPacer p fun x => { x with missed := true }).missWindow p cause

def execWaitWindowExpiry (p : Nat) (s : State) : Host.Outcome State Fault Refusal := .next (s.on (Device.opWindowExpiry p))

/-- A window ends with this cycle, unsatisfied: the event is due in the next one (R104). -/
def Device.closeWindow (p : Nat) (d : Device) : Device :=
  match d.pacerCyc p with
  | none => d
  | some c =>
    match d.windowOf p c with
    | some (last, false) => if last = c then d.updPacer p fun x => { x with lapsed := true } else d
    | _ => d

/-! ### Commit and abort (R110 to R114) -/

/-- Write the run's completion record to the next entry of the completion ring and signal it (R114, Table 4.12). -/
def Device.completionRecord (k : Nat) (status cause : Nat) (sp : W64) (at_ : Nat) (bib : W32) (idx : Nat) (d : Device) : Device :=
  match (d.part k).image with
  | none => d
  | some im =>
    let r := (d.part k).run
    let i := r.cplPos % 256
    let bs := leBytes 8 (d.stamp k at_ sp).toNat ++ leBytes 4 bib.toNat ++ leBytes 2 (d.pcid k).toNat ++ leBytes 1 status ++
      leBytes 1 cause ++ leBytes 4 r.runSeq ++ leBytes 4 (at_ / 65536 - r.startCyc / 65536) ++ leBytes 2 r.holds ++
      leBytes 2 0 ++ leBytes 4 idx
    let d := d.writeBytes k (d.physAddr k (im.cplBase + 32 * i)) bs
    let d := d.updRun k fun r => { r with cplPos := (i + 1) % 256 }
    (d.setIntBit (pgPacer im.commitPacer) 1).event (some k) (pgPacer im.commitPacer) 3 ((d.pcid k).toNat + i * 2 ^ 16)

/-- The commit cycle (R110, R111): with every pacer DONE the run is to be COMPLETED, unless an abort is registered in this cycle
too. -/
def Device.opCommit (k : Nat) (d : Device) : Device :=
  match (d.part k).image with
  | none => d
  | some im =>
    let p := im.commitPacer
    let x := d.pacer p
    match x.commitCyc, d.pacerCyc p with
    | some tc, some c =>
      if d.running k && x.state == .draining && (c == tc || (x.missed && decide (tc < c))) && d.othersDone k then
        let d := d.updRun k fun r => { r with commit := some (d.cyc, d.splitIn (pacerRegion p), d.bib p) }
        d.updPacer p fun x => { x with state := .done, commitCyc := none, missed := false, lapsed := false, stall := 0 }
      else d
    | _, _ => d

/-- A cycle that has committed a run ends without an abort (R111): the run is COMPLETED, its record and heat digest are written and
a serving run ends. -/
def Device.finishCommit (k : Nat) (d : Device) : Device :=
  match (d.part k).run.commit with
  | none => d
  | some (at_, sp, bib) =>
    let d := d.updRun k fun r => { r with phase := .completed, resumed := none, nextFrame := none, commit := none }
    ((d.completionRecord k 1 0 sp at_ bib 0).photoFinish k).servingEnd k

def execCommit (k : Nat) (s : State) : Host.Outcome State Fault Refusal := .next (s.on (Device.opCommit k))

/-- A write of ABORT (R432): a host abort with cause 0x03 on the commit pacer, refused with NOT_COMMIT elsewhere. -/
def Device.opAbort (p : Nat) (d : Device) : Device :=
  match d.commitOf p with
  | none => d.countErr (pgPacer p) 0x0102
  | some k =>
    let code := d.abortCode k
    let d := d.registerAbort k 3 0
    (d.updPacer p fun x => { x with abortResult := code, abortValid := true }).setIntBit (pgPacer p) 2

def execAbort (p : Nat) (s : State) : Host.Outcome State Fault Refusal :=
  .next (s.on (Device.when (isPacer p) (Device.opAbort p)))

/-- The pairs of HEAT_FAN (R326, Table 19.9): device and partition. -/
def Device.heatFanList (d : Device) (k : Nat) : List (W16 × Nat) :=
  (d.part k).heatFan.filterMap fun e =>
    let w := e.2.toNat
    if w.testBit 19 then some (BitVec.ofNat 16 w, bits w 16 3) else none

/-- Send HEAT_ABORT to every HEAT_FAN pair (R326). The epoch of a fan-out partition is not stated (DESIGN CHOICE, log entry 5). -/
def Device.heatFanout (k : Nat) (heatNo : W32) (pcid : W16) (cause : Byte) (d : Device) : Device :=
  (d.heatFanList k).foldl (fun d x =>
    let (ep, d) := d.draw
    d.sendCell k x.1 x.2 (BitVec.ofNat 16 ep) (.heatAbort heatNo pcid cause)) d

/-- A partition reset whose capture is still to be written: the serving state stands until then (R348). -/
def Run.captures (r : Run) : Bool :=
  match r.reset with
  | some job => job.capture
  | none => false

/-- The ABORTED record (R112, R114), the end of a serving run (R210), which a capture to come delays, and the HEAT_ABORT cells of a heat member (R326);
an abort that a HEAT_ABORT cell caused has been relayed already. -/
def Device.opAbortedRecord (k : Nat) (d : Device) : Device :=
  let r := (d.part k).run
  match r.phase, r.abort with
  | .aborted, some a =>
    if a.written then d
    else
      let d := d.completionRecord k 2 a.cause a.split a.cyc a.bib (if a.cause = 1 then a.faultIdx else 0)
      let d := d.updRun k fun r => { r with abort := some { a with written := true } }
      let d := d.when (!r.captures) (Device.servingEnd k)
      d.when (r.heat && a.cause != 4) (Device.heatFanout k r.heatNo (d.pcid k) (BitVec.ofNat 8 a.cause))
  | _, _ => d

def execAbortedRecordWrite (k : Nat) (s : State) : Host.Outcome State Fault Refusal :=
  .next (s.on (Device.opAbortedRecord k))

/-! ### Stall timer and trace ring (R347, R124) -/

/-- Code of a pacer state on its page (Table 19.1). -/
def PState.code : PState → Nat
  | .idle => 0 | .loaded => 1 | .running => 2 | .waiting => 3 | .hold => 4 | .sleep => 5 | .draining => 6 | .done => 7
  | .aborted => 8 | .fault => 9

/-- The stall timer runs in these states (R347). -/
def PState.stalls : PState → Bool
  | .running | .waiting | .hold | .draining => true
  | _ => false

/-- The pacer's timer has reached STALL_LAPS of its partition. -/
def Device.stalled (d : Device) (k p : Nat) : Bool :=
  let x := d.pacer p
  x.state.stalls && decide ((d.part k).stallLaps ≤ x.stall)

/-- STALL of the lowest pacer whose timer has expired, or of the unit of a hold's first cause (R347). -/
def Device.opStall (p : Nat) (d : Device) : Device :=
  match d.pacerPart p with
  | none => d
  | some k =>
    if d.stalled k p && (d.pacersOf k).all (fun q => decide (p ≤ q) || !d.stalled k q) then
      let x := d.pacer p
      let spec := leBytes 4 x.stall ++ leBytes 1 (d.shownState p).code
      match (d.part k).run.hold with
      | some h => d.raise { code := 0x0102, unit := h.unit, pcid := d.pcid k, action := 2, bib := d.bib h.unit,
                            cause := h.cause, drill := x.stuck, specific := spec }
      | none => d.raise { code := 0x0102, unit := p, pcid := d.pcid k, action := 2, bib := d.bib p, drill := x.stuck,
                          specific := spec }
    else d

def execStallTimerExpiry (p : Nat) (s : State) : Host.Outcome State Fault Refusal := .next (s.on (Device.opStall p))

/-- The bytes of a trace record (R124). -/
def TraceRec.bytes (r : TraceRec) : List Byte :=
  leBytes 8 r.split.toNat ++ leBytes 4 r.bib.toNat ++
    leBytes 2 (r.pacer % 1024 + r.kind % 16 * 2 ^ 10 + b2n r.bank * 2 ^ 14) ++ leBytes 2 (r.stride % 2048)

/-- The marshal takes the oldest record of a pacer's queue into the partition's trace ring (R124). -/
def Device.opTraceRing (p : Nat) (d : Device) : Device :=
  match (d.pacer p).traceQ, d.pacerPart p with
  | r :: rest, some k =>
    match (d.part k).image with
    | some im =>
      let i := (d.part k).run.tracePos % 4096
      let d := d.updPacer p fun x => { x with traceQ := rest }
      (d.writeBytes k (d.physAddr k (im.traceBase + 16 * i)) r.bytes).updRun k fun r => { r with tracePos := (i + 1) % 4096 }
    | none => d
  | _, _ => d

def execTraceRingWrite (p : Nat) (s : State) : Host.Outcome State Fault Refusal := .next (s.on (Device.opTraceRing p))

end Sys2Proof.Machine
end

