-- ==== Sys2Proof/Machine/Net.lean ====
section
/-! DEFINITION. The on-die network (R115 to R118): the path of a flit and its cost, injection, delivery to an ingress port,
and the relays (R223 to R226), taking a delivered flit. -/

namespace Sys2Proof.Machine

/-- Cost in cycles of the link between two neighbouring nodes (R116). -/
def linkCost (x y x' y' : Nat) : Nat :=
  if (y < 9 && y' < 9 && ((x = 11 && x' = 12) || (x = 12 && x' = 11))) || (y = 8 && y' = 9) || (y = 9 && y' = 8) then 8
  else if nodeRegion x y = nodeRegion x' y' then 2 else 6

/-- Cost of walking along X from `x` to `x'` on row `y`, `fuel` links at most. -/
def costX (y : Nat) : Nat → Nat → Nat → Nat
  | 0, _, _ => 0
  | fuel + 1, x, x' =>
    if x < x' then linkCost x y (x + 1) y + costX y fuel (x + 1) x'
    else if x' < x then linkCost x y (x - 1) y + costX y fuel (x - 1) x'
    else 0

/-- Cost of walking along Y in column `x`. -/
def costY (x : Nat) : Nat → Nat → Nat → Nat
  | 0, _, _ => 0
  | fuel + 1, y, y' =>
    if y < y' then linkCost x y x (y + 1) + costY x fuel (y + 1) y'
    else if y' < y then linkCost x y x (y - 1) + costY x fuel (y - 1) y'
    else 0

/-- Physical latency L_p of a route from a node (R117): X first, or Y first. -/
def routeLatency (from_ : Nat × Nat) (r : Route) : Nat :=
  if r.yx then costY from_.1 12 from_.2 r.y + costX r.y 24 from_.1 r.x
  else costX from_.2 24 from_.1 r.x + costY r.x 12 from_.2 r.y

/-- Positions from `a` to `b`, both named. -/
def walkLine (a b : Nat) : List Nat :=
  if a ≤ b then (List.range (b - a + 1)).map (a + ·) else (List.range (a - b + 1)).map (a - ·)

/-- The nodes of a route in order (R117): X first, or Y first. -/
def routeNodes (from_ to_ : Nat × Nat) (yx : Bool) : List (Nat × Nat) :=
  if yx then (walkLine from_.2 to_.2).map (fun y => (from_.1, y)) ++ ((walkLine from_.1 to_.1).drop 1).map fun x => (x, to_.2)
  else (walkLine from_.1 to_.1).map (fun x => (x, from_.2)) ++ ((walkLine from_.2 to_.2).drop 1).map fun y => (to_.1, y)

/-- A link of a route: sending node, receiving node, cost, and the cycles before it (R118). -/
structure Hop where
  a : Nat × Nat
  b : Nat × Nat
  cost : Nat
  at_ : Nat
  deriving DecidableEq, Repr

/-- The links of a route with the sums of the costs before them. -/
def hops (nodes : List (Nat × Nat)) : List Hop :=
  ((nodes.zip (nodes.drop 1)).foldl (fun (acc : List Hop × Nat) n =>
    let c := linkCost n.1.1 n.1.2 n.2.1 n.2.2
    ({ a := n.1, b := n.2, cost := c, at_ := acc.2 } :: acc.1, acc.2 + c)) ([], 0)).1.reverse

/-- Relay identity of a link (R226): the sending node and the direction. -/
def Hop.relay (h : Hop) : Nat :=
  1024 + 4 * (24 * h.a.2 + h.a.1) + (if h.a.1 < h.b.1 then 0 else if h.b.1 < h.a.1 then 1 else if h.a.2 < h.b.2 then 2 else 3)

/-- The link ends in a relay (R223). -/
def Hop.crosses (h : Hop) : Bool := h.cost != 2

/-- K of a crossing (Table 9.3). -/
def Hop.k (h : Hop) : Nat := h.cost - 2

/-! ### Relays (R223 to R226) -/

/-- K of a relay (Table 9.3): die crossings are the links between X 11 and X 12 on rows 0 to 8, and between Y 8 and Y 9. -/
def relayK (r : Nat) : Nat :=
  let i := r - 1024
  let x := i / 4 % 24
  let y := i / 4 / 24
  let die : Bool := match i % 4 with
    | 0 => x == 11 && decide (y < 9)
    | 1 => x == 12 && decide (y < 9)
    | 2 => y == 8
    | _ => y == 9
  match die with
  | true => 6
  | false => 4

/-- Phase steps from the common origin of the delays at which a region begins cycle `c`, `now` being the present cycle: its delay without
what later cycles have added, or with the stretches that are asked of the cycles before `c` (R213, R228). -/
def Region.startOf (now c : Nat) (r : Region) : Nat :=
  4 * c + (r.delay - ((r.late.filter fun x => decide (c ≤ x.1)).map (·.2)).sum) + (r.asked.filter fun x => decide (now ≤ x) && decide (x < c)).length

/-- The last cycle that the sender of a relay has begun when the receiver begins cycle `m`; where it has fallen further behind than the
delays of single cycles are kept, from the delays as they stand (R224). -/
def Device.senderAt (d : Device) (r m : Nat) : Nat :=
  match relayRegions r with
  | none => m
  | some (a, b) =>
    let t := (d.region b).startOf d.cyc m
    (((List.range 49).map (m + 24 - ·)).find? fun w => decide ((d.region a).startOf d.cyc w ≤ t)).getD
      ((m : Int) - (((d.region a).delay : Int) - (d.region b).delay + 3) / 4).toNat

/-- The skew of a relay as the receiver begins the present cycle (R224): the cycles it has begun less those the sender has, the last of
them by the fraction of its period that has passed. -/
def Device.skew (d : Device) (r : Nat) : Rat :=
  match relayRegions r with
  | none => 0
  | some (a, b) =>
    let w := d.senderAt r d.cyc
    let s := (d.region a).startOf d.cyc w
    let n := (d.region a).startOf d.cyc (w + 1) - s
    (d.cyc : Rat) - w - (min ((d.region b).startOf d.cyc d.cyc - s) (n - 1) : Nat) / (n : Rat)

def Device.relay (d : Device) (r : Nat) : Relay := Map.get {} d.clk.relays r
def Device.updRelay (r : Nat) (f : Relay → Relay) (d : Device) : Device :=
  d.updClk fun c => { c with relays := Map.upd {} c.relays r f }

/-- Slot `s` of a relay as it stands now (R223, R231): TAG, and the flit where VALID. -/
def Device.relaySlot (d : Device) (r s : Nat) : Nat × Option (BitVec 1024) :=
  let now := d.senderAt r d.cyc + 64
  let w := now - (now + 16 - s % 16) % 16
  (w % 32, ((d.relay r).entries.find? fun e => e.1 + 64 == w).map (·.2))

/-- Write a flit into a relay in sender cycle `w`; what the slots no longer hold is dropped. -/
def Device.relayWrite (r w : Nat) (data : BitVec 1024) (d : Device) : Device :=
  let now := d.senderAt r d.cyc
  d.updRelay r fun x => { x with entries := x.entries.filter (fun e => decide (now < e.1 + 16)) ++ [(w, data)] }

/-- How much later than at its read a flit written into a SLIPPED relay in a sender cycle to come goes on: it is passed on in the
cycle it is written, which is the skew later by the receiver's count (R224, R247). -/
def Device.slipShift (d : Device) (r : Nat) : Int := (d.cyc : Int) - d.senderAt r d.cyc - relayK r

/-- A flit's arrival, moved by a number of cycles but never into the past. -/
def Flit.shift (now : Nat) (n : Int) (f : Flit) : Flit := { f with arrive := max (now + 1) (f.arrive + n).toNat }

/-- Key of an ingress port: node and sink. -/
def sinkKey (x y sink : Nat) : Nat := 2 * (24 * y + x) + sink

/-- Ingress key of a pacer's unit (R117): a BME takes from sink 0 of its node, a DRAM channel from sink 1. -/
def ingressKey (p : Nat) : Nat := sinkKey (pacerNode p).1 (pacerNode p).2 (if 320 ≤ p ∧ p < 344 then 1 else 0)

/-- The pacer that takes flits at an ingress key. -/
def keyPacer (key : Nat) : Option Nat :=
  let node := key / 2
  match nodeUnit (node % 24) (node / 24) with
  | some u => if node / 24 = 9 ∧ key % 2 = 1 then some (u + 64) else some u
  | none => none

/-- Inject a flit at the unit of pacer `p` that leaves its egress port `lead` cycles from now, in plan cycle `t0` (R117).
On a late route the flit travels longer than its planned delivery (R183). Every crossing is written into its relay in the second cycle
after it takes the link (R118, R223). Without a VALID route nothing leaves (NPC-5). -/
def Device.injectAt (p t0 lead : Nat) (bib : W32) (routeWord : Nat) (data : BitVec 1024) (d : Device) : Device :=
  let r := routeFields routeWord
  if !r.valid || (nodeUnit r.x r.y).isNone then d
  else
    let links := hops (routeNodes (pacerNode p) (r.x, r.y) r.yx)
    let lp := routeLatency (pacerNode p) r
    let cross := (links.filter Hop.crosses).map fun h => (h.relay, d.cyc + lead + h.at_ + 2)
    let f : Flit := { node := sinkKey r.x r.y r.sink, arrive := d.cyc + lead + lp,
                      due := t0 + (if lp ≤ r.lat then lp + r.pad else r.lat),
                      part := (d.pacerPart p).getD 8, data := data, src := p, sent := d.cyc, egress := d.cyc + lead, bib := bib,
                      cross := cross }
    let f := (cross.filter fun x => (d.relay x.1).slipped).foldl (fun f x => f.shift d.cyc (d.slipShift x.1)) f
    let d := cross.foldl (fun d x => d.relayWrite x.1 x.2 data) d
    { d with net := { d.net with flits := d.net.flits ++ [f] } }

/-- Inject a flit `lead` cycles after the issue of now, of an operation of configuration `cfg`, over its route `m`. -/
def Device.inject (p lead : Nat) (cfg : Cfg) (m : Nat) (data : BitVec 1024) (d : Device) : Device :=
  d.injectAt p (d.now p + lead) lead (Cfg.bib cfg) (cfg.route p m) data

/-- A cycle passes in which the sender of a flit is frozen: a flit that has not left its egress port stays where it is, and so do its
entries in the relays it is still to cross (R246). -/
def Device.stayFlit (f : Flit) (d : Device) : Device :=
  let g := { f with egress := f.egress + 1, arrive := f.arrive + 1, cross := f.cross.map fun x => (x.1, x.2 + 1) }
  let d := f.cross.foldl (fun (d : Device) x => d.updRelay x.1 fun r =>
    { r with entries := r.entries.map fun e => if e.1 == x.2 && e.2 == f.data then (e.1 + 1, e.2) else e }) d
  { d with net := { d.net with flits := d.net.flits.map fun y => if y == f then g else y } }

/-- The flits that a frozen sender keeps in a cycle stay (R246, R247). -/
def Device.stayFlits (d : Device) : Device :=
  (d.net.flits.filter fun f => decide (d.cyc < f.egress) && (d.pacerCyc f.src).isNone).foldl (fun d f => d.stayFlit f) d

/-- Two lines as the flit they make: bytes 0 to 63 from the first. -/
def flitOf (a b : Line) : BitVec 1024 := BitVec.ofNat 1024 (a.toNat + b.toNat * 2 ^ 512)
/-- Bytes 0 to 63 of a flit. -/
def flitLo (f : BitVec 1024) : Line := BitVec.ofNat 512 f.toNat
/-- Bytes 64 to 127 of a flit. -/
def flitHi (f : BitVec 1024) : Line := BitVec.ofNat 512 (f.toNat / 2 ^ 512)

/-- Data bits still wrong once the words of a flit have been decoded: none where a word is uncorrectable (R161, R162). -/
def flawDecode : List (BitVec 72) → Option Nat
  | [] => some 0
  | m :: ms =>
    match wordDecode m.toNat, flawDecode ms with
    | some r, some n => some (r / 256 + 2 ^ 64 * n)
    | _, _ => none

/-- NET_UE (Table 14.2): a word of a flit is uncorrectable at the node that takes it off the network. The flit is not delivered,
and the sender's partition is reset. -/
def Device.netUe (node : Nat) (f : Flit) (d : Device) : Device :=
  d.raise { code := 0x0205, unit := (keyPacer node).getD 0, pcid := if f.part < 8 then d.pcid f.part else 0, action := 2,
            bib := f.bib, specific := leBytes 1 (node / 2 % 24) ++ leBytes 1 (node / 48) }

/-- Delivery of the earliest due flit in a node's delay line to its ingress port (R117, R247). -/
def Device.opFlitDelivery (node : Nat) (d : Device) : Device :=
  let cyc := match keyPacer node with
    | some p => d.pacerCyc p
    | none => none
  match cyc with
  | none => d
  | some c =>
    match d.net.flits.find? fun f => f.node == node && decide (f.arrive ≤ d.cyc) && decide (f.due ≤ c) with
    | none => d
    | some f =>
      let d := { d with net := { d.net with flits := d.net.flits.erase f } }
      match flawDecode f.flaws with
      | some r => { d with net := { d.net with ingress := Map.upd [] d.net.ingress node fun q => q ++ [f.data ^^^ BitVec.ofNat 1024 r] } }
      | none => d.netUe node f

/-- The flit that stands at a unit's ingress port. -/
def Device.ingressHead (p : Nat) (d : Device) : Option (BitVec 1024) := (Map.get [] d.net.ingress (ingressKey p)).head?

/-- Take the flit at a unit's ingress port. -/
def Device.takeIngress (p : Nat) (d : Device) : Device :=
  { d with net := { d.net with ingress := Map.upd [] d.net.ingress (ingressKey p) List.tail } }

def execFlitDelivery (node : Nat) (s : State) : Host.Outcome State Fault Refusal := .next (s.on (Device.opFlitDelivery node))

/-- Issue `n` of an operation that consumes an input of the cycle: `f` where the input is `there`, otherwise the planned event is missed
with a cause of Table 10.3 and that cycle consumes nothing (R245). A frozen issue comes again at its plan cycle; a repeat that a
stopped run misses has passed, and the repeats after it still come (R112). In a region that froze in this cycle, or of a pacer that
an abort of this cycle stopped, a missing input still is an event of the cycle. -/
def Device.onInput (p op n cause : Nat) (ok : Nat → Bool) (there : Nat → Cfg → Bool) (f : Nat → Cfg → Device → Device) (d : Device) : Device :=
  match d.fetch p op n ok with
  | some (o, cfg, d') =>
    if there o cfg then f o cfg d'
    else if n ≠ 0 ∧ (d.lockstep ∨ !((d.pacerPart p).any d.running)) then d'.missFor p cause (Cfg.bib cfg)
    else d.missFor p cause (Cfg.bib cfg)
  | none =>
    match (d.asMet p).fetch p op n ok with
    | some (o, cfg, _) => if there o cfg then d else d.missFor p cause (Cfg.bib cfg)
    | none => d.noIssue p n

/-- Issue an operation that takes a flit from the network: without one at the start of its cycle nothing is consumed and
the planned delivery is missed (NPC-4, R245 cause 4). -/
def Device.onIngress (p op n : Nat) (ok : Nat → Bool) (f : Nat → Cfg → BitVec 1024 → Device → Device) (d : Device) : Device :=
  d.onInput p op n 4 ok (fun _ _ => (d.ingressHead p).isSome)
    fun o cfg d' => f o cfg ((d.ingressHead p).getD 0) (d'.takeIngress p)

end Sys2Proof.Machine
end

