-- ==== Sys2Proof/Machine/Bme.lean ====
section
/-! DEFINITION. Beside-memory attention engines (R125 to R144): stores, query loads, scans, page slots, the arithmetic of a
page, and emitted partials. -/

namespace Sys2Proof.Machine

/-! ### Stores under the word code (R126) -/

/-- BME_UE of a word of a store (Table 5.1 order). -/
def Device.bmeUe (c store w : Nat) (drill : Bool) (bib : W32) (d : Device) : Device :=
  d.raise { code := 0x0202, unit := 256 + c, pcid := (d.bme c).owner, action := 3, bib := bib, drill := drill, addr := w,
            specific := leBytes 1 store }

/-- A page entry's 8 bytes as a number (Table 5.2). -/
def PageEntry.word (e : PageEntry) : Nat := e.frame % 2 ^ 32 + e.valid % 2 ^ 9 * 2 ^ 32 + e.pos % 2 ^ 23 * 2 ^ 41

/-- Invert data bits of a stored word, the stores numbered in the order of Table 5.1: query sets, triple sets, score buffer, input line
buffer, entry buffer, slot table. -/
def Bme.flip (store w : Nat) (m : W64) (b : Bme) : Bme :=
  let lo := BitVec.ofNat 32 m.toNat
  let hi := BitVec.ofNat 32 (m.toNat / 2 ^ 32)
  match store with
  | 0 => { b with queries := Map.upd 0 b.queries w (· ^^^ m) }
  | 1 => { b with triples := Map.upd 0 (Map.upd 0 b.triples (2 * w) (· ^^^ lo)) (2 * w + 1) (· ^^^ hi) }
  | 2 => { b with scores := Map.upd 0 (Map.upd 0 b.scores (2 * w) (· ^^^ lo)) (2 * w + 1) (· ^^^ hi) }
  | 3 => { b with lines := b.lines.map fun l =>
      if l.slot = w / 8 then { l with data := l.data ^^^ BitVec.ofNat 512 (m.toNat * 2 ^ (64 * (w % 8))) } else l }
  | 4 => { b with scan := b.scan.map fun sc => { sc with entries := ((List.range sc.entries.length).zip sc.entries).map fun x =>
      if x.1 = w then
        let v := Nat.xor x.2.word m.toNat
        { x.2 with frame := bits v 0 32, valid := bits v 32 9, pos := bits v 41 23 }
      else x.2 } }
  | _ => { b with slots := Map.upd {} b.slots (w / 2) fun e =>
      if w % 2 = 0 then { e with listAddr := e.listAddr ^^^ BitVec.ofNat 48 m.toNat }
      else { e with pages := Nat.xor e.pages (bits m.toNat 0 16), qpos := e.qpos ^^^ BitVec.ofNat 31 (m.toNat / 2 ^ 32),
                    empty := xor e.empty (m.toNat.testBit 63) } }

/-- A stored word, by store and number as in `Bme.flip`. -/
def Bme.word (store w : Nat) (b : Bme) : W64 :=
  let two (m : Map W32) : Nat := (Map.get 0 m (2 * w)).toNat + 2 ^ 32 * (Map.get 0 m (2 * w + 1)).toNat
  match store with
  | 0 => Map.get 0 b.queries w
  | 1 => BitVec.ofNat 64 (two b.triples)
  | 2 => BitVec.ofNat 64 (two b.scores)
  | 3 => BitVec.ofNat 64 ((((b.lines.find? fun (l : BufLine) => l.slot == w / 8).map fun (l : BufLine) => l.data).getD 0).toNat / 2 ^ (64 * (w % 8)))
  | 4 => BitVec.ofNat 64 (((b.scan.bind fun sc => sc.entries[w]?).map PageEntry.word).getD 0)
  | _ =>
    let e := Map.get {} b.slots (w / 2)
    if w % 2 = 0 then BitVec.ofNat 64 e.listAddr.toNat
    else BitVec.ofNat 64 (e.pages % 2 ^ 16 + 2 ^ 32 * e.qpos.toNat + 2 ^ 63 * b2n e.empty)

/-- The engine's stores as a read of words of one of them shows them: an uncorrectable word is not delivered, and a zero stands in its
place (R63; DESIGN CHOICE, log entry 47). -/
def Device.bmeSees (d : Device) (c store : Nat) (ws : List Nat) : Bme :=
  ws.foldl (fun b w =>
    match d.readSite (.bme c store w) with
    | .bad _ _ => b.flip store w (b.word store w)
    | _ => b) (d.bme c)

/-- Read words of a store through the word code: a miscorrected word is delivered as it decodes, an uncorrectable one
faults the owner. -/
def Device.bmeCheck (c store : Nat) (ws : List Nat) (bib : W32) (d : Device) : Device :=
  ws.foldl (fun d w =>
    match d.readSite (.bme c store w) with
    | .clean => d
    | .corrected m | .undetected m =>
      if m = 0 then d
      else (d.updBme c (Bme.flip store w m)).updFlt fun f => { f with upsets := f.upsets.filter fun u => u.site != .bme c store w }
    | .bad _ drill => (d.noteRead (.bme c store w)).bmeUe c store w drill bib) d

/-! ### Query loads (R132) -/

/-- Words of a query in its set: 256 B are set aside for each query. -/
def queryWord (qs q : Nat) : Nat := 2048 * qs + 32 * (q % 64)

/-- Bytes of a query. -/
def Cfg.qbytes (c : Cfg) : Nat := c.headD * fmtWidth c.qfmt / 8
/-- Bytes of a key and of a value of one token (R127). -/
def Cfg.kbytes (c : Cfg) : Nat := c.headD * fmtWidth c.kfmt / 8
def Cfg.vbytes (c : Cfg) : Nat := c.headD * fmtWidth c.vfmt / 8

/-- Write 64-bit words of a query set. -/
def Device.writeQuery (c w : Nat) (ws : List W64) (d : Device) : Device :=
  ((List.range ws.length).zip ws).foldl (fun d x =>
    (d.updBme c fun b => { b with queries := Map.set 0 b.queries (w + x.1) x.2 }).clearUpset (.bme c 0 (w + x.1))) d

/-- QLOAD issue `k`: one flit into the query set (R132). -/
def Device.opQload (p k : Nat) (d : Device) : Device :=
  if !(256 ≤ p && p < 280) then d
  else d.onIngress p 0x20 k anyOpnd fun o cfg x d =>
    let f := qloadFields o
    let c := p - 256
    let lo := Line.words (flitLo x)
    let hi := Line.words (flitHi x)
    let qb := Cfg.qbytes cfg
    if qb = 64 then (d.writeQuery c (queryWord f.qs (f.qfirst + 2 * k)) lo).writeQuery c (queryWord f.qs (f.qfirst + 2 * k + 1)) hi
    else if qb = 128 then d.writeQuery c (queryWord f.qs (f.qfirst + k)) (lo ++ hi)
    else d.writeQuery c (queryWord f.qs (f.qfirst + k / 2) + 16 * (k % 2)) (lo ++ hi)

def execQload (p n : Nat) (s : State) : Host.Outcome State Fault Refusal := .next (s.on (Device.opQload p n))

/-! ### Scans (R133, R137, R152) -/

/-- Fields of a page entry (Table 5.2). -/
def pageEntryOf (e : Nat) : PageEntry := { frame := bits e 0 32, valid := bits e 32 9, pos := bits e 41 23 }

/-- Bytes of a page (R127). -/
def Cfg.pageBytes (c : Cfg) : Nat := c.nlayer * c.nkv * c.blockLines * 64
/-- Offset of the block of (layer, head) from the page base (R127). -/
def Cfg.blockOffset (c : Cfg) (l h : Nat) : Nat := (l * c.nkv + h) * c.blockLines * 64

/-- A bad page entry (R137). -/
def badEntry (area : Nat) (sc : Scan) (e : PageEntry) : Bool :=
  let cfg := sc.cfg
  256 < e.valid || 0x800000 ≤ e.frame || decide (area < e.frame * 0x10000 + Cfg.pageBytes cfg) ||
  decide (Cfg.pageBytes cfg < Cfg.blockOffset cfg sc.layer sc.kvh + 256 * (Cfg.kbytes cfg + Cfg.vbytes cfg))

/-- Page entries an OPEN fetches. -/
def Scan.nEntries (sc : Scan) : Nat := min sc.npe sc.entry.pages

/-- Key lines and value lines of a page slot, by channel offset ÷ 64 (R127, R135). -/
def Scan.keyLines (sc : Scan) (e : PageEntry) : List Nat :=
  let base := e.frame * 1024 + Cfg.blockOffset sc.cfg sc.layer sc.kvh / 64
  (List.range (e.valid * Cfg.kbytes sc.cfg / 64)).map (base + ·)
def Scan.valueLines (sc : Scan) (e : PageEntry) : List Nat :=
  let base := e.frame * 1024 + Cfg.blockOffset sc.cfg sc.layer sc.kvh / 64 + 4 * Cfg.kbytes sc.cfg
  (List.range (e.valid * Cfg.vbytes sc.cfg / 64)).map (base + ·)

/-- An entry whose page slot reads lines. -/
def Scan.live (sc : Scan) (e : PageEntry) : Bool := !e.bad && e.valid != 0 && !sc.entry.empty

/-- Count bad entries (R137). -/
def Device.countBad (c n : Nat) (d : Device) : Device :=
  (List.range n).foldl (fun d _ =>
    ((d.updBme c fun b => { b with badPage := satInc b.badPage }).countErr (pgBme c) 0x0110).setIntBit (pgBme c) 1) d

/-- Change the open scan. -/
def Device.updScan (c : Nat) (f : Scan → Scan) (d : Device) : Device := d.updBme c fun b => { b with scan := b.scan.map f }

/-- Stands in a scan's line order for a line it does not read: its read slot passes unused (R135, R141). -/
def noLine : Nat := 2 ^ 40

/-- The lines of page slot `i` in the order of its read slots: KL for keys and VL for values, whatever VALID is (R141). -/
def Scan.slotLines (sc : Scan) (i : Nat) : List Nat :=
  let e := sc.entries.getD i { bad := true }
  let ks := if sc.live e then sc.keyLines e else []
  let vs := if sc.live e then sc.valueLines e else []
  let kl := 4 * Cfg.kbytes sc.cfg
  let vl := 4 * Cfg.vbytes sc.cfg
  ks ++ List.replicate (kl - ks.length) noLine ++ vs ++ List.replicate (vl - vs.length) noLine

/-- The line a BME read slot names: the next entry, key or value line of the open scan, in the order of the planned page
slots (R152); the slot of an absent line passes unused (R141). -/
def Device.nextScanLine (c : Nat) (d : Device) : Option Nat × Device :=
  match (d.bme c).scan with
  | none => (none, d)
  | some sc =>
    let take (ls : List Nat) (sc : Scan) : Option Nat × Device :=
      match ls with
      | l :: rest => (if l = noLine then none else some l, d.updScan c fun _ => { sc with wanted := rest })
      | [] => (none, d)
    if !sc.wanted.isEmpty then take sc.wanted sc
    else if !sc.fetched || decide (sc.npe ≤ sc.fetchPos) then (none, d)
    else take (sc.slotLines sc.fetchPos) { sc with fetchPos := sc.fetchPos + 1 }

/-- Lines of the input line buffer (Table 5.1). -/
def bufLines : Nat := 512

/-- A line that has stood in the input buffer since an earlier cycle than `now` (R154). -/
def Bme.line (b : Bme) (now l : Nat) : Option BufLine :=
  b.lines.find? fun x => x.line == l && decide (x.at_ < now) && decide (x.slot < bufLines)

/-- A line leaves its place, which the line that has waited longest in the return queue takes (R247). -/
def Bme.leave (s : Nat) (b : Bme) : Bme :=
  let rest := b.lines.filter (·.slot != s)
  match rest.find? fun x => decide (bufLines ≤ x.slot) with
  | some w => { b with lines := rest.map fun x => if x.slot = w.slot then { x with slot := s } else x }
  | none => { b with lines := rest }

/-- Take a line that entered before cycle `now` out of the input buffer through the word code (R126); one that is not there is a free
value (DESIGN CHOICE, log entry 5). -/
def Device.takeLine (c now : Nat) (bib : W32) (l : Nat) (d : Device) : Line × Device :=
  match (d.bme c).line now l with
  | none => (BitVec.ofNat 512 d.draw.1, d.draw.2)
  | some x =>
    let ws := (List.range 8).map (8 * x.slot + ·)
    let d := d.bmeCheck c 3 ws bib
    let v := (((d.bmeSees c 3 ws).lines.find? fun y => y.slot == x.slot).map (·.data)).getD 0
    (v, (d.updBme c (Bme.leave x.slot)).forAll ws fun w => Device.clearUpset (.bme c 3 w))

/-- Take lines that have entered by now out of the input buffer, in order. -/
def Device.takeLines (c : Nat) (bib : W32) : List Nat → Device → List Line × Device
  | [], d => ([], d)
  | l :: ls, d =>
    let (v, d) := d.takeLine c (d.cyc + 1) bib l
    let (r, d) := Device.takeLines c bib ls d
    (v :: r, d)

/-- When every line of the entry fetch is present, decode and check the entries into the entry buffer (R133, R137). -/
def Device.decodeEntries (c : Nat) (d : Device) : Device :=
  match (d.bme c).scan with
  | none => d
  | some sc =>
    if sc.fetched || !(sc.entryLines.all fun l => ((d.bme c).line (d.cyc + 1) l).isSome) then d
    else
      let (ls, d) := d.takeLines c (Cfg.bib sc.cfg) sc.entryLines
      let bytes := (ls.map Line.bytes).flatten.drop (sc.entry.listAddr.toNat % 64)
      let area := (d.chan c).area
      let es := (chunks 8 sc.nEntries bytes).map fun bs =>
        let e := pageEntryOf (leNat bs)
        { e with bad := badEntry area sc e }
      let d := d.updBme c fun b => { b with scan := some { sc with fetched := true, entries := es } }
      let d := d.forAll (List.range es.length) fun i => Device.clearUpset (.bme c 4 i)
      d.countBad c (es.filter (·.bad)).length

/-- A planned line enters the BME's input buffer in this cycle, or waits in the return queue (R154, R247). -/
def Device.bmeArrive (c l : Nat) (data : Line) (d : Device) : Device :=
  let b := d.bme c
  let slot := ((List.range (b.lines.length + 1)).find? fun i => b.lines.all fun x => x.slot != i).getD b.lines.length
  (d.updBme c fun b => { b with lines := b.lines ++ [{ slot := slot, line := l, data := data, at_ := d.cyc }] }).forAll
    (List.range 8) fun j => Device.clearUpset (.bme c 3 (8 * slot + j))

/-- Triple key: set, query, element. -/
def tripleKey (ts q e : Nat) : Nat := (64 * ts + q) * 130 + e

/-- Write a triple. -/
def Device.writeTriple (c ts q : Nat) (o : List W32) (m l : W32) (d : Device) : Device :=
  let base := tripleKey ts q 0
  let d := d.updBme c fun b =>
    let t := ((List.range o.length).zip o).foldl (fun t x => Map.set 0 t (base + x.1) x.2) b.triples
    { b with triples := Map.set 0 (Map.set 0 t (base + 128) m) (base + 129) l }
  (List.range 65).foldl (fun d w => d.clearUpset (.bme c 1 (base / 2 + w))) d

/-- OPEN (R133). Entries that begin within a line reach one line further than ⌈entries ÷ 8⌉, and the fetch reads it too; a sub-list
outside the partition area reads no line, its read slots pass unused, and its bad entries count at the OPEN (both DESIGN CHOICE, log
entry 52). -/
def Device.openScan (c : Nat) (f : OpOpen) (cfg : Cfg) (d : Device) : Device :=
  let ws := [2 * f.slot, 2 * f.slot + 1]
  let d := d.bmeCheck c 5 ws (Cfg.bib cfg)
  let e := Map.get {} (d.bmeSees c 5 ws).slots f.slot
  let sc : Scan := { qs := f.qs, ts := f.ts, slot := f.slot, layer := f.layer, kvh := f.kvh, qn := f.qn + 1,
                     npe := f.npe + 1, qbase := f.qbase, entry := e, cfg := cfg }
  let n := sc.nEntries
  let a := e.listAddr.toNat
  let o := a % 2 ^ 39
  let x := d.chan c
  -- a sub-list outside the channel's partition area makes every entry bad (R137)
  let outside := a / 2 ^ 39 != c || decide (x.area < o + 8 * e.pages)
  let lines := if outside then [] else (List.range ((o % 64 + 8 * n + 63) / 64)).map (o / 64 + ·)
  let lines := if n = 0 then [] else lines
  let absent := List.replicate ((sc.npe + 7) / 8 - lines.length) noLine
  let sc := if n = 0 then { sc with fetched := true, wanted := absent }
            else if outside then { sc with fetched := true, entries := List.replicate n { bad := true }, wanted := absent }
            else { sc with wanted := lines ++ absent, entryLines := lines }
  let d := d.updBme c fun b =>
    { b with past := match b.scan with | some old => Map.set none b.past old.ts (some old) | none => b.past,
             scan := some sc }
  let d := (List.range sc.qn).foldl (fun d q => d.writeTriple c f.ts q (List.replicate 128 0) 0xFF800000 0) d
  if outside then d.countBad c n else d

def Device.opOpen (p : Nat) (d : Device) : Device :=
  if !(256 ≤ p && p < 280) then d
  else d.onIssue p 0x21 0 anyOpnd fun o cfg d => d.openScan (p - 256) (openFields o) cfg

def execOpenScan (p : Nat) (s : State) : Host.Outcome State Fault Refusal := .next (s.on (Device.opOpen p))

/-! ### The arithmetic of one page slot (R134 to R136) -/

/-- Dot product of a query and a key (R136). -/
def Cfg.dot (cfg : Cfg) (q k : Nat) : W32 :=
  let n := cfg.headD
  if cfg.qfmt = 1 then
    let prods := (List.range n).map fun i => fpMul (BitVec.ofNat 32 (elemAt 1 q i * 65536)) (BitVec.ofNat 32 (elemAt 1 k i * 65536))
    (chunks 32 4 prods).foldl (fun acc g => fpAdd acc ((treeFold fpAdd 5 g).headD 0)) 0
  else
    let cs := (List.range n).map fun i => contribOf' ((elemValue cfg.qfmt (elemAt cfg.qfmt q i)).mul (elemValue cfg.kfmt (elemAt cfg.kfmt k i)))
    let nan := cs.any (·.2.1) || (cs.any (·.2.2.1) && cs.any (·.2.2.2))
    if nan then 0x7FC00000
    else if cs.any (·.2.2.2) then 0xFF800000
    else if cs.any (·.2.2.1) then 0x7F800000
    else
      let v := cs.foldl (fun a x => a + x.1) (0 : Int)
      toFp32 (.fin (decide (v < 0)) v.natAbs (-32))
where
  /-- A product in counts of 2^-32, with its special flags: NaN, +Inf, -Inf. -/
  contribOf' (v : FV) : Int × Bool × Bool × Bool :=
    match v with
    | .nan => (0, true, false, false)
    | .inf neg => (0, false, !neg, neg)
    | .fin neg m e =>
      let n : Int := ((if 0 ≤ e + 32 then m * 2 ^ (e + 32).toNat else m / 2 ^ (-(e + 32)).toNat : Nat) : Int)
      (if neg then -n else n, false, false, false)

/-- Combine two leaves of the maximum tree, a masked one left out. -/
def optMax (a b : Option W32) : Option W32 :=
  match a, b with
  | none, x => x
  | x, none => x
  | some x, some y => some (fpMax x y)

/-- A list filled with `d` to 256 leaves. -/
def leaves256 {α : Type} (d : α) (l : List α) : List α := l ++ List.replicate (256 - l.length) d

/-- tree_sum of 256 leaves. -/
def treeSum (l : List W32) : W32 := (treeFold fpAdd 8 (leaves256 0 l)).headD 0

/-- The scores of a query for the keys of a page (R135). -/
def pageScores (cfg : Cfg) (q : Nat) (keys : List Nat) : List W32 := keys.map fun k => fpMul (Cfg.scoreScale cfg) (cfg.dot q k)

/-- One query's update by a page slot (R135): scores and values by token, the old triple, and the new one. Tokens beyond the limit are
masked (R134). -/
def pageQuery (cfg : Cfg) (limit pos : Nat) (scores : List W32) (vals : List Nat) (o : List W32) (m l : W32) : List W32 × W32 × W32 :=
  let n := scores.length
  let sc := (List.range n).map fun t => if limit < 256 * pos + t then none else some (scores.getD t 0)
  match (treeFold optMax 8 (leaves256 none sc)).headD none with
  | none => (o, m, l)
  | some mp =>
    let mNew := fpMax m mp
    let a := sfuExp2 (fpSub m mNew)
    let ps := sc.map fun s => s.map fun s => sfuExp2 (fpSub s mNew)
    let lp := treeSum (ps.map fun p => p.getD 0)
    let o' := (List.range cfg.headD).map fun i =>
      let lv := (List.range n).map fun t => match ps.getD t none with
        | some p => fpMul p (toFp32 (elemValue cfg.vfmt (elemAt cfg.vfmt (vals.getD t 0) i)))
        | none => 0
      fpFma (o.getD i 0) a (treeSum lv)
    (o' ++ o.drop cfg.headD, mNew, fpFma l a lp)

/-- KL and VL of a descriptor, and L_page (R141). -/
def Cfg.kl (c : Cfg) : Nat := 4 * c.kbytes
def Cfg.vl (c : Cfg) : Nat := 4 * c.vbytes
def Cfg.lpage (c : Cfg) : Nat := c.kl + 160 + c.vl + 24

/-- A query as stored, as a number. -/
def Bme.query (b : Bme) (qs q : Nat) : Nat :=
  ((List.range 32).map fun w => Map.get 0 b.queries (queryWord qs q + w)).foldr (fun w n => w.toNat + 2 ^ 64 * n) 0

/-- Bytes `off` onward of lines as a number. -/
def sliceNat (bytes : List Byte) (off n : Nat) : Nat := leNat ((bytes.drop off).take n)

/-- The key phase of the page slot under way ends: every query's scores stand in the score buffer (R135, R141). -/
def Device.scorePage (c : Nat) (d : Device) : Device :=
  match (d.bme c).scan with
  | none => d
  | some sc =>
    match sc.page with
    | none => d
    | some (_, e) =>
      let cfg := sc.cfg
      let bib := Cfg.bib cfg
      let bytes := (sc.taken.map Line.bytes).flatten
      let keys := (List.range e.valid).map fun t => sliceNat bytes (t * Cfg.kbytes cfg) (Cfg.kbytes cfg)
      let d := d.forAll (List.range sc.qn) fun q d =>
        let ws := (List.range (Cfg.qbytes cfg / 8)).map (queryWord sc.qs q + ·)
        let d := d.bmeCheck c 0 ws bib
        let ss := pageScores cfg ((d.bmeSees c 0 ws).query sc.qs q % 2 ^ (8 * Cfg.qbytes cfg)) keys
        let d := d.updBme c fun b =>
          { b with scores := ((List.range ss.length).zip ss).foldl (fun m x => Map.set 0 m (256 * q + x.1) x.2) b.scores }
        d.forAll (List.range ((e.valid + 1) / 2)) fun w => Device.clearUpset (.bme c 2 (128 * q + w))
      d.updScan c fun s => { s with scored := true, taken := [] }

/-- The page slot under way ends: every query's triple is updated in query order (R135). -/
def Device.finishPage (c : Nat) (d : Device) : Device :=
  match (d.bme c).scan with
  | none => d
  | some sc =>
    match sc.page with
    | none => d
    | some (_, e) =>
      let cfg := sc.cfg
      let bib := Cfg.bib cfg
      let bytes := (sc.taken.map Line.bytes).flatten
      let vals := (List.range e.valid).map fun t => sliceNat bytes (t * Cfg.vbytes cfg) (Cfg.vbytes cfg)
      let d := d.forAll (List.range sc.qn) fun q d =>
        let sw := (List.range ((e.valid + 1) / 2)).map (128 * q + ·)
        let tw := (List.range 65).map (tripleKey sc.ts q 0 / 2 + ·)
        let d := (d.bmeCheck c 2 sw bib).bmeCheck c 1 tw bib
        let tr (i : Nat) : W32 := Map.get 0 (d.bmeSees c 1 tw).triples (tripleKey sc.ts q i)
        let limit := sc.entry.qpos.toNat + sc.qbase + Cfg.qoff cfg q
        let ss := (List.range e.valid).map fun t => Map.get 0 (d.bmeSees c 2 sw).scores (256 * q + t)
        let r := pageQuery cfg limit e.pos ss vals ((List.range 128).map tr) (tr 128) (tr 129)
        d.writeTriple c sc.ts q r.1 r.2.1 r.2.2
      d.updScan c fun s => { s with page := none, scored := false, taken := [], pagesDone := s.pagesDone + 1 }

/-- The line a page slot consumes in plan cycle `cyc` (R141). -/
def Scan.consumes (sc : Scan) (cyc : Nat) : Option Nat :=
  match sc.page with
  | none => none
  | some (t, e) =>
    let i := cyc - t
    if i < Cfg.kl sc.cfg then (sc.keyLines e)[i]?
    else if Cfg.kl sc.cfg + 160 ≤ i then (sc.valueLines e)[i - Cfg.kl sc.cfg - 160]?
    else none

/-- The page slot under way consumes the line of plan cycle `cyc` (R141, R142). -/
def Device.consumeLine (c cyc : Nat) (d : Device) : Device :=
  match (d.bme c).scan with
  | none => d
  | some sc =>
    match sc.consumes cyc with
    | none => d
    | some l =>
      let (x, d) := d.takeLine c d.cyc (Cfg.bib sc.cfg) l
      d.updScan c fun s => { s with taken := s.taken ++ [x] }

/-- What the page slot under way does in plan cycle `cyc`, and what it has done by its end (R141). -/
def Device.settleBme (c cyc : Nat) (d : Device) : Device :=
  let d := d.consumeLine c cyc
  let go (done : Scan → Bool) (len : Cfg → Nat) (f : Device → Device) (d : Device) : Device :=
    match (d.bme c).scan with
    | some sc => match sc.page with
      | some (t, _) => if !done sc && decide (t + len sc.cfg ≤ cyc + 1) then f d else d
      | none => d
    | none => d
  go (fun _ => false) Cfg.lpage (Device.finishPage c) (go Scan.scored Cfg.kl (Device.scorePage c) d)

/-- A line that is not in the input buffer at its consumption cycle is a missed planned event (R142, R245 cause 3). -/
def Device.checkLines (c : Nat) (d : Device) : Device :=
  let p := 256 + c
  match (d.asMet p).pacerCyc p, (d.bme c).scan with
  | some cyc, some sc =>
    match sc.consumes cyc with
    | some l => if ((d.bme c).line d.cyc l).isSome then d else d.missFor p 3 (Cfg.bib sc.cfg)
    | none => d
  | _, _ => d

/-- PAGE (R135, R141): the page slot of the entry at the cursor begins. Its first line, or an entry not yet fetched, must
be present. -/
def Device.opPage (p : Nat) (d : Device) : Device :=
  if !(256 ≤ p && p < 280) then d
  else
    let c := p - 256
    let i := ((d.bme c).scan.map (·.cursor)).getD 0
    let there (cfg : Cfg) : Bool := match (d.bme c).scan with
      | none => true
      | some sc => sc.fetched && (match sc.entries[i]? with
        | some e => !sc.live e || (({ sc with cfg := cfg } : Scan).keyLines e).head?.all fun l => ((d.bme c).line d.cyc l).isSome
        | none => true)
    d.onInput p 0x22 0 3 anyOpnd (fun _ cfg => there cfg) fun _ cfg d' =>
      let d' := d'.bmeCheck c 4 [i] (Cfg.bib cfg)
      match (d'.bmeSees c 4 [i]).scan with
      | none => d'
      | some sc =>
        match sc.entries[i]? with
        | none => d'.updScan c fun s => { s with cursor := s.cursor + 1, slotsDone := s.slotsDone + 1 }
        | some e =>
          let sc' : Scan := { sc with cursor := i + 1, slotsDone := sc.slotsDone + 1, cfg := cfg, sawBad := sc.sawBad || e.bad }
          d'.updScan c fun _ => if sc.live e then { sc' with page := some (d.now p, e), scored := false, taken := [] } else sc'

def execPage (p : Nat) (s : State) : Host.Outcome State Fault Refusal := .next (s.on (Device.opPage p))

/-! ### Emitted partials (R139, R140) -/

/-- R_ret: 64 cycles on A1, 60 on B0, with the image's pad (Table 5.5, R186). -/
def Device.retLatency (d : Device) (c : Nat) : Nat := (if d.fuses.stepB0 then 60 else 64) + (d.bme c).retPad

/-- A scan whose list was longer than what it fetched or processed (R140). -/
def Scan.overrun (sc : Scan) : Bool := decide (sc.nEntries < sc.entry.pages) || decide (sc.slotsDone < sc.entry.pages)

/-- The bytes of a partial record (Table 5.4). -/
def partialBytes (b : Bme) (sc : Scan) (ts q : Nat) (bib : W32) : List Byte :=
  let tr (i : Nat) : W32 := Map.get 0 b.triples (tripleKey ts q i)
  ((List.range 128).map fun i => leBytes 4 (if i < Cfg.headD sc.cfg then (tr i).toNat else 0)).flatten ++
    leBytes 4 (tr 128).toNat ++ leBytes 4 (tr 129).toNat ++ leBytes 4 bib.toNat ++ leBytes 2 sc.slot ++ leBytes 1 q ++
    leBytes 1 (b2n sc.entry.empty + 2 * b2n sc.overrun + 4 * b2n sc.sawBad) ++ leBytes 2 sc.pagesDone ++ leBytes 110 0

/-- The scan whose triples a set holds. -/
def Bme.scanOf (b : Bme) (ts : Nat) : Scan :=
  match b.scan with
  | some sc => if sc.ts = ts then sc else (Map.get none b.past ts).getD {}
  | none => (Map.get none b.past ts).getD {}

/-- Count the OVERRUN of a triple once, and tell the slot (R140, R206). -/
def Device.countOverrun (c ts q : Nat) (d : Device) : Device :=
  let sc := (d.bme c).scanOf ts
  if !sc.overrun || sc.counted.contains q then d
  else
    let d := (d.updBme c fun b =>
      { b with overrun := satInc b.overrun,
               scan := b.scan.map fun s => if s.ts = ts then { s with counted := s.counted ++ [q] } else s,
               past := match b.scan with
                 | some s => if s.ts = ts then b.past else Map.set none b.past ts (some { sc with counted := sc.counted ++ [q] })
                 | none => Map.set none b.past ts (some { sc with counted := sc.counted ++ [q] }) }).setIntBit (pgBme c) 2
    match d.ownerPart (d.bme c).owner with
    | some k => if (Map.get {} (d.part k).serving.slotTab sc.slot).req.isSome then d.updSlot k sc.slot fun x => { x with overrun := true } else d
    | none => d

/-- EMIT (R139): five flits for each query, on consecutive cycles from R_ret on. -/
def Device.opEmit (p : Nat) (d : Device) : Device :=
  if !(256 ≤ p && p < 280) then d
  else d.onIssue p 0x23 0 anyOpnd fun o cfg d =>
    let f := emitFields o
    let c := p - 256
    let ret := d.retLatency c
    (List.range (f.qn + 1)).foldl (fun d k =>
      let q := (f.qfirst + k) % 64
      let ws := (List.range 65).map (tripleKey f.ts q 0 / 2 + ·)
      let d := (d.bmeCheck c 1 ws (Cfg.bib cfg)).countOverrun c f.ts q
      let b := d.bmeSees c 1 ws
      let bytes := partialBytes b (b.scanOf f.ts) f.ts q (Cfg.bib cfg)
      (List.range 5).foldl (fun d j =>
        d.inject p (ret + 5 * k + j) cfg f.route (BitVec.ofNat 1024 (leNat ((bytes.drop (128 * j)).take 128)))) d) d

def execEmit (p : Nat) (s : State) : Host.Outcome State Fault Refusal := .next (s.on (Device.opEmit p))

end Sys2Proof.Machine
end

