-- ==== Sys2Proof/Machine/Dram.lean ====
section
/-! DEFINITION. DRAM channels (R145 to R169): planned reads and writes, appends, refresh and its debt, delivery, unplanned
accesses, scrubbing, module temperature and bring-up. -/

namespace Sys2Proof.Machine

/-! ### Planned reads (R151 to R156) -/

/-- DRL: 240 cycles on A1, 232 on B0, with the pad of the accepted image (R154, R186). -/
def Device.drl (d : Device) (c : Nat) : Nat := (if d.fuses.stepB0 then 232 else 240) + (d.chan c).drlPad

/-- RFC in cycles at an operating point (Table 6.7). -/
def rfc : Nat → Nat
  | 0 => 861 | 1 => 718 | 2 => 574 | 3 => 431 | _ => 216

/-- LPW and LPS by speed code and operating point, BGAP and RGAP (Table 6.7). -/
def lpw (speed op : Nat) : Nat :=
  (match speed with
   | 0 => [32, 38, 48, 64, 84]
   | 1 => [22, 26, 33, 44, 84]
   | _ => [16, 19, 24, 32, 64]).getD op 0
def lps (speed op : Nat) : Nat :=
  (match speed with
   | 0 => [16, 19, 24, 32, 42]
   | 1 => [11, 13, 16, 22, 42]
   | _ => [8, 9, 12, 16, 32]).getD op 0
def bgap (op : Nat) : Nat := [104, 87, 70, 52, 26].getD op 0
def rgap (op : Nat) : Nat := [3264, 2720, 2176, 1632, 816].getD op 0

/-! ### The schedule ahead (R158) -/

/-- A line transfer of a channel: its cycle, whether it writes, and its bank key where the controller knows the address. -/
structure ChanXfer where
  cyc : Nat
  wr : Bool
  key : Option Nat
  deriving DecidableEq, Repr

/-- The issues of a pacer from here on, to cycle `lim`: cycle, operation, operand, configuration. A wait that is not satisfied
yet, a SWAP that is not ready and the end of the table end the view. -/
def Device.issuesAhead (d : Device) (p lim : Nat) : Nat → Pacer → List (Nat × Nat × Nat × Cfg)
  | 0, _ => []
  | fuel + 1, x =>
    let x := x.endLoop x.lastIssue
    let w := x.nextStride
    let c := x.dueAt
    if lim < c then []
    else
      let here (x : Pacer) : List (Nat × Nat × Nat × Cfg) :=
        let o := Stride.opnd w
        let op := Stride.op w
        let x := if op = 2 then { x with activeCfg := x.shadowNow c } else x
        let x := if op = 1 then { x.settleDesc c with ldesc := some (c + 4, Map.get 0 x.descs (64 * b2n x.bank + Stride.dref w)) } else x
        let x := if op = 3 then { x with lcInit := Map.set 0 x.lcInit (bits o 24 3) (BitVec.ofNat 24 o) } else x
        let me := (List.range (repOf op o + 1)).map fun k => (c + k * gapOf op o, op, o, x.activeCfg)
        me ++ (match op with
          | 0x05 => if x.ready then Device.issuesAhead d p lim fuel ((x.pass c x.activeCfg).swapTo (bits o 0 11)) else []
          | 0x07 | 0x09 | 0x0A => []
          | _ => Device.issuesAhead d p lim fuel (x.pass c x.activeCfg))
      match lwDecode (Stride.lw w) with
      | .loopBegin ctr forever e =>
        if x.entered then here x
        else
          let x' := x.enterLoop c ctr forever e
          if x'.entered then here x' else Device.issuesAhead d p lim fuel x'
      | .wait _ _ => if x.waitOk = some c then here x else []
      | _ => here x

/-- The transfers that issues make, with pattern beats counted on from `beats`; a line of a BME scan or an append is unknown. -/
def transfersOf : List (Nat × Nat × Nat × Cfg) → Map Nat → List ChanXfer
  | [], _ => []
  | (c, op, o, cfg) :: t, beats =>
    if op = 2 then transfersOf t []
    else if op = 0x28 ∨ op = 0x29 then
      let f := dramFields o
      let n := Map.get 0 beats f.pat
      let m := if op = 0x29 ∨ f.dest = 1 then 2 else 1
      let x (b : Nat) : ChanXfer := { cyc := c, wr := op == 0x29, key := if f.asrc = 0 then some (cfg.patBeat f.pat (n + b) % 128) else none }
      (List.range m).map x ++ transfersOf t (if f.asrc = 0 then Map.set 0 beats f.pat (n + m) else beats)
    else transfersOf t beats

/-- Insertion of an issue by its cycle. -/
def insertIssue (e : Nat × Nat × Nat × Cfg) : List (Nat × Nat × Nat × Cfg) → List (Nat × Nat × Nat × Cfg)
  | [] => [e]
  | x :: t => if e.1 < x.1 then e :: x :: t else x :: insertIssue e t

/-- The strides that a pacer is to issue in the next `h` cycles, in cycles of the plan; none while no plan runs on it or its units are
frozen. -/
def Device.issuesWithin (d : Device) (p h : Nat) : List (Nat × Nat × Nat × Cfg) :=
  let x := d.pacer p
  match d.pacerCyc p with
  | none => []
  | some now => if x.state = .running ∧ !x.stuck then d.issuesAhead p (now + h) 4096 x else []

/-- The strides that a pacer is to issue in the next 256 cycles (R158, R309). -/
def Device.nextIssues (d : Device) (p : Nat) : List (Nat × Nat × Nat × Cfg) := d.issuesWithin p 256

/-- What the pacer of a channel is to issue in the next `h` cycles, in order, with cycles counted by the device: repeats of operations
already issued, and strides. -/
def Device.planWithin (d : Device) (c h : Nat) : List (Nat × Nat × Nat × Cfg) :=
  let p := 320 + c
  match d.pacerCyc p with
  | none => []
  | some now =>
    let reps := ((d.pacer p).outst.map fun o => (List.range (repOf o.op o.opnd.toNat + 1 - o.next)).map fun k =>
      (o.issued + (o.next + k) * gapOf o.op o.opnd.toNat, o.op, o.opnd.toNat, o.cfg)).flatten
    ((reps ++ d.issuesWithin p h).foldl (fun l e => insertIssue e l) []).map fun e => (e.1 - now + d.cyc, e.2)

/-- What the controller of a channel sees of its schedule (R158). -/
def Device.planAhead (d : Device) (c : Nat) : List (Nat × Nat × Nat × Cfg) := d.planWithin c 256

/-- A line may be transferred now beside the transfers of the last cycles and the planned ones of the next 256: DPC-1 to DPC-3 hold at
the declared operating point (R158); a channel under test admits none (R406). -/
def Device.admitsLine (d : Device) (c idx : Nat) (wr : Bool) : Bool :=
  let x := d.chan c
  let now := d.cyc
  let op := match d.chanPart c with
    | some k => ((d.part k).image.map (·.opDecl)).getD d.clk.opCur
    | none => d.clk.opCur
  let past : List ChanXfer := x.xfers.map fun t => { cyc := t.1, wr := t.2.1, key := some (t.2.2 % 128) }
  let xs := past ++ transfersOf (d.planAhead c) x.beats
  let onSub (t : ChanXfer) : Bool := match t.key with
    | some k => k % 2 == idx % 2
    | none => true
  let room (n : Nat) (ys : List ChanXfer) : Bool := (List.range 42).all fun i =>
    decide ((ys.filter fun y => decide (now ≤ y.cyc + i) && decide (y.cyc + i < now + 42)).length < n)
  let apart (n : Nat) (y : ChanXfer) : Bool := decide (y.cyc + n ≤ now) || decide (now + n ≤ y.cyc)
  !d.testing [8, 9] c && room (lpw x.speed op) xs && room (lps x.speed op) (xs.filter onSub) &&
  xs.all fun y => ((y.key.any (· != idx % 128)) || apart (bgap op) y) && (y.wr == wr || apart 16 y)

/-- Note a line transfer of this cycle. -/
def Device.noteXfer (c idx : Nat) (wr : Bool) (d : Device) : Device :=
  d.updChan c fun x => { x with xfers := (x.xfers.filter fun t => decide (d.cyc < t.1 + 128)) ++ [(d.cyc, wr, idx)] }

/-- Admit unplanned lines that wait, the longest waiting first and `n` at most, and note the longest wait (R158). -/
def Device.admitAsked (c : Nat) : Nat → Device → Device
  | 0, d => d
  | n + 1, d =>
    match (d.chan c).asked with
    | [] => d
    | (t, idx, wr) :: rest =>
      if !d.admitsLine c idx wr then d
      else Device.admitAsked c n ((d.updChan c fun x => { x with asked := rest, enqWait := maxWait x.enqWait (d.cyc - t) }).noteXfer c idx wr)
where
  /-- The longer of a noted wait and another. -/
  maxWait (w : W32) (n : Nat) : W32 := BitVec.ofNat 32 (max w.toNat (min n 0xFFFFFFFF))

/-- The next beat of a pattern: its line, and the channel with the beat counted. -/
def Device.nextBeat (c pat : Nat) (cfg : Cfg) (d : Device) : Nat × Device :=
  let n := Map.get 0 (d.chan c).beats pat
  (cfg.patBeat pat n, d.updChan c fun x => { x with beats := Map.set 0 x.beats pat (n + 1) })

/-- Read one planned line for the owner: an uncorrectable line becomes zeros and is marked (R169), and a line of an image copy, which
only the load gate may read (R177), or beyond the partition area (R148) reads as zeros (DESIGN CHOICE, log entry 49). A line that a DWR
replaced less than 256 cycles ago is returned as it was or as it is (R156): a free choice. -/
def Device.readPlanned (p idx : Nat) (d : Device) : (Line × Bool) × Device :=
  let c := p - 320
  let key := match d.pacerPart p with
    | some k => d.keyOf k
    | none => none
  let d := d.noteXfer c idx false
  let (l, d) := if d.imageLine c idx || decide ((d.chan c).area ≤ 64 * idx) then (some 0, d) else d.readLine c idx key
  match l with
  | none => ((0, true), d)
  | some l =>
    match (d.chan c).recent.find? fun r => r.2.1 == idx && decide (d.now p < r.1 + 256) with
    | some r => if d.draw.1 % 2 = 0 then ((r.2.2, false), d.draw.2) else ((l, false), d.draw.2)
    | none => ((l, false), d)

/-- A line is late when its access falls inside a self-directed refresh in cadence mode (R155). -/
def Device.lateNow (d : Device) (c : Nat) : Bool := d.cadence && decide (d.cyc < (d.chan c).refreshUntil)

/-- Put a planned line or pair of lines under way. -/
def Device.flight (c : Nat) (f : InFlight) (d : Device) : Device := d.updChan c fun x => { x with inFlight := x.inFlight ++ [f] }

/-- DRD with a pattern (ASRC 0): one line to the BME input buffer, or two as one flit (Table 6.4). -/
def Device.opDrdPattern (p n : Nat) (d : Device) : Device :=
  if !(320 ≤ p && p < 344) then d
  else d.onIssue p 0x28 n (fun o => (dramFields o).asrc == 0) fun o cfg d =>
    let f := dramFields o
    let c := p - 320
    let late := d.lateNow c
    let (i, d) := d.nextBeat c f.pat cfg
    let (l, d) := d.readPlanned p i
    if f.dest = 0 then
      d.flight c { due := d.cyc + d.drl c, line := i, data := l.1, toBme := true, late := late, bib := Cfg.bib cfg, bad := l.2 }
    else
      let (j, d) := d.nextBeat c f.pat cfg
      let (m, d) := d.readPlanned p j
      d.flight c { due := d.now p + d.drl c, line := i, data := l.1, line2 := j, data2 := m.1, toBme := false,
                   route := Cfg.route cfg p f.route, late := late, bib := Cfg.bib cfg, bad := l.2, bad2 := m.2 }

def execDrdPattern (p n : Nat) (s : State) : Host.Outcome State Fault Refusal := .next (s.on (Device.opDrdPattern p n))

/-- DRD with ASRC 1: the line the BME's open scan needs next; a slot it does not need passes unused (R152). -/
def Device.opDrdBmeScan (p n : Nat) (d : Device) : Device :=
  if !(320 ≤ p && p < 344) then d
  else d.onIssue p 0x28 n (fun o => (dramFields o).asrc == 1) fun _ cfg d =>
    let c := p - 320
    let late := d.lateNow c
    let (i, d) := d.nextScanLine c
    match i with
    | none => d
    | some i =>
      let (l, d) := d.readPlanned p i
      d.flight c { due := d.cyc + d.drl c, line := i, data := l.1, toBme := true, late := late, bib := Cfg.bib cfg, bad := l.2 }

def execDrdBmeScan (p n : Nat) (s : State) : Host.Outcome State Fault Refusal := .next (s.on (Device.opDrdBmeScan p n))

/-! ### Planned writes -/

/-- Write one planned line for the owner, keeping what it replaces for 256 cycles (R156). A line with an uncorrectable arriving word is
not written (R164, R169), nor is a line of an image copy (R177), of the hole, where the write is counted (R148), or of the marshal area
(DESIGN CHOICE, log entry 49). `w0` is 0 for the first line of a flit, 8 for the second. -/
def Device.writePlanned (p idx w0 : Nat) (l : Line) (bib : W32) (d : Device) : Device :=
  let c := p - 320
  let cyc := d.now p
  match d.pacerPart p with
  | none => d
  | some k =>
    let (got, d) := d.arriving c w0 (List.range 8) l
    if capBytes (d.chan c).cap ≤ 64 * idx then d.countErr (pgChan c) errAccess
    else if (d.chan c).area ≤ 64 * idx then d
    else
    let d := d.noteXfer c idx true
    match got with
    | none => d.dramUe c idx p bib
    | some l =>
      if d.imageLine c idx then d.countErr (pgChan c) errDenied
      else
      let (old, d) := d.plain c idx (d.keyOf k) 0
      let d := d.updChan c fun x => { x with recent := (x.recent.filter fun r => decide (cyc < r.1 + 256) && r.2.1 != idx) ++ [(cyc, idx, old)] }
      d.writeLine c idx (d.keyOf k) l

/-- DWR with a pattern: the flit at the ingress port becomes two lines (Table 6.4). -/
def Device.opDwrPattern (p n : Nat) (d : Device) : Device :=
  if !(320 ≤ p && p < 344) then d
  else d.onIngress p 0x29 n (fun o => (dramFields o).asrc == 0) fun o cfg x d =>
    let f := dramFields o
    let c := p - 320
    let d := (d.takeDigest p (Line.bytes (flitLo x))).takeDigest p (Line.bytes (flitHi x))
    let (i, d) := d.nextBeat c f.pat cfg
    let (j, d) := d.nextBeat c f.pat cfg
    (d.writePlanned p i 0 (flitLo x) (Cfg.bib cfg)).writePlanned p j 8 (flitHi x) (Cfg.bib cfg)

def execDwrPattern (p n : Nat) (s : State) : Host.Outcome State Fault Refusal := .next (s.on (Device.opDwrPattern p n))

/-- Input stride of slot records (Table 8.5). -/
def Serving.inStride (v : Serving) : Nat := 64 * ((16 + 4 * v.npos + 63) / 64)

/-- FRAME of the page of a slot that holds position page `n`, from the last entries of its sub-list. -/
def Device.frameOf (k : Nat) (e : SlotEntry) (n : Nat) : Nat → Device → Option Nat × Device
  | 0, d => (none, d)
  | i + 1, d =>
    let (bs, d) := d.readBytes k (e.listAddr.toNat + 8 * i) 8
    let x := pageEntryOf (leNat bs)
    if x.pos = n then (some x.frame, d) else Device.frameOf k e n i d

/-- Valid positions of a slot in this step: the starter's record, or on a shadow the input record in DRAM (R333). -/
def Device.slotNin (k s : Nat) (d : Device) : Nat × Device :=
  let p := d.part k
  if p.shadow.role = 2 then
    let (bs, d) := d.readBytes k (p.serving.inBase.toNat + s * p.serving.inStride + 4) 2
    (leNat bs, d)
  else ((Map.get {} p.serving.slotTab s).nin, d)

/-- Lines per token position of an append pattern (APPEND_TL, Tables 8.1 and 19.10). -/
def appendLines (tl pat : Nat) : Nat := [0, 1, 2, 4].getD (bits tl (2 * pat) 2) 0

/-- First line of the token of append operation `a` on a channel, or none when the operation writes nothing (R203). -/
def Device.appendBase (p a pat : Nat) (d : Device) : Option Nat × Device :=
  let c := p - 320
  match d.pacerPart p with
  | none => (none, d)
  | some k =>
    let pt := d.part k
    match pt.image with
    | none => (none, d)
    | some im =>
      let v := (List.range im.chans.length).find? fun i => im.chans.getD i 99 == c
      let sv := pt.serving
      let npos := max sv.npos 1
      let s := v.getD 0 + sv.nch * (a / npos)
      let e := Map.get {} (d.bme c).slots s
      let (nin, d) := d.slotNin k s
      if im.slots ≤ s ∨ e.empty ∨ (Map.get {} sv.slotTab s).cancel ∨ nin ≤ a % npos then (none, d)
      else
        let pos := e.qpos.toNat + a % npos
        let (f, d) := d.frameOf k e (pos / 256) e.pages
        (f.map fun f => f * 1024 + pos % 256 * appendLines sv.appendTl pat, d)

/-- DWR with ASRC 1: a slot append (R152, R203). -/
def Device.opDwrAppend (p n : Nat) (d : Device) : Device :=
  if !(320 ≤ p && p < 344) then d
  else
    let c := p - 320
    let mine := fun o => (dramFields o).asrc == 1
    let issued := (d.pacer p).repeatAt 0x29 n (d.now p) mine
    d.onIngress p 0x29 n mine fun o cfg x d =>
      let f := dramFields o
      let a := if n = 0 then Map.get 0 (d.chan c).cursors f.pat else (issued.map (·.aux)).getD 0
      let d := if n = 0 then
          (d.updChan c fun x => { x with cursors := Map.set 0 x.cursors f.pat (a + 1) }).updPacer p fun y =>
            { y with outst := y.outst.map fun z => if z.op == 0x29 && z.issued == d.now p then { z with aux := a } else z }
        else d
      let d := (d.takeDigest p (Line.bytes (flitLo x))).takeDigest p (Line.bytes (flitHi x))
      let (b, d) := d.appendBase p a f.pat
      match b with
      | none => d
      | some b =>
        (d.writePlanned p ((b + cfg.patBeat f.pat (2 * n)) % 2 ^ 33) 0 (flitLo x) (Cfg.bib cfg)).writePlanned p
          ((b + cfg.patBeat f.pat (2 * n + 1)) % 2 ^ 33) 8 (flitHi x) (Cfg.bib cfg)

def execDwrAppend (p n : Nat) (s : State) : Host.Outcome State Fault Refusal := .next (s.on (Device.opDwrAppend p n))

/-! ### Refresh (R159, R160) -/

/-- A lockstep plan of the channel's partition is running: only DREF refreshes (R159). -/
def Device.lockstepRun (d : Device) (c : Nat) : Bool :=
  d.lockstep && (match d.chanPart c with
    | some k => d.running k
    | none => false)

/-- DREF: pays one interval, to at most four intervals of credit; under a lockstep plan the debt counts from the last DREF. -/
def Device.opDref (p : Nat) (d : Device) : Device :=
  if !(320 ≤ p && p < 344) then d
  else d.onIssue p 0x2A 0 anyOpnd fun _ _ d =>
    let c := p - 320
    let ls := d.lockstepRun c
    d.updChan c fun x => { x with debt := if ls then 0 else max (x.debt - 1) (-4), lastDref := some d.cyc }

def execDref (p : Nat) (s : State) : Host.Outcome State Fault Refusal := .next (s.on (Device.opDref p))

/-- No planned transfer or refresh of the channel issues within RFC cycles from now (R160), nor does a plan of its partition start in
them. -/
def Device.planGap (d : Device) (c : Nat) : Bool :=
  let n := d.cyc + rfc d.clk.opCur
  ((d.planWithin c (rfc d.clk.opCur)).all fun e => !(e.2.1 == 0x28 || e.2.1 == 0x29 || e.2.1 == 0x2A) || decide (n ≤ e.1)) &&
  match d.chanPart c with
  | some k => !((d.part k).run.phase == .starting && decide ((d.part k).run.startCyc < n))
  | none => true

/-- Refresh at once when the debt has reached three intervals (R160): inside planned traffic in cadence mode, and in lockstep mode, before
and after a run, only in cycles that no planned transfer occupies (R159). -/
def Device.forceRefresh (c : Nat) (d : Device) : Device :=
  if d.lockstepRun c || decide ((d.chan c).debt < 3) || (d.lockstep && !d.planGap c) then d
  else
    (d.updChan c fun x => { x with debt := x.debt - 1, forcedRef := satInc x.forcedRef,
                                   refreshUntil := d.cyc + rfc d.clk.opCur }).setIntBit (pgChan c) 3

/-- A refresh interval of a channel in TKCLK ticks (R160): 3.9 µs, or 1.95 µs above 85 °C. -/
def Chan.interval (x : Chan) : Nat := if 85 < x.temp then 3120 else 6240

/-- The debt of a trained channel grows by one interval once that much reference time has passed since it last did (R160). -/
def Device.opRefreshTick (c : Nat) (d : Device) : Device :=
  let x := d.chan c
  if x.state == .available && d.since x.debtAt x.interval then
    (d.updChan c fun x => { x with debt := x.debt + 1, debtAt := x.debtAt + x.interval }).forceRefresh c
  else d

def execRefreshDebtTick (c : Nat) (s : State) : Host.Outcome State Fault Refusal :=
  .next (s.on (Device.when (isChan c) (Device.opRefreshTick c)))

/-- A self-directed refresh in a planned gap once the debt has reached one interval (R160). -/
def Device.opSelfRefresh (c : Nat) (d : Device) : Device :=
  if d.lockstepRun c || decide ((d.chan c).debt < 1) || !d.planGap c then d
  else d.updChan c fun x => { x with debt := x.debt - 1, selfRef := satInc x.selfRef, refreshUntil := d.cyc + rfc d.clk.opCur }

def execSelfRefresh (c : Nat) (s : State) : Host.Outcome State Fault Refusal :=
  .next (s.on (Device.when (isChan c) (Device.opSelfRefresh c)))

/-! ### Delivery (R154, R155, R169) -/

/-- Whether a planned line is delivered now: in its cycle exactly, or in one of the 1,024 after it when its access fell inside a
self-directed refresh (R154, R155); a frozen unit's flits wait in the return queue (R247). -/
def Device.deliverable (d : Device) (c : Nat) (f : InFlight) : Bool :=
  let now := if f.toBme then some d.cyc else d.pacerCyc (320 + c)
  match now with
  | some n => if f.late then decide (f.due < n) && decide (n ≤ f.due + 1024) else f.due == n
  | none => false

/-- DRAM_UE of each withheld line of a delivery (R169). -/
def Device.deliverUe (c : Nat) (f : InFlight) (d : Device) : Device :=
  let d := if f.bad then d.dramUe c f.line (320 + c) f.bib else d
  if f.bad2 then d.dramUe c f.line2 (320 + c) f.bib else d

/-- A planned line is delivered: into the BME's input buffer, or as a flit. -/
def Device.deliverLine (c : Nat) (f : InFlight) (d : Device) : Device :=
  let d := d.updChan c fun x => { x with inFlight := x.inFlight.erase f }
  let d := d.deliverUe c f
  if f.toBme then d.bmeArrive c f.line f.data
  else d.injectAt (320 + c) f.due 0 f.bib f.route (flitOf f.data f.data2)

/-- The next planned line of a channel that may be delivered is delivered. -/
def Device.opLineDelivery (c : Nat) (d : Device) : Device :=
  match (d.chan c).inFlight.find? (d.deliverable c) with
  | none => d
  | some f => d.deliverLine c f

/-- A line that is to be delivered in this cycle at the latest (R154, R155). -/
def Device.mustDeliver (d : Device) (c : Nat) (f : InFlight) : Bool :=
  d.deliverable c f && (!f.late || (if f.toBme then some d.cyc else d.pacerCyc (320 + c)) == some (f.due + 1024))

/-- Lines that no command has delivered in their last cycle are delivered as it ends. -/
def Device.deliverDue (d : Device) : Device :=
  d.forAll (d.chans.map (·.1)) fun c d =>
    ((d.chan c).inFlight.filter (d.mustDeliver c)).foldl (fun d f => d.deliverLine c f) d

def execDramLineDelivery (c : Nat) (s : State) : Host.Outcome State Fault Refusal :=
  .next (s.on (Device.when (isChan c) (Device.opLineDelivery c)))

/-! ### Unplanned accesses and scrubbing (R158, R165, R169) -/

/-- The key an unplanned access of a line uses (R148, R166): its partition's, and in the marshal area the device key. -/
def Device.chanKey (d : Device) (c idx : Nat) : Option Nat :=
  if (d.chan c).area ≤ 64 * idx then d.sec.deviceKey
  else match d.chanPart c with
    | some k => d.keyOf k
    | none => none

/-- Access of an unplanned line by the host, the marshal or the fabric (R158). -/
def Device.accessLine (c : Nat) (a : Access) (d : Device) : Device :=
  match a with
  | .read o =>
    let (l, d) := (d.noteXfer c (o / 64) false).readLine c (o / 64) (d.chanKey c (o / 64))
    match l with
    | some _ => d
    | none => d.dramUe c (o / 64) (2304 + c) 0xFFFFFFFF
  | .write o l =>
    match (d.noteXfer c (o / 64) true).arriving c 16 (List.range 8) l with
    | (some l, d) => d.writeLine c (o / 64) (d.chanKey c (o / 64)) l
    | (none, d) => d.dramUe c (o / 64) (2304 + c) 0xFFFFFFFF

/-- An unplanned access of one line, and how long it waited (R158): it takes place in a cycle in which the controller admits it, and
waits otherwise. In the hole above the capacity a read gives zero and a write is counted (R148); a line of an accepted image copy is
not written (R177). -/
def Device.opUnplanned (c : Nat) (a : Access) (wait : Nat) (d : Device) : Device :=
  let (o, wr) := match a with
    | .read o => (o, false)
    | .write o _ => (o, true)
  if capBytes (d.chan c).cap ≤ o then (if wr then d.countErr (pgChan c) errAccess else d)
  else if !d.admitsLine c (o / 64) wr then d
  else
    let d := d.updChan c fun x => { x with enqWait := Device.admitAsked.maxWait x.enqWait wait }
    if d.imageLine c (o / 64) then (if wr then d.countErr (pgChan c) errDenied else d) else d.accessLine c a

def execUnplannedAccess (c : Nat) (a : Access) (wait : Nat) (s : State) : Host.Outcome State Fault Refusal :=
  .next (s.on (Device.when (isChan c) (Device.opUnplanned c a wait)))

/-- Scrub the next line of the populated range, SCRUB_PERIOD after the last and when the controller admits it, unless the channel is
quiesced: a corrected line is written back with fresh codes, an uncorrectable one raises DRAM_UE (R158, R165, R169, R418). -/
def Device.opScrub (c : Nat) (d : Device) : Device :=
  let x := d.chan c
  let n := capBytes x.cap / 64
  let i := x.scrubAt % n
  if x.state != .available || (d.page (pgChan c)).quiesce || !d.since x.scrubbedAt (us x.scrubPeriod) || !d.admitsLine c i false then d
  else
    let d := (d.updChan c fun y => { y with scrubAt := (i + 1) % n, scrubbedAt := d.clk.now }).noteXfer c i false
    match d.upset (.dram c i) with
    | none => d
    | some u =>
      match burstDecode (u.mask.map BitVec.toNat) (u.outer.map BitVec.toNat) with
      | .bad => (d.noteRead (.dram c i)).dramUe c i (2304 + c) 0xFFFFFFFF
      | .corrected r j =>
        -- what the decoder leaves is a codeword of the word code, and gets its own outer symbols
        let left := { u with mask := r.map (BitVec.ofNat 72), outer := r.map fun m => BitVec.ofNat 8 (outerSum m) }
        ((d.countCe c j).askLine c i true).updFlt fun f =>
          { f with upsets := f.upsets.filter (fun v => v.site != .dram c i) ++ (if errLine r = 0 then [] else [left]) }
      | _ => d

def execScrub (c : Nat) (s : State) : Host.Outcome State Fault Refusal := .next (s.on (Device.when (isChan c) (Device.opScrub c)))

/-! ### Module temperature (R160, R381) -/

/-- The read of a channel's hottest module, 1 ms after the last: above 95 °C the MOD_HOT event and full coolant flow for as long as it
lasts. -/
def Device.opModuleTemp (c : Nat) (t : Int) (d : Device) : Device :=
  if !d.since (d.chan c).tempAt (us 1000) then d else
  let was := d.thr.modHot.getLsbD c
  let hot := decide (95 < t)
  let bit' : BitVec 24 := BitVec.ofNat 24 (2 ^ c)
  let d := d.updChan c fun x => { x with temp := t, tempAt := d.clk.now }
  let d := d.updThr fun h => { h with modHot := if hot then h.modHot ||| bit' else h.modHot &&& ~~~bit',
                                      flowDuty := if hot then 1000 else h.flowDuty }
  let d := if hot && !was then d.event none pgThermal 8 (t.toNat + c * 2 ^ 32) else d
  d.forceRefresh c

def execModuleTempRead (c : Nat) (celsius : Int) (s : State) : Host.Outcome State Fault Refusal :=
  .next (s.on (Device.when (isChan c) (Device.opModuleTemp c celsius)))

/-! ### Bring-up (R145, R146, R168) -/

/-- Speeds of a class in Table 6.1, as SPEED codes. -/
def classSpeeds (cls : Nat) : List Nat := if cls = 1 then [0, 1] else if cls = 2 then [2] else []

/-- SPEED code of a data rate. -/
def speedCode (mts : Nat) : Nat := if mts = 12800 then 0 else if mts = 8800 then 1 else if mts = 6400 then 2 else 3

/-- Speeds of a module that its class has. -/
def moduleSpeeds (m : ModuleInfo) : List Nat := (m.grades.map speedCode).filter (classSpeeds m.cls).contains

/-- A supported module (R145). -/
def moduleSupported (m : ModuleInfo) : Bool := (m.cls == 1 || m.cls == 2) && m.cap < 3 && m.x4 && !(moduleSpeeds m).isEmpty

/-- The device-wide speed: the highest that every supported module has (R145). -/
def deviceSpeed (ms : List ModuleInfo) : Nat :=
  ([0, 1, 2].find? fun s => (ms.filter moduleSupported).all fun m => (moduleSpeeds m).contains s).getD 3

/-- Minimum margins of Table 17.4 for DDR5: widths in [15:0] in 0.001 UI, reference margins in [31:16] in 0.1 mV. -/
def marginsOk (m : ModuleInfo) : Bool :=
  250 ≤ m.marginRd.toNat % 65536 && 300 ≤ m.marginRd.toNat / 65536 && 250 ≤ m.marginWr.toNat % 65536 &&
  350 ≤ m.marginCa.toNat % 65536

/-- The bring-up step that fails, or 0 (Table 6.8). -/
def bringUpStep (speed : Nat) (m : ModuleInfo) : Nat :=
  if !moduleSupported m then 1
  else if !(moduleSpeeds m).contains speed then 2
  else if !m.phyOk then 3
  else if !m.trainOk then 4
  else if !marginsOk m then 5
  else if !m.fillOk then 6 else 0

/-- Bring up every channel that is in training and has its clock (R168, R371): state, failure step, speed, capacity, margins; the marshal area is
filled under the device key. -/
def Device.opBringUp (ms : List ModuleInfo) (d : Device) : Device :=
  let sp := deviceSpeed ms
  let training := fun c => (d.chan c).state == .training && (d.region (chanRegion c)).power == .run
  let key := d.sec.deviceKey
  let d := d.dropUpsets fun s => match s with
    | .dram c o => training c && decide ((d.chan c).area ≤ 64 * o)
    | _ => false
  d.forAll (List.range 24) fun c d =>
    let m := ms.getD c {}
    d.updChan c fun x =>
      if !training c then x
      else
        let st := bringUpStep sp m
        { x with state := if st = 0 then .available else .failed, failStep := st, cls := m.cls,
                 speed := if sp < 3 then sp else 0, cap := m.cap, ranks := m.ranks4,
                 marginRd := if 5 ≤ st ∨ st = 0 then m.marginRd else 0, marginWr := if 5 ≤ st ∨ st = 0 then m.marginWr else 0,
                 marginCa := if 5 ≤ st ∨ st = 0 then m.marginCa else 0,
                 filledM := if st = 0 then key else none, debt := 0, debtAt := d.clk.now, scrubbedAt := d.clk.now,
                 lines := if st = 0 then x.lines.filter fun l => decide (64 * l.1 < capBytes m.cap - 67108864) else x.lines }

def execChannelBringUp (modules : List ModuleInfo) (s : State) : Host.Outcome State Fault Refusal :=
  .next (s.on (Device.opBringUp modules))

end Sys2Proof.Machine
end

