-- ==== Sys2Proof/Machine/Starter.lean ====
section
/-! DEFINITION. The starter (R189 to R212): tenants and budgets, submitting requests, the step boundary with settlement,
admission, provisioning and records, and cancels. -/

namespace Sys2Proof.Machine

/-! ### Writes of boundary work -/

/-- Write bytes in the partition's DRAM and remember the lines for a shadow (Table 13.2). -/
def Device.stWrite (k a : Nat) (bs : List Byte) (d : Device) : Device :=
  let ls := (List.range ((a % 64 + bs.length + 63) / 64)).map (a / 64 + ·)
  (d.writeBytes k a bs).updServing k fun v => { v with wrote := v.wrote ++ ls.filter fun l => !v.wrote.contains l }

/-- Change a request entry in boundary work. -/
def Device.stReq (k r : Nat) (f : ReqEntry → ReqEntry) (d : Device) : Device :=
  (d.updReq r f).updServing k fun v => { v with touched := if v.touched.contains r then v.touched else v.touched ++ [r] }

/-- Counter 63 of a serving partition (R198). -/
def Device.setC63 (k : Nat) (v : W32) (d : Device) : Device := d.putCc k 63 fun c => { c with count := v }

/-- A tenant (R195). -/
def Device.tenant (d : Device) (t : Nat) : Tenant := Map.get {} d.starter.tenants t
def Device.updTenant (t : Nat) (f : Tenant → Tenant) (d : Device) : Device :=
  d.updStarter fun s => { s with tenants := Map.upd {} s.tenants t f }

/-- Debit a tenant's budget, down to -2^31 (R205). -/
def Tenant.debit (n : Nat) (t : Tenant) : Tenant := { t with budget := max (t.budget - n) (-(2 ^ 31)) }

/-- Apply `n` refill ticks (R196). -/
def Tenant.refill (n : Nat) (t : Tenant) : Tenant :=
  { t with budget := if (t.cap : Int) < t.budget then t.budget else min (t.budget + n * t.rate) t.cap }

/-- Refill ticks of every tenant up to time `tk` (R196). -/
def Device.refillAll (tk : W64) (d : Device) : Device :=
  let now := tk.toNat / 2 ^ 24
  d.updStarter fun s =>
    { s with refillTick := max now s.refillTick,
             tenants := s.tenants.map fun x => (x.1, { (x.2.refill (now - x.2.tick)) with tick := max now x.2.tick }) }

/-! ### Submitting (R192, R193) -/

/-- A request's directory lies in its partition's DRAM (R193). -/
def Device.dirOk (d : Device) (k a : Nat) : Bool :=
  match d.place a with
  | .dram c o => (d.part k).chanList.contains c && decide (o + 384 ≤ (d.chan c).area)
  | _ => false

/-- The checks of a submitted entry: none, or the cause of failure, in order of precedence (R193). -/
def Device.submitCause (d : Device) (e : ReqEntry) : Option Nat :=
  let p := d.part (ReqEntry.part e)
  if (d.tenant (ReqEntry.tenant e)).quantum = 0 then some 7
  else if !(match p.image with | some im => im.serving | none => false) then some 8
  else if p.serving.nch ≤ ReqEntry.home e ∨ ReqEntry.maxTokens e = 0 ∨ ReqEntry.spec e = 3 then some 0xD
  else if !d.dirOk (ReqEntry.part e) (64 * ReqEntry.dirLine e) then some 9 else none

/-- A whole-entry write is refused (R192). -/
def Device.reqRefused (d : Device) (r : Nat) (e : ReqEntry) : Bool :=
  let c := d.req r
  let st := ReqEntry.state c
  let nst := ReqEntry.state e
  st == 1 || st == 2 || 2 ≤ nst ||
  (nst == 0 && (ReqEntry.tenant e != ReqEntry.tenant c || ReqEntry.part e != ReqEntry.part c || ReqEntry.dirLine e != ReqEntry.dirLine c))

/-- Put a request at the tail of its tenant queue. -/
def Device.enqueueReq (r : Nat) (e : ReqEntry) (d : Device) : Device :=
  d.updStarter fun s => { s with queues := Map.upd [] s.queues (4096 * ReqEntry.part e + ReqEntry.tenant e) fun q => q ++ [r] }

/-- Write an entry whole (R192, R193): whether it was refused. The reserved bit is ignored (R14). A shadow takes mirrored writes without
the checks (R333). -/
def Device.reqWrite (r : Nat) (e : ReqEntry) (mirrored : Bool) (d : Device) : Bool × Device :=
  let e := setBits 256 e 63 1 0
  if mirrored then (false, d.setReq r e)
  else if d.reqRefused r e then (true, d.countErr pgStarter errDenied)
  else if ReqEntry.state e = 1 then
    let e := ReqEntry.submitted e
    match d.submitCause e with
    | some c => (false, d.setReq r (ReqEntry.setState 6 c e))
    | none => (false, (d.setReq r e).enqueueReq r e)
  else (false, d.setReq r e)

/-- An 8-byte write of one word of an entry (R192): whether it was refused. A word out of order breaks the sequence; word 3 that does not
complete one is counted. -/
def Device.reqWord (srcId : W16) (i r w : Nat) (v : W64) (mirrored : Bool) (d : Device) : Bool × Device :=
  let st := d.starter.staged
  let mine := st.find? fun x => x.1 == r
  let drop : Device := d.updStarter fun s => { s with staged := s.staged.filter fun x => x.1 != r }
  let put (ws : List W64) : Device :=
    drop.updStarter fun s => { s with staged := s.staged ++ [(r, srcId, i, ws)] }
  let stray : Device := if w = 3 then drop.countErr pgStarter 0x0130 else drop
  if w = 0 then (false, put [v])
  else match mine with
    | none => (false, stray)
    | some (_, src, j, ws) =>
      if src = srcId ∧ j = i ∧ ws.length = w then
        if w = 3 then drop.reqWrite r (BitVec.ofNat 256 (wordsNat' (ws ++ [v]))) mirrored
        else (false, put (ws ++ [v]))
      else (false, stray)
where
  /-- Words as one number. -/
  wordsNat' (ws : List W64) : Nat := ws.foldr (fun w n => w.toNat + 2 ^ 64 * n) 0

/-- TEN_DATA3 (R437): replace the tenant entry; at most 64 tenants hold RABBIT (R196). Ticks since the last boundary are still to come. -/
def Device.opTenData3 (v : W32) (d : Device) : Device :=
  let s := d.starter
  let t := s.tenIndex
  let x := s.tenData0.toNat + s.tenData1.toNat * 2 ^ 32 + s.tenData2.toNat * 2 ^ 64 + v.toNat * 2 ^ 96
  let others := (s.tenants.filter fun e => e.1 != t && e.2.rabbit).length
  let want := bit x 96
  let tooMany := want && decide (64 ≤ others)
  let n : Tenant := { budget := signedField 32 x, rate := bits x 32 24, quantum := bits x 56 8, cap := bits x 64 31,
                      rabbit := want && !tooMany, tick := s.refillTick }
  let d := d.updStarter fun s => { s with tenData3 := v, tenants := Map.set {} s.tenants t n }
  if tooMany then d.countErr pgStarter 0x0132 else d

def execTenData3Write (v : W32) (s : State) : Host.Outcome State Fault Refusal := .next (s.on (Device.opTenData3 v))

/-! ### STEP (R197, R198) -/

/-- STEP on the commit pacer: boundary b_k is registered and counter 63 reads 0 until its work is complete. -/
def Device.opStep (p : Nat) (d : Device) : Device :=
  match d.commitOf p with
  | none => d
  | some k =>
    d.onIssue p 0x08 0 anyOpnd fun _ cfg d =>
      (d.setC63 k 0).updServing k fun v =>
        { v with stepCnt := v.stepCnt + 1, boundary := some (d.split, Cfg.bib cfg), applied := 0, expected := none, ended := [] }

def execStep (p : Nat) (s : State) : Host.Outcome State Fault Refusal := .next (s.on (Device.opStep p))

/-! ### Settlement of a step (R199 step 1, R204, R205, R207, R209) -/

/-- What a step record says of a slot (Table 8.8). -/
structure Settled where
  slot : Nat
  req : Nat
  tokens : List Nat := []
  late : Bool := false
  overrun : Bool := false
  deriving DecidableEq, Repr

/-- The longest agreeing prefix (R204). -/
def agree (ds ys : List Nat) : Nat := ((ds.zip ys).takeWhile fun x => x.1 == x.2).length

/-- The rabbit window after a step (R205): `inRabbit` when the step ran in MODE 2, with `j` drafts accepted. -/
def rabbitWindow (v : Serving) (inRabbit : Bool) (j : Nat) (e : ReqEntry) : ReqEntry :=
  let st := ReqEntry.winStep e
  if inRabbit then
    let acc := ReqEntry.winAcc e + j
    if st = 31 then
      if acc < v.rbThresh then ReqEntry.setWin 0 0 v.rbRearm (ReqEntry.setFallback true e) else ReqEntry.setWin 0 0 (ReqEntry.rearm e) e
    else ReqEntry.setWin (st + 1) acc (ReqEntry.rearm e) e
  else if ReqEntry.fallback e then
    if st = 31 then
      let r := ReqEntry.rearm e - 1
      ReqEntry.setWin 0 0 r (ReqEntry.setFallback (decide (r ≠ 0)) e)
    else ReqEntry.setWin (st + 1) (ReqEntry.winAcc e) (ReqEntry.rearm e) e
  else e

/-- MODE and NPROP of a request's next step in a DECODE partition (R204). -/
def Device.nextMode (d : Device) (v : Serving) (e : ReqEntry) : Nat × Nat :=
  if ReqEntry.spec e = 2 ∧ (d.tenant (ReqEntry.tenant e)).rabbit ∧ 0 < v.rabbitN ∧ !ReqEntry.fallback e then (2, v.rabbitN)
  else if 1 ≤ ReqEntry.spec e ∧ 0 < v.headsN then (1, v.headsN) else (0, 0)

/-- Little-endian words of 4 B. -/
def words4 (bs : List Byte) : List Nat := (chunks 4 bs.length bs).map leNat

/-- Prompt or first tokens of a request from its token array (R194): `n` tokens from position `i` on. -/
def Device.promptTokens (k : Nat) (e : ReqEntry) (i n : Nat) (d : Device) : List W32 × Device :=
  let (bs, d) := d.readBytes k (64 * ReqEntry.dirLine e + 384 + 4 * i) (4 * n)
  ((words4 bs).map (BitVec.ofNat 32), d)

/-- Settle one occupied slot at a boundary with split `tk` (R199 step 1). -/
def Device.settleSlot (k s : Nat) (tk : W64) (d : Device) : Settled × Device :=
  let x := Map.get {} (d.part k).serving.slotTab s
  let v := (d.part k).serving
  let r := x.req.getD 0
  let (e, d) := d.readReq r
  let base : Settled := { slot := s, req := r, overrun := x.overrun }
  if ReqEntry.state e ≠ 2 then (base, d)
  else if x.cancel then (base, d.stReq k r (ReqEntry.setState 5 6))
  else
    let (o, d) := d.readBytes k (v.outBase.toNat + 256 * s) 256
    let y := words4 (o.take 36)
    let eos := leNat ((o.drop 0x24).take 2)
    let draft := words4 ((o.drop 0x40).take 32)
    let left := ReqEntry.maxTokens e - ReqEntry.tokensOut e
    let expired := decide (ReqEntry.deadline e ≠ 0) && decide (ReqEntry.deadline e ≤ tk.toNat)
    let withheld := expired && !ReqEntry.latepol e
    let prefill := v.smode == 1
    let ds := if x.mode = 2 then draft.take x.nprop else ((x.tokens.drop 1).take x.nprop).map BitVec.toNat
    let j := if prefill then 0 else agree ds y
    let last := prefill && decide (ReqEntry.maxTokens e ≤ ReqEntry.tokensOut e + x.nin)
    let n0 := if prefill then b2n last else j + 1
    let endAt := (List.range n0).find? fun i => eos.testBit i
    let n1 := match endAt with | some i => i + 1 | none => n0
    let n := if prefill then n1 else min n1 left
    let ended := endAt.isSome
    let out := ReqEntry.tokensOut e + (if prefill then x.nin else n)
    let toks := if withheld then [] else y.take n
    let done := ended || decide (ReqEntry.maxTokens e ≤ out)
    let e1 := ReqEntry.setTokensOut out e
    let e2 := if !prefill then rabbitWindow v (x.mode == 2) j e1 else e1
    let e3 := if expired && ReqEntry.latepol e then ReqEntry.setLateSeen e2 else e2
    let e4 := if expired then ReqEntry.setState 4 4 e3 else if done then ReqEntry.setState 3 (if ended then 1 else 2) e3 else e3
    let d := d.updTenant (ReqEntry.tenant e) (Tenant.debit (if withheld then 0 else if prefill then x.nin else n))
    let d := d.stReq k r fun _ => e4
    let res : Settled := { base with tokens := toks, late := expired }
    if expired || done then (res, d)
    else if prefill then
      let m := min v.npos (ReqEntry.maxTokens e - out)
      let (ts, d) := d.promptTokens k e out m
      (res, d.updSlot k s fun x => { x with qpos := x.qpos + x.nin, nin := m, mode := 0, nprop := 0, tokens := ts, first := false,
                                            overrun := false })
    else
      let (md, m) := d.nextMode v e4
      let t0 := BitVec.ofNat 32 (y.getD (n - 1) 0)
      let heads := words4 ((o.drop (0x60 + 16 * j)).take 16)
      let rest : List W32 × Device :=
        if md = 1 then ((heads.take m).map (BitVec.ofNat 32), d)
        else if md = 2 then
          -- the rabbit drafts these positions itself; the record's words there are not stated (DESIGN CHOICE, log entry 5)
          (List.range m).foldl (fun (acc : List W32 × Device) _ => (acc.1 ++ [BitVec.ofNat 32 acc.2.draw.1], acc.2.draw.2)) ([], d)
        else ([], d)
      (res, rest.2.updSlot k s fun x => { x with qpos := x.qpos + n, nin := 1 + m, mode := md, nprop := m, tokens := t0 :: rest.1,
                                                 first := false, overrun := false })

/-- Settle every slot that ran, in ascending order. -/
def Device.settleSlots (k : Nat) (tk : W64) : List Nat → Device → List Settled × Device
  | [], d => ([], d)
  | s :: ss, d =>
    let (x, d) := d.settleSlot k s tk
    let (xs, d) := Device.settleSlots k tk ss d
    (x :: xs, d)

/-- Free the slots whose requests have become terminal (R199 step 2). -/
def Device.freeSlots (k : Nat) (d : Device) : Device :=
  d.updServing k fun v => { v with slotTab := v.slotTab.filter fun x => match x.2.req with
    | some r => ReqEntry.state (d.req r) == 2
    | none => false }

/-! ### Admission (R201) -/

/-- The lowest free slot of a home class, in a partition of `n` slots and `nch` classes. -/
def Serving.freeSlot (v : Serving) (home : Nat) : Option Nat :=
  (List.range v.slots).find? fun s => s % max v.nch 1 == home && (Map.get {} v.slotTab s).req.isNone

/-- Some slot is free. -/
def Serving.anyFree (v : Serving) : Bool := (List.range v.slots).any fun s => (Map.get {} v.slotTab s).req.isNone

/-- Search a queue's oldest requests: the one to seat with its slot; expired ones leave, and are returned. -/
def Device.searchQueue (k : Nat) (tk : W64) : List Nat → List Nat → Device → (Option (Nat × Nat) × List Nat) × Device
  | [], ex, d => ((none, ex), d)
  | r :: rs, ex, d =>
    let (e, d) := d.readReq r
    if ReqEntry.state e ≠ 1 then Device.searchQueue k tk rs ex d
    else if ReqEntry.deadline e ≠ 0 ∧ ReqEntry.deadline e ≤ tk.toNat then
      Device.searchQueue k tk rs (ex ++ [r]) ((d.unqueue r).stReq k r (ReqEntry.setState 4 3))
    else match (d.part k).serving.freeSlot (ReqEntry.home e) with
      | some s => ((some (r, s), ex), d)
      | none => Device.searchQueue k tk rs ex d

/-- A newly admitted request's first step (R201). -/
def Device.admitOne (k r s : Nat) (d : Device) : Device :=
  let v := (d.part k).serving
  let e := ReqEntry.setSlot s (ReqEntry.setState 2 0 (ReqEntry.setTokensOut 0 (ReqEntry.setWin 0 0 0 (ReqEntry.setFallback false (d.req r)))))
  let d := (d.unqueue r).stReq k r fun _ => e
  if v.smode = 1 then
    let m := min v.npos (ReqEntry.maxTokens e)
    let (ts, d) := d.promptTokens k e 0 m
    d.updSlot k s fun _ => { req := some r, qpos := ReqEntry.pos0 e, nin := m, mode := 0, first := true, tokens := ts }
  else
    let (ts, d) := d.promptTokens k e 0 1
    let rab := ReqEntry.spec e = 2 ∧ (d.tenant (ReqEntry.tenant e)).rabbit ∧ 0 < v.rabbitN
    let m := if rab then v.rabbitN else 0
    let rest : List W32 × Device :=
      (List.range m).foldl (fun (acc : List W32 × Device) _ => (acc.1 ++ [BitVec.ofNat 32 acc.2.draw.1], acc.2.draw.2)) ([], d)
    rest.2.updSlot k s fun _ => { req := some r, qpos := ReqEntry.pos0 e, nin := 1 + m, mode := if rab then 2 else 0, nprop := m,
                                  first := true, tokens := ts ++ rest.1 }

/-- Admit for one visit of tenant `t`, up to `fuel` requests: admitted count and expired requests. -/
def Device.visit (k t : Nat) (tk : W64) : Nat → Device → (Nat × List Nat) × Device
  | 0, d => ((0, []), d)
  | fuel + 1, d =>
    let v := (d.part k).serving
    if Map.get 0 v.deficits t = 0 ∨ !v.anyFree then ((0, []), d)
    else
      let q := (Map.get [] d.starter.queues (4096 * k + t)).take 16
      let ((pick, ex), d) := d.searchQueue k tk q []
      match pick with
      | none => ((0, ex), d)
      | some (r, s) =>
        let d := (d.admitOne k r s).updServing k fun v => { v with deficits := Map.upd 0 v.deficits t (· - 1) }
        let ((n, ex'), d) := Device.visit k t tk fuel d
        ((n + 1, ex ++ ex'), d)

/-- The deficit round robin (R201): admitted count and expired requests. -/
def Device.seatAll (k : Nat) (tk : W64) : Nat → Nat → Device → (Nat × List Nat) × Device
  | 0, _, d => ((0, []), d)
  | fuel + 1, idle, d =>
    let v := (d.part k).serving
    if !v.anyFree ∨ 4096 ≤ idle then ((0, []), d)
    else
      let t := v.rr
      let x := d.tenant t
      let eligible := 0 < x.quantum ∧ 0 < x.budget ∧ Map.get [] d.starter.queues (4096 * k + t) ≠ []
      let ((n, ex), d) : (Nat × List Nat) × Device :=
        if eligible then
          let d := d.updServing k fun v => { v with deficits := Map.upd 0 v.deficits t fun f => min (f + x.quantum) 511 }
          let (r, d) := d.visit k t tk 512
          let d := if Map.get [] d.starter.queues (4096 * k + t) = [] then
              d.updServing k fun v => { v with deficits := Map.set 0 v.deficits t 0 } else d
          (r, d)
        else ((0, []), d)
      let d := d.updServing k fun v => { v with rr := (t + 1) % 4096 }
      let ((n', ex'), d) := Device.seatAll k tk fuel (if 0 < n then 0 else idle + 1) d
      ((n + n', ex ++ ex'), d)

/-! ### Provisioning (R202) -/

/-- LIST_ADDR and PAGES of a request's sub-list on physical channel `c` (R129). -/
def Device.dirEntry (k : Nat) (e : ReqEntry) (c : Nat) (d : Device) : (Nat × Nat) × Device :=
  let (bs, d) := d.readBytes k (64 * ReqEntry.dirLine e + 16 * c) 10
  ((leNat (bs.take 6), leNat (bs.drop 8)), d)

/-- Provide one page number for a request (R202): none, or the cause of failure. -/
def Device.provisionPage (k r s n : Nat) (d : Device) : Option Nat × Device :=
  match (d.part k).image with
  | none => (none, d)
  | some im =>
    let e := d.req r
    let home := ReqEntry.home e
    let c := im.chans.getD home 0
    let v := (d.part k).serving
    let ((la, pages), d) := d.dirEntry k e c
    let ((lastPos, lastFrame), d) : (Option Nat × Nat) × Device :=
      if pages = 0 then ((none, 0), d)
      else let (bs, d) := d.readBytes k (la + 8 * (pages - 1)) 8
           ((some (pageEntryOf (leNat bs)).pos, (pageEntryOf (leNat bs)).frame), d)
    let x := Map.get {} v.slotTab s
    let valid := min 256 (x.qpos + x.nin - 256 * n)
    let entry (frame i : Nat) (d : Device) : Device := d.stWrite k (la + 8 * i) (leBytes 8 (frame + valid * 2 ^ 32 + n * 2 ^ 41))
    if lastPos = some n then (none, entry lastFrame (pages - 1) d)
    else
      let head := Map.get 0 v.poolHead home
      let len := max (Map.get 16 v.poolLen home) 1
      if head = Map.get 0 v.poolTail home then (some 0xA, d)
      else
        let (bs, d) := d.readBytes k (Map.get 0 v.poolBase home + 4 * head) 4
        let frame := leNat bs
        let d := d.updServing k fun v => { v with poolHead := Map.set 0 v.poolHead home ((head + 1) % len) }
        let area := (d.chan c).area
        if area < frame * 65536 + v.pageLen * 65536 then (some 9, d)
        else if la / 2 ^ 39 ≠ c ∨ area < la % 2 ^ 39 + 8 * pages + 8 then (some 9, d)
        else
          let d := d.stWrite k (64 * ReqEntry.dirLine e + 16 * c + 8) (leBytes 2 (pages + 1))
          (none, entry frame pages d)

/-- Provision the page numbers of a slot in ascending order; stop at a failure. -/
def Device.provisionPages (k r s : Nat) : List Nat → Device → Option Nat × Device
  | [], d => (none, d)
  | n :: ns, d =>
    match d.provisionPage k r s n with
    | (none, d) => Device.provisionPages k r s ns d
    | (some c, d) => (some c, d)

/-- Provision one slot (R202): a request that cannot be provisioned becomes FAILED and its slot is EMPTY. -/
def Device.provisionSlot (k s : Nat) (d : Device) : List Nat × Device :=
  let x := Map.get {} (d.part k).serving.slotTab s
  match x.req with
  | none => ([], d)
  | some r =>
    let lo := x.qpos / 256
    let hi := (x.qpos + x.nin - 1) / 256
    let ns := if x.nin = 0 then [] else (List.range (hi + 1 - lo)).map (lo + ·)
    match d.provisionPages k r s ns with
    | (none, d) => ([], d)
    | (some c, d) =>
      ([r], (d.stReq k r (ReqEntry.setState 6 c)).updServing k fun v => { v with slotTab := v.slotTab.filter fun y => y.1 != s })

/-- The starter's write of one BME slot table entry, with fresh check bits (R130). -/
def Device.writeSlotEntry (c s : Nat) (e : SlotEntry) (d : Device) : Device :=
  ((d.updBme c fun b => { b with slots := Map.set {} b.slots s e }).clearUpset (.bme c 5 (2 * s))).clearUpset (.bme c 5 (2 * s + 1))

/-- Write the slot tables of every BME of the partition (R130, R199 step 5). -/
def Device.writeSlotTables (k : Nat) (d : Device) : Device :=
  let v := (d.part k).serving
  d.forAll (d.part k).chanList fun c d =>
    (List.range v.slots).foldl (fun d s =>
      match (Map.get {} v.slotTab s).req with
      | none => d.writeSlotEntry c s {}
      | some r =>
        let ((la, pages), d) := d.dirEntry k (d.req r) c
        d.writeSlotEntry c s { listAddr := BitVec.ofNat 48 la, pages := pages,
                               qpos := BitVec.ofNat 31 (Map.get {} v.slotTab s).qpos, empty := false }) d

/-- The input record of a slot (Table 8.5); fields of an EMPTY slot that the table does not state are free (DESIGN CHOICE, log entry 5). -/
def Device.inputRecord (k s : Nat) (d : Device) : List Byte × Device :=
  let v := (d.part k).serving
  let x := Map.get {} v.slotTab s
  match x.req with
  | some r =>
    (leBytes 4 (x.qpos % 2 ^ 31) ++ leBytes 2 x.nin ++ leBytes 1 x.mode ++ leBytes 1 (b2n x.first) ++ leBytes 4 r ++
      leBytes 2 x.nprop ++ leBytes 2 0 ++ ((List.range v.npos).map fun i => leBytes 4 ((x.tokens.getD i 0).toNat)).flatten, d)
  | none =>
    let (f, d) := d.draw
    (leBytes 4 (f % 2 ^ 31 + 2 ^ 31) ++ leBytes 2 0 ++ leBytes 1 0 ++ leBytes 1 0 ++ leBytes 4 (f / 2 ^ 31 % 2 ^ 20) ++ leBytes 2 0 ++
      leBytes 2 0 ++ leBytes (4 * v.npos) 0, d)

/-- Write the input records of every slot (R199 step 5). -/
def Device.writeInputs (k : Nat) (d : Device) : Device :=
  let v := (d.part k).serving
  (List.range v.slots).foldl (fun d s =>
    let (bs, d) := d.inputRecord k s
    d.stWrite k (v.inBase.toNat + s * v.inStride) bs) d

/-! ### Step records (R206) -/

/-- The bytes of one entry of a step record (Table 8.8). -/
def Device.settledBytes (d : Device) (slot : Nat) (x : Settled) : List Byte :=
  let e := d.req x.req
  let info := x.req % 2 ^ 20 + x.tokens.length % 16 * 2 ^ 20 + ReqEntry.state e * 2 ^ 24 + b2n x.late * 2 ^ 28 + b2n x.overrun * 2 ^ 29 +
    b2n (ReqEntry.fallback e) * 2 ^ 30
  leBytes 4 info ++ leBytes 2 (ReqEntry.tag e) ++ leBytes 2 slot ++
    ((List.range 9).map fun i => leBytes 4 (x.tokens.getD i 0)).flatten ++ leBytes 4 0

/-- Send bytes as unplanned PUTs of at most 4 KiB (R206). -/
def Device.sendPuts (k : Nat) (dst : Nat) (part : Nat) (epoch : W16) (cc : Nat) (bs : List Byte) (d : Device) : Device :=
  let ps := chunks 4096 (bs.length / 4096 + 1) bs
  ((List.range ps.length).zip ps).foldl (fun d x => d.sendPut k (BitVec.ofNat 64 (dst + 4096 * x.1)) part epoch cc x.2) d

/-- The step record of step k - 1 (R206). -/
def Device.stepRecord (k : Nat) (tk : W64) (bib : W32) (xs : List Settled) (extra : List Nat) (admitted : Nat) (d : Device) : Device :=
  let v := (d.part k).serving
  if v.stepCnt.toNat < 2 then d
  else
    let ex := (List.range 1048576).filter extra.contains
    let n := xs.length + ex.length
    let hdr := leBytes 8 tk.toNat ++ leBytes 4 bib.toNat ++ leBytes 2 (d.pcid k).toNat ++ leBytes 2 n ++ leBytes 8 (v.stepCnt.toNat - 1) ++
      leBytes 4 (64 + 48 * n) ++ leBytes 4 admitted ++ leBytes 32 0
    let body := (xs.map fun x => d.settledBytes x.slot x).flatten ++ (ex.map fun r => d.settledBytes 0x1FFF { slot := 0, req := r }).flatten
    let bytes := hdr ++ body
    let pos := if v.recLen < v.recPos + bytes.length then 0 else v.recPos
    (d.sendPuts k (v.recDest.toNat + pos) v.recPart v.recEpoch v.recCc bytes).updServing k fun v => { v with recPos := pos + bytes.length }

/-! ### Mirroring of a boundary and followers (Table 13.2, R212, R333) -/

/-- Send a mirror unit of a primary to its shadow (R332): the destination counter of a unit that a boundary makes is not
stated (DESIGN CHOICE, log entry 5). -/
def Device.mirrorPut (k a : Nat) (mir : Bool) (cc wslot : Nat) (bs : List Byte) (d : Device) : Device :=
  let sh := (d.part k).shadow
  d.originate none { kind := .put, mir := mir, dstPart := sh.peerPart, srcPart := k, dstId := sh.peerDev, dstEpoch := sh.epoch,
                     addr := a, srcEpoch := (d.part k).epoch, len := bs.length, dstCc := cc, wslot := wslot, payload := bs }

/-- 16 B of a slot table entry (R130). -/
def SlotEntry.bytes (e : SlotEntry) : List Byte :=
  leBytes 6 e.listAddr.toNat ++ leBytes 2 0 ++ leBytes 2 e.pages ++ leBytes 2 0 ++ leBytes 4 (e.qpos.toNat + b2n e.empty * 2 ^ 31)

/-- Mirror what boundary work wrote, then MIRROR_DONE (Table 13.2). -/
def Device.mirrorBoundary (k : Nat) (d : Device) : Device :=
  let p := d.part k
  if p.shadow.role ≠ 1 then d
  else
    let v := p.serving
    let (cc, d) := d.draw
    let cc := cc % 63
    let d := v.wrote.foldl (fun d l =>
      let (bs, d) := d.readBytes k (64 * l) 64
      d.mirrorPut k (64 * l) false cc 0 bs) d
    let d := v.touched.foldl (fun d r => d.mirrorPut k (0x0E0000000000 + 32 * r) false cc 0 (leBytes 32 (d.req r).toNat)) d
    let groups := (v.slots + 255) / 256
    let d := d.forAll p.chanList fun c d => d.forAll (List.range groups) fun g d =>
      let n := min 256 (v.slots - 256 * g)
      let bs := ((List.range n).map fun i => SlotEntry.bytes (Map.get {} (d.bme c).slots (256 * g + i))).flatten
      d.mirrorPut k (2 * 2 ^ 40 + c + 256 * g * 2 ^ 5) true cc 0 bs
    let count := v.wrote.length + v.touched.length + p.chanList.length * groups
    d.sendCell k p.shadow.peerDev p.shadow.peerPart p.shadow.epoch (.mirrorDone v.stepCnt count)

/-- The pairs of FOLLOWERS (Table 19.10). -/
def Serving.followList (v : Serving) : List (W16 × Nat) :=
  v.followers.filterMap fun e => if e.2.toNat.testBit 19 then some (BitVec.ofNat 16 e.2.toNat, bits e.2.toNat 16 3) else none

/-- The lead's cells after admission (R212): one SLOT_SET with OCC clear for each request that has left its slot at the boundary, one for
each slot of the step, then STEP_DONE. The epoch of a follower's partition is not stated (DESIGN CHOICE, log entry 5). -/
def Device.tellFollowers (k : Nat) (freed : List (Nat × Nat)) (d : Device) : Device :=
  let v := (d.part k).serving
  let step := v.stepCnt.toNat
  v.followList.foldl (fun d f =>
    let (ep, d) := d.draw
    let ep := BitVec.ofNat 16 ep
    let occ := v.slotTab.filterMap fun x => x.2.req.map fun r => (x.1, r, x.2)
    let gone := freed.filter fun x => !(occ.any fun o => o.1 == x.1 && o.2.1 == x.2)
    let d := gone.foldl (fun d x => d.sendCell k f.1 f.2 ep (.slotSet f.2 x.1 x.2 0 false (ReqEntry.state (d.req x.2)) 0 step)) d
    let d := occ.foldl (fun d x => d.sendCell k f.1 f.2 ep (.slotSet f.2 x.1 x.2.1 x.2.2.qpos true 2 x.2.2.nin step)) d
    d.sendCell k f.1 f.2 ep (.stepDone f.2 (occ.length + gone.length) step)) d

/-- Boundary work is complete: counter 63 reads 1, every occupied slot has a step to run (R198, R199 step 6). -/
def Device.boundaryDone (k : Nat) (d : Device) : Device :=
  (d.setC63 k 1).updServing k fun v =>
    { v with boundary := none, wrote := [], touched := [], ended := [],
             slotTab := v.slotTab.map fun x => (x.1, { x.2 with ran := true, overrun := false }) }

/-- Settle what a follower's boundary waits for (R212). -/
def Device.followCheck (k : Nat) (d : Device) : Device :=
  let v := (d.part k).serving
  match v.boundary with
  | some (tk, bib) =>
    if v.smode == 2 && v.expected == some v.applied then
      let xs := (List.range v.slots).filterMap fun s =>
        match v.ended.find? fun x => x.1 == s with
        | some x => some ({ slot := s, req := x.2.1, overrun := x.2.2 } : Settled)
        | none =>
          let y := Map.get {} v.slotTab s
          if y.ran then y.req.map fun r => ({ slot := s, req := r, overrun := y.overrun } : Settled) else none
      ((d.stepRecord k tk bib xs [] 0).mirrorBoundary k).boundaryDone k
    else d
  | none => d

/-- How many of the `n` units that a source sent in its stream before the one numbered `q` are there: the mirrored units of the boundary
that a MIRROR_DONE with SEQ `q` ends (R333; DEDUCED, log entry 54). -/
def mirroredOf (got : List (W16 × W32)) (src : W16) (q : W32) (n : Nat) : Nat :=
  got.countP fun x => x.1 == src && decide (1 ≤ (q - x.2).toNat) && decide ((q - x.2).toNat ≤ n)

/-- Settle what a shadow's boundary waits for (R333): MIRROR_DONE of its step, and every unit that the cell states. The step record that
its starter would send is one more unit that its transport discards (R334; DEDUCED, log entry 54). -/
def Device.shadowCheck (k : Nat) (d : Device) : Device :=
  let v := (d.part k).serving
  match v.boundary, v.mirrorExpect.find? fun m => m.1.1 == v.stepCnt with
  | some _, some m =>
    if (d.part k).shadow.role = 2 ∧ mirroredOf v.mirrored m.2.1 m.2.2 m.1.2 = m.1.2 then
      ((if v.stepCnt.toNat < 2 then d else d.suppress k).boundaryDone k).updServing k fun v =>
        { v with mirrorExpect := v.mirrorExpect.filter fun x => decide (m.1.1.toNat < x.1.1.toNat),
                 mirrored := v.mirrored.filter fun x => x.1 != m.2.1 || (m.2.2 - x.2).msb }
    else d
  | _, _ => d

/-- The boundary work of b_k (R199): settle, free, refill, seat, provision, write slot tables and input records, send the
step record, and set counter 63. -/
def Device.opStepBoundary (k : Nat) (d : Device) : Device :=
  let v0 := (d.part k).serving
  match v0.boundary with
  | none => d
  | some (tk, bib) =>
    if (d.part k).shadow.role = 2 then d.shadowCheck k
    else if v0.smode = 2 then d.followCheck k
    else
      let ran := (v0.slotTab.filter fun x => x.2.req.isSome).map (·.1)
      let (xs, d) := d.settleSlots k tk ran
      let d := (d.freeSlots k).refillAll tk
      let ((n, expired), d) := d.seatAll k tk ((v0.slots + 1) * 4097) 0
      let occ := ((d.part k).serving.slotTab.filter fun x => x.2.req.isSome).map (·.1)
      let (failed, d) := occ.foldl (fun (acc : List Nat × Device) s =>
        let (f, d) := acc.2.provisionSlot k s
        (acc.1 ++ f, d)) (([] : List Nat), d)
      let d := ((d.writeSlotTables k).writeInputs k)
      let extra := expired ++ failed.filter fun r => !(xs.any fun x => x.req == r)
      let d := d.stepRecord k tk bib xs extra n
      let d := d.tellFollowers k (xs.map fun x => (x.slot, x.req))
      (d.mirrorBoundary k).boundaryDone k

def execStepBoundary (k : Nat) (s : State) : Host.Outcome State Fault Refusal := .next (s.on (Device.opStepBoundary k))

/-! ### Cancels (R208, R209) -/

/-- Serve a cancel: its result code. A follower's request ends only through the lead (R212): the cancel changes nothing, and its result is
not stated (DESIGN CHOICE, log entry 5). -/
def Device.serveCancel (r : Nat) (tag : W16) (d : Device) : Nat × Device :=
  let (e, d) := d.readReq r
  if ReqEntry.state e = 0 ∨ ReqEntry.tag e ≠ tag.toNat then (3, d)
  else if terminalState (ReqEntry.state e) then (2, d)
  else if (d.part (ReqEntry.part e)).serving.smode = 2 then (d.draw.1 % 5, d.draw.2)
  else if ReqEntry.state e = 1 then (0, (d.unqueue r).setReq r (ReqEntry.setState 5 5 e))
  else match d.slotOf r with
    | some (k, s) =>
      if (Map.get {} (d.part k).serving.slotTab s).cancel then (4, d) else (1, d.updSlot k s fun x => { x with cancel := true })
    | none => (3, d)

/-- Give a cancel's result: in the registers, or in a CANCEL_RESULT cell to its source (R208). The epoch that a response
cell carries is not stated (DESIGN CHOICE, log entry 5). -/
def Device.cancelReply (r : Nat) (tag : W16) (res : Nat) (from_ : Option (Nat × XUnit)) (d : Device) : Device :=
  match from_ with
  | none => (d.updStarter fun s => { s with cancelResult := res, resReq := r, cancelValid := true }).setIntBit pgStarter 1
  | some (i, u) =>
    let (ep, d) := d.draw
    d.originate (if d.hostMode i then some i else none)
      { kind := .cell, dstPart := u.srcPart, srcPart := u.dstPart, dstId := u.srcId, dstEpoch := BitVec.ofNat 16 ep,
        body := .cancelResult r tag res }

/-- Register a cancel (R208): it waits for boundary work of the request's partition that is under way, and for every cancel registered
before it. -/
def Device.registerCancel (r : Nat) (tag : W16) (from_ : Option (Nat × XUnit)) (d : Device) : Device :=
  let e := d.req r
  let k := ReqEntry.part e
  if (d.part k).serving.boundary.isSome ∨ !d.starter.cancels.isEmpty then
    d.updStarter fun s => { s with cancels := s.cancels ++ [(k, r, tag, from_)] }
  else
    let (res, d) := d.serveCancel r tag
    d.cancelReply r tag res from_

/-- A write of CANCEL_TAG (R208, R428): refused while the cancel before it is unsettled. -/
def Device.opCancelReq (tag : W16) (d : Device) : Device :=
  if d.starter.cancels.any fun x => x.2.2.2.isNone then d.countErr pgStarter errState
  else (d.updStarter fun s => { s with cancelValid := false }).registerCancel d.starter.cancelReq tag none

def execCancelReq (tag : W16) (s : State) : Host.Outcome State Fault Refusal := .next (s.on (Device.opCancelReq tag))

/-- Serve the oldest cancel that waits, when it concerns partition `k` and that partition's boundary work is complete (R208). -/
def Device.opCancelDeferred (k : Nat) (d : Device) : Device :=
  match d.starter.cancels with
  | (j, r, tag, from_) :: rest =>
    if j = k ∧ (d.part k).serving.boundary.isNone then
      let d := d.updStarter fun s => { s with cancels := rest }
      let (res, d) := d.serveCancel r tag
      d.cancelReply r tag res from_
    else d
  | [] => d

def execCancelDeferredServe (k : Nat) (s : State) : Host.Outcome State Fault Refusal := .next (s.on (Device.opCancelDeferred k))

/-! ### Cells of followers and shadows (R212, R333) -/

/-- FOLLOW: the request of a slot leaves it; when it ran the step that ended, the step record lists it (R206). -/
def Device.leaveSlot (k slot : Nat) (d : Device) : Device :=
  let x := Map.get {} (d.part k).serving.slotTab slot
  match x.req with
  | some r => if x.ran then d.updServing k fun v => { v with ended := v.ended ++ [(slot, r, x.overrun)] } else d
  | none => d

/-- SLOT_SET at a FOLLOW starter: a slot of its current step; another step is discarded and counted. -/
def Device.applySlotSet (k slot r qpos : Nat) (occ : Bool) (st nin step : Nat) (d : Device) : Device :=
  let v := (d.part k).serving
  if v.smode ≠ 2 ∨ v.boundary.isNone ∨ step ≠ v.stepCnt.toNat % 2 ^ 32 then d.countErr (pgStarterP k) 0x0131
  else
    let old := Map.get {} v.slotTab slot
    let d :=
      if occ then
        let (f, d) := d.draw
        let d := (d.unqueue r).updReq r fun e => ReqEntry.setSlot slot (ReqEntry.setState 2 0 e)
        let d := if old.req = some r then d else d.leaveSlot k slot
        d.updSlot k slot fun x =>
          { req := some r, qpos := qpos, nin := nin, mode := f % 3, nprop := nin - 1, first := x.req != some r,
            ran := x.ran && x.req == some r, overrun := x.overrun && x.req == some r,
            tokens := (List.range nin).map fun i => BitVec.ofNat 32 (f / 3 / 2 ^ (32 * i)) }
      else
        let (f, d) := d.draw
        let cause := if st = 3 then 1 + f % 2 else if st = 4 then 4 else if st = 5 then 6 else f % 16
        let d := (d.unqueue r).updReq r (ReqEntry.setState st cause)
        -- the slot may hold its next request already: no order is kept between cells (R306)
        if old.req.isNone ∨ old.req = some r then
          (d.leaveSlot k slot).updServing k fun v => { v with slotTab := v.slotTab.filter fun x => x.1 != slot }
        else d
    let keep := !occ && old.req.isSome && old.req != some r
    let d := if keep then d else d.forAll (d.part k).chanList fun c d =>
      if occ then
        let ((la, pages), d) := d.dirEntry k (d.req r) c
        d.writeSlotEntry c slot { listAddr := BitVec.ofNat 48 la, pages := pages, qpos := BitVec.ofNat 31 qpos, empty := false }
      else d.writeSlotEntry c slot {}
    let v := (d.part k).serving
    let (bs, d) := d.inputRecord k slot
    let d := d.stWrite k (v.inBase.toNat + slot * v.inStride) bs
    (d.updServing k fun v => { v with applied := v.applied + 1 }).followCheck k

/-- STEP_DONE at a FOLLOW starter. -/
def Device.applyStepDone (k count step : Nat) (d : Device) : Device :=
  let v := (d.part k).serving
  if v.smode ≠ 2 ∨ v.boundary.isNone ∨ step ≠ v.stepCnt.toNat % 2 ^ 32 then d.countErr (pgStarterP k) 0x0131
  else (d.updServing k fun v => { v with expected := some count }).followCheck k

/-- MIRROR_DONE at a shadow's starter (R333). -/
def Device.applyMirrorDone (k : Nat) (step : W64) (count : Nat) (src : W16) (seq : W32) (d : Device) : Device :=
  if (d.part k).shadow.role ≠ 2 then d
  else (d.updServing k fun v => { v with mirrorExpect := v.mirrorExpect ++ [((step, count), src, seq)] }).shadowCheck k

end Sys2Proof.Machine
end

