-- ==== Sys2Proof/Machine/Tile.lean ====
section
/-! DEFINITION. Tile operations (R58 to R77, Tables 3.2, 3.3, 3.7, 4.6): the stream engine, array passes, accumulators,
readouts, long-adds and mode changes. A result is written when its latency has passed (R83). -/

namespace Sys2Proof.Machine

/-! ### Results under way -/

/-- All 128 lanes of a vector register. -/
def Tile.vreg (t : Tile) (r : Nat) : List W32 := (List.range 128).map fun i => Map.get 0 t.vregs (128 * (r % 32) + i)

/-- Write lanes of a vector register from lane `lo` on. -/
def Tile.setVreg (r lo : Nat) (xs : List W32) (t : Tile) : Tile :=
  { t with vregs := ((List.range xs.length).zip xs).foldl (fun m x => Map.set 0 m (128 * (r % 32) + lo + x.1) x.2) t.vregs }

/-- Bank of a line of array memory, by window offset ÷ 64. -/
def lineBank (idx : Nat) : Nat := idx / 8192 % 16
/-- A line in the hole of its bank slot (R61). -/
def lineHole (idx : Nat) : Bool := 0x60000 ≤ 64 * idx % 2 ^ 19

/-- A bank accepts beats in cycle `c`: stream mode and no mode change (R65, R66). -/
def Tile.streamBank (t : Tile) (b c : Nat) : Bool := !t.compute.getLsbD b && decide (Map.get 0 t.modeBusy b ≤ c)
/-- A bank accepts passes in cycle `c`. -/
def Tile.computeBank (t : Tile) (b c : Nat) : Bool := t.compute.getLsbD b && decide (Map.get 0 t.modeBusy b ≤ c)

/-- The accesses of cycle `c` that a tile's guards have let through. -/
def Tile.used (t : Tile) (c : Nat) : List (Nat × Nat) := if t.useCyc = c then t.uses else []

/-- What is left of a result when the read beat of channel `prio` in cycle `c` is taken back: a vector load keeps the lines of its other
channels. -/
def TPend.unread (prio c : Nat) (e : TPend) : Option TPend :=
  match e.w with
  | .load r fmt m ls sc =>
    if e.at_ ≠ c then some e
    else if (ls.filter fun l => l.1 != prio).isEmpty then none
    else some { e with w := .load r fmt m (ls.filter fun l => l.1 != prio) sc }
  | .stage _ => if e.at_ = c ∧ e.ch = some prio then none else some e
  | _ => some e

/-- A line that the write beat of channel `prio` in cycle `c` has made. -/
def TPend.wrote (prio c : Nat) (e : TPend) : Bool :=
  match e.w with
  | .line _ _ => e.at_ == c && e.ch == some prio
  | _ => false

/-- Take back what an access let through in cycle `c` has made: a read beat's line, a write beat's line, or a readout with the
row it read (R79). -/
def Tile.unuse (key prio c : Nat) (t : Tile) : Tile :=
  let t := { t with uses := t.uses.filter fun u => u.1 != key }
  if key < 16 then
    { t with arr := t.arr.filter fun a => !(a.due == c + 5 && a.ch == prio), pend := t.pend.filterMap (TPend.unread prio c) }
  else if key < 32 then { t with pend := t.pend.filter fun e => !e.wrote prio c }
  else match t.readRow with
    | some (c', row, accs) =>
      if c' = c then
        { t with accs := ((List.range 64).zip accs).foldl (fun m x => Map.set {} m (64 * row + x.1) x.2) t.accs,
                 outs := t.outs.filter fun e => decide (e.1 < c + 4),
                 pend := t.pend.filter fun e => match e.w with
                   | .half _ _ _ => e.due != c + 4
                   | _ => true }
      else t
    | none => t

/-- Port guards (R79): `key` names what one access of a cycle takes: 0 to 15 the read port of a bank, 16 to 31 its write
port, 32 pass logic, 33 readout, 34 ALU issue, 35 special-function issue, 64 + r accumulator row r; `prio` is its place in the
fixed priority: a channel's number, or 0 for a pass and 1 for a readout. A second access raises PORT_CONFLICT; the one that
comes first by priority is let through and the other blocked, also where that one came first in the queue. Two ALU operations of one cycle,
or two READOUTs of one cycle to different places, break no condition of Table 3.4, so that the load gate accepts them: the guard
blocks the later one in the queue (DESIGN CHOICE, log entry 47). -/
def Device.guardPort (t key prio c : Nat) (d : Device) : Bool × Device :=
  let here := (d.tile t).used c
  let take (d : Device) : Device := d.updTile t fun x => { x with useCyc := c, uses := x.used c ++ [(key, prio)] }
  match here.find? fun u => u.1 == key with
  | none => (true, take d)
  | some u =>
    let d := d.raisePacer t 0x0103 3 0 (leBytes 1 (if key < 32 then 0 else if key = 34 ∨ key = 35 then 2 else 1))
    if prio < u.2 then
      let d := d.updTile t (Tile.unuse key u.2 c)
      (true, take { d with net := { d.net with flits := if key < 16 then d.net.flits.filter fun f => !(f.src == t && f.sent == c) else d.net.flits } })
    else (false, d)

/-- The vector register that a result is for, with the first lane of a half. -/
def TWrite.dest : TWrite → Option (Nat × Option Nat)
  | .vreg r _ | .load r _ _ _ _ => some (r, none)
  | .half r lo _ => some (r, some lo)
  | _ => none

/-- Two results meet at the vector register file's guard (R79, TPC-13): one write port or one register in one cycle. -/
def TPend.meets (e q : TPend) : Bool :=
  q.due == e.due && match e.w.dest, q.w.dest with
    | some (r, lo), some (r', lo') => q.port == e.port || (r' == r && (lo'.isNone || lo.isNone || lo' == lo))
    | _, _ => false

/-- Of two results that meet, `e` comes first by the fixed priority: both are vector loads, and its lowest channel is lower (R79). Between
other results the rule names no order, and the one that issued first stands (DESIGN CHOICE, log entry 47). -/
def TPend.first (e q : TPend) : Bool :=
  match e.ch, q.ch with
  | some a, some b => decide (a < b)
  | _, _ => false

/-- Add the results of one operation. Of two writes of the vector register file's port or register in one cycle one is blocked. -/
def Device.addPends (t : Nat) (es : List TPend) (d : Device) : Device :=
  let clash := (d.tile t).pend.filter fun q => es.any fun e => e.meets q
  if clash.isEmpty then d.updTile t fun x => { x with pend := x.pend ++ es }
  else
    let d := d.raisePacer t 0x0103 3 0 (leBytes 1 2)
    if es.all fun e => clash.all e.first then d.updTile t fun x => { x with pend := x.pend.filter (fun q => !clash.contains q) ++ es } else d

/-- Add one result under way. -/
def Device.addPend (t : Nat) (e : TPend) (d : Device) : Device := d.addPends t [e]

/-- A write beat on channel `ch` (R76): its line, readable three cycles later (Table 3.7). -/
def Device.writeBeat (t ch c : Nat) (cfg : Cfg) (l : Line) (d : Device) : Device :=
  let n := Map.get 0 (d.tile t).wrBeat ch
  let idx := cfg.wrBeat ch n
  let d := d.updTile t fun x => { x with wrBeat := Map.set 0 x.wrBeat ch (n + 1) }
  if lineHole idx || !(d.tile t).streamBank (lineBank idx) c then d
  else
    let (ok, d) := d.guardPort t (16 + lineBank idx) ch c
    if ok then d.addPend t { due := c + 3, w := .line idx l, ch := some ch, at_ := c } else d

/-- The lines of an operation that takes `n` lines on the channels of `chmask`, in ascending order of channel: none where fewer channels
are named, or where a channel's line has not arrived. -/
def expectLines (n chmask : Nat) (ls : List (Nat × Line)) : List (Option Line) :=
  (List.range n).map fun i => ((maskList 8 chmask)[i]?).bind fun ch => (ls.find? fun l => l.1 == ch).map (·.2)

/-- Lines in their places, a free value for each that is not there (DESIGN CHOICE, log entry 5). -/
def Device.fillLines : List (Option Line) → Device → List Line × Device
  | [], d => ([], d)
  | some l :: ls, d => let (xs, d) := Device.fillLines ls d; (l :: xs, d)
  | none :: ls, d => let (xs, e) := Device.fillLines ls d.draw.2; (BitVec.ofNat 512 d.draw.1 :: xs, e)

/-- Lines as one little-endian number, the first lowest. -/
def linesNat (ls : List Line) : Nat := ls.foldr (fun l n => l.toNat + 2 ^ 512 * n) 0

/-- Perform one result of a tile that is due. -/
def Device.applyPend (t : Nat) (e : TPend) (d : Device) : Device :=
  match e.w with
  | .vreg r xs => d.updTile t (Tile.setVreg r 0 xs)
  | .half r lo xs => d.updTile t (Tile.setVreg r lo xs)
  | .load r fmt m ls sc =>
    let (xs, d) := d.fillLines (expectLines (fmtLines fmt) m ls)
    d.updTile t (Tile.setVreg r 0 (loadLanes fmt (linesNat xs) sc))
  | .line idx l => d.writeTileLine t idx l
  | .stage l => d.updTile t fun x => { x with staging := Line.bytes l }
  | .beat ch cfg l => d.writeBeat t ch e.due cfg l

/-- Insert by due cycle, behind entries of the same cycle. -/
def insertDue (e : TPend) : List TPend → List TPend
  | [] => [e]
  | h :: t => if h.due ≤ e.due then h :: insertDue e t else e :: h :: t

/-- Perform the results due by cycle `c`, in the order of their cycles; a write beat adds its line's own result, so a
second round follows. -/
def Device.settleOnce (t c : Nat) (d : Device) : Device :=
  let ps := (d.tile t).pend
  let due := (ps.filter fun e => decide (e.due ≤ c)).foldl (fun l e => insertDue e l) []
  let d := d.updTile t fun x => { x with pend := ps.filter fun e => !decide (e.due ≤ c), arr := x.arr.filter fun a => decide (c ≤ a.due + 1) }
  due.foldl (fun d e => d.applyPend t e) d

/-- Bring a tile up to cycle `c` (R83). -/
def Device.settleTile (t c : Nat) (d : Device) : Device := (d.settleOnce t c).settleOnce t c

/-- Every result of a tile lands: nothing of its plan is under way any longer. -/
def Device.settleAll (t : Nat) (d : Device) : Device := ((d.settleOnce t (2 ^ 64)).settleOnce t (2 ^ 64)).updTile t fun x => { x with arr := [], outs := [] }

/-- Issue number `n` of a tile operation, with the tile brought up to the issue cycle first. -/
def Device.tileIssue (p op n : Nat) (ok : Nat → Bool) (f : Nat → Cfg → Nat → Device → Device) (d : Device) : Device :=
  if p < 208 then d.onIssue p op n ok fun o cfg d => let c := d.now p; f o cfg c (d.settleTile p c) else d

/-! ### Read beats -/

/-- A read beat on channel `ch` (R76, R63): the line, or none when the bank gives no access. -/
def Device.readBeat (t ch c : Nat) (cfg : Cfg) (d : Device) : Option Line × Device :=
  let n := Map.get 0 (d.tile t).rdBeat ch
  let idx := cfg.rdBeat ch n
  let d := d.updTile t fun x => { x with rdBeat := Map.set 0 x.rdBeat ch (n + 1) }
  if lineHole idx || !(d.tile t).streamBank (lineBank idx) c then (none, d)
  else
    let (ok, d) := d.guardPort t (lineBank idx) ch c
    if ok then let (l, d) := d.readTileLine t idx (Cfg.bib cfg); (some l, d) else (none, d)

/-- One read beat on every channel of a list: the lines that arrive, by channel. -/
def Device.readBeats (t c : Nat) (cfg : Cfg) : List Nat → Device → List (Nat × Line) × Device
  | [], d => ([], d)
  | ch :: chs, d =>
    let (l, d) := d.readBeat t ch c cfg
    let (ls, d) := Device.readBeats t c cfg chs d
    match l with
    | some l => ((ch, l) :: ls, d)
    | none => (ls, d)

/-- Take the next `n` scale bytes of the staging register (R72); bytes it does not hold are free values (DESIGN CHOICE, log entry 5). -/
def Device.takeScales (t n : Nat) (d : Device) : List Nat × Device :=
  let st := (d.tile t).staging
  let have_ := (st.take n).map BitVec.toNat
  let d := d.updTile t fun x => { x with staging := st.drop n }
  if st.length < n then (have_ ++ (leBytes (n - st.length) d.draw.1).map BitVec.toNat, d.draw.2) else (have_, d)

/-- RDB (Table 4.6, R77): one read beat on every channel of CHMASK, to the destination. Of a vector load whose CHMASK names fewer channels
than Table 3.3 gives its format lines, the lanes of the lines not there are free values (DESIGN CHOICE, log entry 5); one with no
line at all writes nothing. -/
def Device.opRdb (p n : Nat) (d : Device) : Device :=
  d.tileIssue p 0x10 n anyOpnd fun o cfg c d =>
    let f := rdbFields o
    let (ls, d) := d.readBeats p c cfg (maskList 8 f.chmask)
    match f.dest with
    | 0 => d.updTile p fun t => { t with arr := t.arr ++ ls.map fun x => { due := c + 5, ch := x.1, data := x.2 } }
    | 1 => ls.foldl (fun d x => d.addPend p { due := c + 5, w := .stage x.2, ch := some x.1, at_ := c }) d
    | 2 =>
      let (sc, d) := d.takeScales p (if fmtMx f.fmt then 4 else 0)
      if ls.isEmpty then d
      else d.addPend p { due := c + 7, w := .load ((f.vreg + n) % 32) f.fmt f.chmask ls sc, port := 2, ch := (ls.head?).map (·.1), at_ := c }
    | 3 => d.updTile p fun t => { t with arr := t.arr ++ ls.map fun x => { due := c + 5, ch := x.1, ladd := true, data := x.2 } }
    | 4 => match ls.map (·.2) with
      | [a, b] => d.inject p 5 cfg f.route (flitOf a b)
      | _ => d
    | _ => d

def execRdb (p n : Nat) (s : State) : Host.Outcome State Fault Refusal := .next (s.on (Device.opRdb p n))

/-! ### Write beats -/

/-- The lines of a vector store (R92): element codes packed, or one line of scales. -/
def storeLines (t : Tile) (f : OpWrb) (k : Nat) : List Line × Nat :=
  if f.scales then
    ([Line.ofBytes (((List.range 16).map fun r =>
        let xs := t.vreg (f.vreg + 16 * k + r)
        [0, 32, 64, 96].map fun i => BitVec.ofNat 8 (xs.getD i 0).toNat).flatten)], 0)
  else
    let xs := t.vreg (f.vreg + k)
    let w := fmtWidth f.fmt
    let codes := xs.map fun x =>
      if f.fmt = 0 then (x.toNat, false)
      else if fmtMx f.fmt then (x.toNat % 2 ^ w, false)
      else convert f.fmt f.rz f.nonsat x
    let v := (codes.map (·.1)).foldr (fun c n => c + 2 ^ w * n) 0
    ((List.range (fmtLines f.fmt)).map fun i => BitVec.ofNat 512 (v / 2 ^ (512 * i)), (codes.filter (·.2)).length)

/-- Lay the lines of a store on the channels, one line of each channel a cycle, from cycle `c` on. -/
def layBeats (chs : List Nat) (cfg : Cfg) : Nat → Nat → List Line → List TPend
  | 0, _, _ => []
  | fuel + 1, c, ls =>
    if ls.isEmpty then []
    else ((chs.zip (ls.take chs.length)).map fun x => { due := c, w := .beat x.1 cfg x.2 }) ++
      layBeats chs cfg fuel (c + 1) (ls.drop chs.length)

/-- WRB from the network ingress (SRC 0), a vector register (SRC 1) or a readout (SRC 2). -/
def Device.opWrb (p n : Nat) (d : Device) : Device :=
  if 208 ≤ p then d
  else
    let src (o : Nat) : Nat := (wrbFields o).src
    match d.fetch p 0x11 n anyOpnd with
    | none => d.noIssue p n
    | some (o, _, _) =>
      if src o = 0 then
        d.onIngress p 0x11 n anyOpnd fun _ cfg x d =>
          let c := d.now p
          ((d.settleTile p c).writeBeat p 0 c cfg (flitLo x)).writeBeat p 1 c cfg (flitHi x)
      else
        d.tileIssue p 0x11 n anyOpnd fun o cfg c d =>
          let f := wrbFields o
          let chs := maskList 2 f.chmask
          if f.src = 1 then
            let (ls, nans) := storeLines (d.tile p) f n
            let d := d.updTile p fun t => { t with cvtNan := satAdd t.cvtNan nans }
            (layBeats chs cfg 8 (c + 2) ls).foldl (fun d e => d.addPend p e) d
          else if f.src = 2 then
            match (d.tile p).outs.find? fun e => e.1 == c with
            | none => d
            | some e =>
              let d := d.updTile p fun t => { t with outs := t.outs.filter fun e => decide (c < e.1) }
              chs.foldl (fun d ch => d.writeBeat p ch c cfg (if ch = 0 then e.2.1 else e.2.2)) d
          else d

def execWrb (p n : Nat) (s : State) : Host.Outcome State Fault Refusal := .next (s.on (Device.opWrb p n))

/-! ### Accumulators (R41 to R50) -/

/-- Inputs of a pass by pairing (R69). -/
def passInputs (sf rf : Nat) : Nat :=
  if sf = 1 then 32 else if fmtWidth sf = 4 ∧ fmtWidth rf = 4 then 256 else 128

/-- The anchor of a pairing (Table 2.5, R40). -/
def pairAnchor (cfg : Cfg) : Int :=
  if fmtMx cfg.sfmt || fmtMx cfg.rfmt then cfg.anchor else if fmtInt cfg.sfmt then 32 else 0

/-- One contribution: an exact count of 2^-32, or a special value (R41, R45). -/
structure Contrib where
  b : Int := 0
  nan : Bool := false
  pinf : Bool := false
  ninf : Bool := false
  deriving DecidableEq, Repr

/-- One product in counts of 2^-32. -/
def contribOf (v : FV) : Contrib :=
  match v with
  | .nan => { nan := true }
  | .inf neg => { pinf := !neg, ninf := neg }
  | .fin neg m e =>
    let n : Int := ((if 0 ≤ e + 32 then m * 2 ^ (e + 32).toNat else m / 2 ^ (-(e + 32)).toNat : Nat) : Int)
    { b := if neg then -n else n }

/-- Sum of products as one contribution. -/
def contribSum (cs : List Contrib) : Contrib :=
  cs.foldl (fun a c => { b := a.b + c.b, nan := a.nan || c.nan, pinf := a.pinf || c.pinf, ninf := a.ninf || c.ninf }) {}

/-- A contribution enters an accumulator (R41): with scale exponent minus anchor `dd`, clamped or floored. -/
def Acc.contribute (dd : Int) (c : Contrib) (a : Acc) : Acc :=
  let lim : Int := 2 ^ 64 - 1
  let (v, clamp, loss) : Int × Bool × Bool :=
    if 0 ≤ dd then
      let x := c.b * 2 ^ dd.toNat
      if lim < x.natAbs then (if c.b < 0 then -lim else lim, true, false) else (x, false, false)
    else
      let q := c.b / 2 ^ (-dd).toNat
      (q, false, decide (q * 2 ^ (-dd).toNat ≠ c.b))
  { a with a := a.a + BitVec.ofInt 80 v, nan := a.nan || c.nan, pinf := a.pinf || c.pinf, ninf := a.ninf || c.ninf,
           clamp := a.clamp || clamp, loss := a.loss || loss, n := a.n + 1 }

/-- One column of a pass on the long accumulator (R41): `w` the resident and `s` the streamed elements, with scales by block. -/
def Acc.passLong (cfg : Cfg) (ws ss : List FV) (wsc ssc : Nat → Nat) (a : Acc) : Acc :=
  let anchor := pairAnchor cfg
  let prods := List.zipWith (fun x y => contribOf (x.mul y)) ws ss
  if fmtMx cfg.sfmt || fmtMx cfg.rfmt then
    let blocks := chunks 32 8 prods
    (blocks.zip (List.range blocks.length)).foldl (fun a x =>
      let sa := ssc x.2
      let sb := wsc x.2
      if sa = 0xFF ∨ sb = 0xFF then a.contribute 0 { nan := true }
      else a.contribute ((sa : Int) + sb - 254 - anchor) (contribSum x.1)) a
  else prods.foldl (fun a c => a.contribute (-anchor) c) a

/-- One column of a BF16 pass (R50). -/
def Acc.passBf16 (ws ss : List W32) (a : Acc) : Acc :=
  let sum := (treeFold fpAdd 5 (List.zipWith fpMul ss ws)).headD 0
  { a with f := fpAdd a.f sum, bf := true }

/-- An accumulator of a row. -/
def Tile.acc (t : Tile) (row col : Nat) : Acc := Map.get {} t.accs (64 * row + col)

/-- The 64 accumulators of a row. -/
def Tile.rowAccs (t : Tile) (row : Nat) : List Acc := (List.range 64).map (t.acc row)

/-- Write the 64 accumulators of a row. -/
def Tile.setRow (row : Nat) (xs : List Acc) (t : Tile) : Tile :=
  { t with accs := ((List.range 64).zip xs).foldl (fun m x => Map.set {} m (64 * row + x.1) x.2) t.accs }

/-- Subarray, block offset and row of issue `k` of a PASS (Table 4.6). -/
def passPlace (f : OpPass) (k : Nat) : Nat × Nat × Nat :=
  let i := k / 2 * f.step
  if k % 2 = 0 then (f.sa0, f.blk0, f.row0 + i) else (f.sa1, f.blk1, f.row1 + i)

/-- Words of a resident block (R70): from its offset, as many bytes as the pairing reads. -/
def blockWords (f : OpPass) (cfg : Cfg) (k : Nat) : List Nat :=
  let (sa, blk, _) := passPlace f k
  let n := passInputs cfg.sfmt cfg.rfmt
  let bytes := 64 * n * fmtWidth cfg.rfmt / 8 + (if fmtMx cfg.rfmt then 64 * n / 32 else 0)
  let base := 2048 * (24 * f.bank + sa) + 512 * blk
  (List.range (min ((bytes + 7) / 8) (2048 - 512 * blk))).map (base + ·)

/-- A list of words as one little-endian number. -/
def wordsNat (ws : List W64) : Nat := ws.foldr (fun w n => w.toNat + 2 ^ 64 * n) 0

/-- The lines that arrive for a pass in cycle `c` on the named channels. -/
def Tile.streamed (t : Tile) (chmask c : Nat) : List (Nat × Line) :=
  (maskList 8 chmask).filterMap fun ch => (t.arr.find? fun a => a.due == c && a.ch == ch && !a.ladd).map fun a => (ch, a.data)

/-- Lines that the streamed vector of a pass fills (R69, R72). -/
def passLines (cfg : Cfg) : Nat := (passInputs cfg.sfmt cfg.rfmt * fmtWidth cfg.sfmt + 511) / 512

/-- Some flag of a row is set. -/
def rowFlag (xs : List Acc) : Bool := xs.any fun a => a.loss || a.clamp

/-- PASS (R68 to R73): one streamed vector by a resident block into a row. A pass that sets a flag while ACC_FLAG_BIB holds none
stores its bib there (R49) and sets INT_RAW[2] ACC_FLAG of the tile page, once (DESIGN CHOICE, log entry 47). -/
def Device.opPass (p n : Nat) (d : Device) : Device :=
  d.tileIssue p 0x12 n anyOpnd fun o cfg c d =>
    let f := passFields o
    let (_, _, row) := passPlace f n
    let (ok, d) := d.guardPort p 32 0 c
    if !ok || !(d.tile p).computeBank f.bank c then d
    else
      let d := (d.guardPort p (64 + row) 0 c).2
      let inputs := passInputs cfg.sfmt cfg.rfmt
      let t := d.tile p
      -- a line of the vector that has not arrived is a free value (DESIGN CHOICE, log entry 5)
      let (xs, d) := d.fillLines (expectLines (passLines cfg) f.chmask (t.streamed f.chmask c))
      let sv := linesNat xs
      let nsc := if fmtMx cfg.sfmt then inputs / 32 else 0
      let (sc, d) := d.takeScales p nsc
      let d := d.updTile p fun t => { t with arr := t.arr.filter fun a => !(a.due == c && !a.ladd && f.chmask.testBit a.ch) }
      let (ws, d) := d.readTileWords p (Cfg.bib cfg) (blockWords f cfg n)
      let blk := wordsNat ws
      let rec' := inputs * fmtWidth cfg.rfmt
      let scBase := 64 * rec'
      let sCodes := (List.range inputs).map (elemAt cfg.sfmt sv)
      let column (col : Nat) (a : Acc) : Acc :=
        let x := bits blk (col * rec') rec'
        if cfg.sfmt = 1 then
          a.passBf16 ((List.range 32).map fun i => BitVec.ofNat 32 (elemAt 1 x i * 65536)) (sCodes.map fun s => BitVec.ofNat 32 (s * 65536))
        else
          a.passLong cfg ((List.range inputs).map fun i => elemValue cfg.rfmt (elemAt cfg.rfmt x i)) (sCodes.map (elemValue cfg.sfmt))
            (fun b => if fmtMx cfg.rfmt then bits blk (scBase + 8 * (col * (inputs / 32) + b)) 8 else 0x7F)
            (fun b => if fmtMx cfg.sfmt then sc.getD b 0x7F else 0x7F)
      let accs := (List.range 64).map fun col => column col (t.acc row col)
      let newFlag := (d.tile p).accFlagBib == 0 &&
        rowFlag ((List.range 64).map fun col => column col { t.acc row col with loss := false, clamp := false })
      let d := d.updTile p (Tile.setRow row accs)
      if newFlag then (d.updTile p fun t => { t with accFlagBib := Cfg.bib cfg }).setIntBit (pgTile p) 2 else d

def execPass (p n : Nat) (s : State) : Host.Outcome State Fault Refusal := .next (s.on (Device.opPass p n))

/-! ### Mode change, readout and long-add -/

/-- MODE (R66): the named banks are busy for 16 cycles and then in the target mode. -/
def Device.opMode (p : Nat) (d : Device) : Device :=
  d.tileIssue p 0x13 0 anyOpnd fun o _ c d =>
    let mask := bits o 0 16
    d.updTile p fun t =>
      { t with compute := BitVec.ofNat 16 (if bit o 16 then t.compute.toNat ||| mask else t.compute.toNat &&& (65535 - mask)),
               modeBusy := (maskList 16 mask).foldl (fun m b => Map.set 0 m b (c + 16)) t.modeBusy }

def execBankMode (p : Nat) (s : State) : Host.Outcome State Fault Refusal := .next (s.on (Device.opMode p))

/-- A long value as its 10-byte code (R55). -/
def Acc.long (a : Acc) : Nat :=
  if a.nan || (a.pinf && a.ninf) then 2 ^ 79
  else if a.ninf then 2 ^ 79 + 1
  else if a.pinf then 2 ^ 79 + 2
  else a.a.toNat

/-- Readout to FP32 (R45 to R47): A × 2^(anchor - 32), rounded once. -/
def Acc.toFp (anchor : Int) (a : Acc) : W32 :=
  if a.nan || (a.pinf && a.ninf) then 0x7FC00000
  else if a.ninf then 0xFF800000
  else if a.pinf then 0x7F800000
  else
    let v := a.a.toInt
    toFp32 (.fin (decide (v < 0)) v.natAbs (anchor - 32))

/-- What a column reads out in a format (R47, R48, R55): a BF16 row gives its FP32 sum, whichever descriptor the READOUT has; so does a row
that has taken BF16 passes and long contributions both (DESIGN CHOICE, log entry 47). -/
def Acc.read (cfg : Cfg) (fmt : Nat) (a : Acc) : Nat :=
  match fmt with
  | 0 => if a.bf then a.f.toNat else (a.toFp (pairAnchor cfg)).toNat
  | 1 => a.a.toNat % 2 ^ 32
  | _ => a.long

/-- The bits a column reads out are not stated: more than 32,768 contributions (R43), or an FP32 readout of long contributions
under a BF16 descriptor, which names no anchor (DESIGN CHOICE, log entry 47). -/
def Acc.openRead (cfg : Cfg) (fmt : Nat) (a : Acc) : Bool :=
  !a.bf && (decide (32768 < a.n) || (fmt == 0 && cfg.sfmt == 1 && a.n != 0))

/-- Columns of a row read out in order, a free value where the bits are open. -/
def Device.readRow (cfg : Cfg) (fmt : Nat) : List Acc → Device → List Nat × Device
  | [], d => ([], d)
  | a :: as, d =>
    let (v, d) := if a.openRead cfg fmt then (d.draw.1 % 2 ^ (if fmt = 2 then 80 else 32), d.draw.2) else (a.read cfg fmt, d)
    let (vs, d) := Device.readRow cfg fmt as d
    (v :: vs, d)

/-- READOUT (R74, R49): a row to a vector register half or to the write channels, with CLEAR. -/
def Device.opReadout (p : Nat) (d : Device) : Device :=
  d.tileIssue p 0x14 0 anyOpnd fun o cfg c d =>
    let f := readoutFields o
    let (ok, d) := d.guardPort p 33 1 c
    let (ok', d) := if ok then d.guardPort p (64 + f.row) 1 c else (false, d)
    if !ok' then d
    else
      let accs := (d.tile p).rowAccs f.row
      let (vs, d) := d.readRow cfg f.fmt accs
      let d := d.updTile p fun t =>
        { t with readRow := some (c, f.row, accs), accLoss := satAdd t.accLoss (accs.filter (·.loss)).length,
                 accClamp := satAdd t.accClamp (accs.filter (·.clamp)).length }
      let d := d.when f.clear (Device.updTile p fun t => t.setRow f.row (List.replicate 64 {}))
      if !f.toCh then d.addPend p { due := c + 4, w := .half f.vreg (if f.half then 64 else 0) (vs.map fun v => BitVec.ofNat 32 v), port := 2 }
      else
        let w := if f.fmt = 2 then 80 else 32
        let v := vs.foldr (fun x n => x + 2 ^ w * n) 0
        d.updTile p fun t => { t with outs := t.outs ++ (List.range (if f.fmt = 2 then 5 else 2)).map fun i =>
          (c + 4 + i, BitVec.ofNat 512 (v / 2 ^ (1024 * i)), BitVec.ofNat 512 (v / 2 ^ (1024 * i + 512))) }

def execReadout (p : Nat) (s : State) : Host.Outcome State Fault Refusal := .next (s.on (Device.opReadout p))

/-- A long value joins an accumulator (R54, R55), `n` contributions behind it. A code that is none of the three special ones is
added as a finite value, also where it lies beyond the bound R55 gives finite values (DESIGN CHOICE, log entry 47). -/
def Acc.addLong (v : Nat) (a : Acc) (n : Nat := 1) : Acc :=
  let a := { a with n := a.n + n }
  if v = 2 ^ 79 then { a with nan := true }
  else if v = 2 ^ 79 + 1 then { a with ninf := true }
  else if v = 2 ^ 79 + 2 then { a with pinf := true }
  else { a with a := a.a + BitVec.ofNat 80 v }

/-- The LADD that this tile has just issued takes a record that the load gate could not follow, or one with such a record behind it: what
stands behind it is not known (R43). A LADD whose issues take records of both kinds counts as one (DESIGN CHOICE, log entry 5). -/
def Device.openSum (d : Device) (t : Nat) : Bool :=
  match d.pacerPart t with
  | some k => match (d.part k).image with
    | some im => im.openSums.contains (t, (d.pacer t).seqPos, (d.pacer t).strideIdx)
    | none => false
  | none => false

/-- LADD (R75): the 640 B record that arrives in this cycle and the one before, into a row. The contributions behind a record that
the load gate could not follow are a free number (R43, DESIGN CHOICE, log entry 5). -/
def Device.opLadd (p : Nat) (d : Device) : Device :=
  d.tileIssue p 0x15 0 anyOpnd fun o _ c d =>
    let row := bits o 0 7
    let t := d.tile p
    let pick (at_ : Nat) : List Line :=
      (List.range 8).filterMap fun ch => (t.arr.find? fun a => a.due == at_ && a.ch == ch && a.ladd).map (·.data)
    let ls := pick (c - 1) ++ pick c
    -- a record that has not arrived whole is a free value (DESIGN CHOICE, log entry 5)
    let (v, d) := if ls.length = 10 then (linesNat ls, d) else d.draw
    let (k, d) := if d.openSum p then (d.draw.1 + 1, d.draw.2) else (1, d)
    d.updTile p fun t => { t.setRow row ((List.range 64).map fun i => (t.acc row i).addLong (bits v (80 * i) 80) k) with
      arr := t.arr.filter fun a => !a.ladd || decide (c < a.due) }

def execLadd (p : Nat) (s : State) : Host.Outcome State Fault Refusal := .next (s.on (Device.opLadd p))

end Sys2Proof.Machine
end

