-- ==== Sys2Proof/Machine/Vector.lean ====
section
/-! DEFINITION. Vector-unit and special-function operations (R80, R81, Tables 3.5, 3.6, 4.7): each reads its registers in
its issue cycle and writes its result after the latency of Table 3.7. -/

namespace Sys2Proof.Machine

/-- Issue a VOP stride with sub-operation `sub`: operand fields, configuration, issue cycle. -/
def Device.onVop (p sub : Nat) (f : OpVop → Cfg → Nat → Device → Device) (d : Device) : Device :=
  d.tileIssue p 0x16 0 (fun o => (vopFields o).subop == sub) fun o cfg c d =>
    let (ok, d) := d.guardPort p 34 0 c
    if ok then f (vopFields o) cfg c d else d

/-- A lane-wise operation whose result is usable `lat` cycles after its issue. -/
def Device.vlanes (p sub lat : Nat) (f : OpVop → Cfg → Tile → List W32) (d : Device) : Device :=
  d.onVop p sub fun o cfg c d => d.addPend p { due := c + lat, w := .vreg o.vd (f o cfg (d.tile p)) }

/-- A lane-wise operation of two registers. -/
def vbin (f : W32 → W32 → W32) (o : OpVop) (_ : Cfg) (t : Tile) : List W32 := List.zipWith f (t.vreg o.va) (t.vreg o.vb)
/-- A lane-wise operation of one register. -/
def vun (f : W32 → W32) (o : OpVop) (_ : Cfg) (t : Tile) : List W32 := (t.vreg o.va).map f

def Device.opVadd (p : Nat) (d : Device) : Device := d.vlanes p 0 4 (vbin fpAdd)
def Device.opVsub (p : Nat) (d : Device) : Device := d.vlanes p 1 4 (vbin fpSub)
def Device.opVmul (p : Nat) (d : Device) : Device := d.vlanes p 2 4 (vbin fpMul)
def Device.opVfma (p : Nat) (d : Device) : Device :=
  d.vlanes p 3 4 fun o _ t => List.zipWith (fun (x : W32 × W32) c => fpFma x.1 x.2 c) ((t.vreg o.va).zip (t.vreg o.vb)) (t.vreg o.vc)
def Device.opVmin (p : Nat) (d : Device) : Device := d.vlanes p 4 4 (vbin fpMin)
def Device.opVmax (p : Nat) (d : Device) : Device := d.vlanes p 5 4 (vbin fpMax)
def Device.opVabs (p : Nat) (d : Device) : Device := d.vlanes p 6 4 (vun fpAbs)
def Device.opVneg (p : Nat) (d : Device) : Device := d.vlanes p 7 4 (vun fpNeg)
def Device.opVmov (p : Nat) (d : Device) : Device := d.vlanes p 8 4 (vun id)

/-- VCVT (R38): the code in the low bits of the lane; NaN lanes converted to integers, FP6 or FP4 are counted. -/
def Device.opVcvt (p : Nat) (d : Device) : Device :=
  d.onVop p 9 fun o _ c d =>
    let rs := ((d.tile p).vreg o.va).map (convert o.fmt o.rz o.nonsat)
    (d.updTile p fun t => { t with cvtNan := satAdd t.cvtNan (rs.filter (·.2)).length }).addPend p
      { due := c + 3, w := .vreg o.vd (rs.map fun r => BitVec.ofNat 32 r.1) }

/-- VQNT (R39): element codes to VD, the four scales to lanes 0, 32, 64 and 96 of VD2, +0 elsewhere. The
blocks are of 32 lanes whatever the slot lane group's width: Table 3.5 and R39 before R52 (DESIGN CHOICE, log entry 47). -/
def Device.opVqnt (p : Nat) (d : Device) : Device :=
  d.onVop p 10 fun o _ c d =>
    let qs := (chunks 32 4 ((d.tile p).vreg o.va)).map (quantise o.fmt o.rz)
    let elems := (qs.map fun q => q.2.map (BitVec.ofNat 32)).flatten
    let scales := (qs.map fun q => BitVec.ofNat 32 q.1 :: List.replicate 31 (0 : W32)).flatten
    d.addPends p [{ due := c + 6, w := .vreg o.vd elems }, { due := c + 6, w := .vreg o.vd2 scales }]

/-- VREDADD (R52): the sum of each slot lane group, in the fixed tree. -/
def Device.opVredadd (p : Nat) (d : Device) : Device :=
  d.onVop p 11 fun o cfg c d => d.addPend p
    { due := c + 2 + 2 * cfg.slg, w := .vreg o.vd (byGroup cfg.slg (fun g => (treeFold fpAdd cfg.slg g).headD 0) ((d.tile p).vreg o.va)) }

/-- VREDMAX: the maximum of each slot lane group, in the same tree. -/
def Device.opVredmax (p : Nat) (d : Device) : Device :=
  d.onVop p 12 fun o cfg c d => d.addPend p
    { due := c + 2 + 2 * cfg.slg, w := .vreg o.vd (byGroup cfg.slg (fun g => (treeFold fpMax cfg.slg g).headD 0) ((d.tile p).vreg o.va)) }

/-- VBCAST: lane 0 of each slot lane group to every lane of it. -/
def Device.opVbcast (p : Nat) (d : Device) : Device :=
  d.vlanes p 13 4 fun o cfg t => byGroup cfg.slg (fun g => g.headD 0) (t.vreg o.va)

def execVadd (p : Nat) (s : State) : Host.Outcome State Fault Refusal := .next (s.on (Device.opVadd p))
def execVsub (p : Nat) (s : State) : Host.Outcome State Fault Refusal := .next (s.on (Device.opVsub p))
def execVmul (p : Nat) (s : State) : Host.Outcome State Fault Refusal := .next (s.on (Device.opVmul p))
def execVfma (p : Nat) (s : State) : Host.Outcome State Fault Refusal := .next (s.on (Device.opVfma p))
def execVmin (p : Nat) (s : State) : Host.Outcome State Fault Refusal := .next (s.on (Device.opVmin p))
def execVmax (p : Nat) (s : State) : Host.Outcome State Fault Refusal := .next (s.on (Device.opVmax p))
def execVabs (p : Nat) (s : State) : Host.Outcome State Fault Refusal := .next (s.on (Device.opVabs p))
def execVneg (p : Nat) (s : State) : Host.Outcome State Fault Refusal := .next (s.on (Device.opVneg p))
def execVmov (p : Nat) (s : State) : Host.Outcome State Fault Refusal := .next (s.on (Device.opVmov p))
def execVcvt (p : Nat) (s : State) : Host.Outcome State Fault Refusal := .next (s.on (Device.opVcvt p))
def execVqnt (p : Nat) (s : State) : Host.Outcome State Fault Refusal := .next (s.on (Device.opVqnt p))
def execVredadd (p : Nat) (s : State) : Host.Outcome State Fault Refusal := .next (s.on (Device.opVredadd p))
def execVredmax (p : Nat) (s : State) : Host.Outcome State Fault Refusal := .next (s.on (Device.opVredmax p))
def execVbcast (p : Nat) (s : State) : Host.Outcome State Fault Refusal := .next (s.on (Device.opVbcast p))

/-! ### Special functions -/

/-- The special function of a code (Table 4.6). -/
def sfuFn (fn : Nat) (x : W32) : W32 :=
  match fn with
  | 0 => sfuExp2 x
  | 1 => sfuRcp x
  | 2 => sfuRsq x
  | _ => sfuLog x

/-- Latency of the special-function unit (R83, R186): 14 on A1, 12 on B0, with the pad of the accepted image. -/
def Device.sfuLatency (d : Device) (p : Nat) : Nat := (if d.fuses.stepB0 then 12 else 14) + (d.tile p).sfuPad

/-- VSFU (R81). -/
def Device.opVsfu (p fn : Nat) (d : Device) : Device :=
  d.tileIssue p 0x17 0 (fun o => (vsfuFields o).fn == fn) fun o _ c d =>
    let f := vsfuFields o
    let (ok, d) := d.guardPort p 35 0 c
    if ok then d.addPend p { due := c + d.sfuLatency p, w := .vreg f.vd (((d.tile p).vreg f.va).map (sfuFn fn)), port := 1 } else d

def execVexp2 (p : Nat) (s : State) : Host.Outcome State Fault Refusal := .next (s.on (Device.opVsfu p 0))
def execVrcp (p : Nat) (s : State) : Host.Outcome State Fault Refusal := .next (s.on (Device.opVsfu p 1))
def execVrsq (p : Nat) (s : State) : Host.Outcome State Fault Refusal := .next (s.on (Device.opVsfu p 2))
def execVlog (p : Nat) (s : State) : Host.Outcome State Fault Refusal := .next (s.on (Device.opVsfu p 3))

end Sys2Proof.Machine
end

