-- ==== Sys2Proof/Machine/Access.lean ====
section
/-! DEFINITION. What a put, a get or a local copy of a partition may reach, and the access itself (R60, R62, R64, R147,
R148, R177, R192, R304, R397, R462), for every target but the register pages. -/

namespace Sys2Proof.Machine

/-! ### Who may reach what -/

/-- The partition a tile belongs to (R304). -/
def Device.tilePart (d : Device) (t : Nat) : Option Nat :=
  let o := (d.tile t).owner
  if o = 0 then d.regionPart (tileRegion t) else some (pcidPart o)

/-- The range check of R304: the range lies in one row of Table 6.2, in one AVAILABLE channel (R168), tile or page of the destination
partition, and holds no hole. -/
def Device.inRange (d : Device) (k a n : Nat) : Bool :=
  let pt := d.part k
  decide (a + n ≤ 2 ^ 48) && (rangePoints a n).all (fun x => (d.holePage x).isNone) &&
  match d.place a, d.place (a + n - 1) with
  | .dram c _, .dram c' _ => c == c' && pt.chanList.contains c && (d.chan c).state == .available
  | .tile t _, .tile t' _ => t == t' && pt.groups != 0 && d.tilePart t == some k
  | .reqtab _, .reqtab _ => pt.groups != 0
  | .page s _, .page s' _ => s == s' && n == 8 && a % 8 == 0 && pageType s != 0
  | _, _ => false

/-- HOST_SCOPE of a host-mode port (R397). -/
def Device.hostScope (d : Device) (h : Nat) : BitVec 9 := if h = 24 then d.sec.scopeH0 else d.sec.scopeH1

/-- A scope has the bit of partition `k`. -/
def scopeHas (sc : BitVec 9) (k : Nat) : Bool := sc.getLsbD k
/-- A scope has DEVICE. -/
def scopeDevice (sc : BitVec 9) : Bool := sc.getLsbD 8

/-- Request entries that a range of the table touches. -/
def reqEntries (off n : Nat) : List Nat := (List.range ((off % 32 + n + 31) / 32)).map (off / 32 + ·)

/-- The entries a put covers whole, with the values it writes. -/
def wholeEntries (off : Nat) (bs : List Byte) : List (Nat × ReqEntry) :=
  (reqEntries off bs.length).filterMap fun r =>
    if off ≤ 32 * r ∧ 32 * r + 32 ≤ off + bs.length then
      some (r, BitVec.ofNat 256 (leNat ((bs.drop (32 * r - off)).take 32))) else none

/-- The scope check of a host-mode unit on memory (R397): the owner's bit. -/
def Device.scopeMem (d : Device) (host : Option Nat) (k a n : Nat) : Bool :=
  match host with
  | none => true
  | some h =>
    let sc := d.hostScope h
    match d.place a with
    | .reqtab o => (reqEntries o n).all fun r => scopeHas sc (ReqEntry.part (d.req r))
    | .page _ _ => true
    | _ => scopeHas sc k

/-- A shadow takes mirrored writes without the starter's checks (R333). -/
def Device.isShadow (d : Device) (k : Nat) : Bool := (d.part k).shadow.role == 2

/-- An eight-byte write that completes an entry of the register path in order (R192): the entry it makes. -/
def Device.completes (srcId : W16) (i off : Nat) (v : W64) (d : Device) : Option ReqEntry :=
  if off % 32 / 8 ≠ 3 then none
  else match d.starter.staged.find? fun x => x.1 == off / 32 with
    | some (_, src, j, ws) =>
      if src = srcId ∧ j = i ∧ ws.length = 3 then
        some (BitVec.ofNat 256 ((ws ++ [v]).foldr (fun w n => w.toNat + 2 ^ 64 * n) 0))
      else none
    | none => none

/-- The window of a tile refuses an access (R64): it is not made of whole aligned words, or the tile's partition is running. -/
def Device.windowRefuses (d : Device) (t a n : Nat) : Bool :=
  a % 8 != 0 || n % 8 != 0 || (match d.tilePart t with | some j => d.running j | none => false)

/-- The request table refuses a put of entries (R192). -/
def Device.tableRefuses (d : Device) (srcId : W16) (i k o : Nat) (bs : List Byte) : Bool :=
  !d.isShadow k &&
  if bs.length = 8 then match d.completes srcId i o (BitVec.ofNat 64 (leNat bs)) with
    | some e => d.reqRefused (o / 32) e
    | none => false
  else (wholeEntries o bs).any fun x => d.reqRefused x.1 x.2

/-- A write of the target is refused with DENIED (R64, R177, R192, R397). -/
def Device.writeDenied (host : Option Nat) (srcId : W16) (i k a : Nat) (bs : List Byte) (d : Device) : Bool :=
  !d.scopeMem host k a bs.length ||
  match d.place a with
  | .dram _ _ => d.inImage a bs.length
  | .tile t _ => d.windowRefuses t a bs.length
  | .reqtab o => d.tableRefuses srcId i k o bs
  | _ => false

/-- A read of the target is refused with DENIED. -/
def Device.readDenied (host : Option Nat) (k a n : Nat) (d : Device) : Bool :=
  !d.scopeMem host k a n ||
  match d.place a with
  | .dram _ _ => d.inImage a n
  | .tile t _ => d.windowRefuses t a n
  | _ => false

/-- Count what an access refused with DENIED counts on its page: a write to image bytes (R177), a window access (R64), a write of request
entries, which discards what is staged of them (R192). -/
def Device.countDenied (srcId : W16) (i k a n : Nat) (put : Option (List Byte)) (d : Device) : Device :=
  match d.place a, put with
  | .dram c _, some _ => if d.inImage a n then d.countErr (pgChan c) errDenied else d
  | .tile t _, _ => if d.windowRefuses t a n then d.countErr (pgTile t) errAccess else d
  | .reqtab o, some bs =>
    if d.tableRefuses srcId i k o bs then
      (d.updStarter fun s => { s with staged := s.staged.filter fun x => !(reqEntries o n).contains x.1 }).countErr pgStarter errDenied
    else d
  | _, _ => d

/-! ### The access -/

/-- Some line of a channel that a range of `n` bytes reads cannot be corrected (R169). -/
def Device.anyBadLine (d : Device) (c o n : Nat) : Bool :=
  (List.range ((o % 64 + n + 63) / 64)).any fun j =>
    match d.upset (.dram c (o / 64 + j)) with
    | some u => burstDecode (u.mask.map BitVec.toNat) (u.outer.map BitVec.toNat) == .bad
    | none => false

/-- Words of array memory that a range of a tile window holds. -/
def rangeWords (o n : Nat) : List Nat := (List.range (n / 8)).map fun j => tileWord (o + 8 * j)

/-- Some word of a tile that the range holds cannot be corrected (R63). -/
def Device.anyBadWord (d : Device) (t o n : Nat) : Bool :=
  (rangeWords o n).any fun w => match d.readSite (.sram t w) with
    | .bad _ _ => true
    | _ => false

/-- Bytes of the request table (R191). -/
def Device.readReqtab (o n : Nat) (d : Device) : List Byte × Device :=
  let (bs, d) := (reqEntries o n).foldl (fun (acc : List Byte × Device) r =>
    let (e, d) := acc.2.readReq r
    (acc.1 ++ leBytes 32 e.toNat, d)) (([] : List Byte), d)
  ((bs.drop (o % 32)).take n, d)

/-- Read a range that has passed its checks: none when a line or word of it cannot be delivered (R63, R169). -/
def Device.accessRead (k a n : Nat) (d : Device) : Option (List Byte) × Device :=
  match d.place a with
  | .dram c o =>
    let bad := d.anyBadLine c o n
    let (bs, d) := d.readBytes k a n
    (if bad then none else some bs, d)
  | .tile t o =>
    let d := d.settleAll t
    let bad := d.anyBadWord t o n
    let (ws, d) := d.readTileWords t 0xFFFFFFFF (rangeWords o n) 
    (if bad then none else some (ws.map fun w => leBytes 8 w.toNat).flatten, d)
  | .reqtab o => let (bs, d) := d.readReqtab o n; (some bs, d)
  | _ => (none, d)

/-- Write to the request table (R192): entries that the put covers whole, or one word of the register path; a put that
covers an entry in part leaves it and discards its staged words. -/
def Device.writeReqtab (srcId : W16) (i k o : Nat) (bs : List Byte) (d : Device) : Device :=
  let mir := d.isShadow k
  let drop (r : Nat) (d : Device) : Device := d.updStarter fun s => { s with staged := s.staged.filter fun x => x.1 != r }
  let whole := wholeEntries o bs
  let note := if bs.length = 8 then reqEntries o 8 else whole.map (·.1)
  let d := if mir then d.updPart k fun p => { p with shadow := { p.shadow with entries := (p.shadow.entries ++ note).eraseDups } } else d
  if bs.length = 8 then (d.reqWord srcId i (o / 32) (o % 32 / 8) (BitVec.ofNat 64 (leNat bs)) mir).2
  else
    d.forAll (reqEntries o bs.length) fun r d =>
      match whole.find? fun x => x.1 == r with
      | some x => ((drop r d).reqWrite r x.2 mir).2
      | none => (drop r d).countErr pgStarter 0x0130

/-- Write a range that has passed its checks: whether every byte was written. -/
def Device.accessWrite (srcId : W16) (i k a : Nat) (bs : List Byte) (d : Device) : Bool × Device :=
  match d.place a with
  | .dram c o =>
    let first := o % 64 != 0 && d.anyBadLine c o 1
    let last := (o + bs.length) % 64 != 0 && d.anyBadLine c (o + bs.length - 1) 1
    (!(first || last), d.writeBytes k a bs)
  | .tile t o =>
    let d := d.settleAll t
    (true, ((rangeWords o bs.length).zip (chunks 8 bs.length bs)).foldl
      (fun d x => d.writeTileWord t x.1 (BitVec.ofNat 64 (leNat x.2))) d)
  | .reqtab o => (true, d.writeReqtab srcId i k o bs)
  | _ => (false, d)

/-- Bytes at a local address, read by the marshal or the security island: DRAM under its partition's key, or the request
table; zeros elsewhere (DESIGN CHOICE, log entry 18). A hole or a reserved range counts the access (R60, R62, R147). -/
def Device.localRead (a n : Nat) (d : Device) : List Byte × Device :=
  match d.place a with
  | .dram c _ =>
    match d.chanPart c with
    | some k => d.readBytes k a n
    | none => (List.replicate n 0, d.countReadHoles a n)
  | .reqtab o => (d.countReadHoles a n).readReqtab o n
  | _ => (List.replicate n 0, d.countReadHoles a n)

/-! ### Boot staging area (R390) -/

/-- Bytes of the boot staging area. -/
def stagingBytes : Nat := 8396800

/-- Raw write of bytes to the staging area, entry by entry. -/
def Device.writeStaging (o : Nat) (bs : List Byte) (d : Device) : Device :=
  let d := if 0x10 ≤ d.sec.bootStatus then d.updSec fun s => { s with bootStatus := 0 } else d
  d.forAll (reqEntries o bs.length) fun r d =>
    let old := leBytes 32 (d.req r).toNat
    let lo := max o (32 * r)
    let hi := min (o + bs.length) (32 * r + 32)
    let new := old.take (lo - 32 * r) ++ ((bs.drop (lo - o)).take (hi - lo)) ++ old.drop (hi - 32 * r)
    d.setReq r (BitVec.ofNat 256 (leNat new))

/-! ### The register path to the request table (R192) -/

/-- One word of the register path that a port `i` brings: before firmware runs, a host-mode port's word of the staging area (R390), and
no other; then a word of an entry, for a host-mode port in the scope of the entry's partition (R397). -/
def Device.opReqtabWord (srcId : W16) (i r w : Nat) (v : W64) (d : Device) : Device :=
  let host := if d.hostMode i then some i else none
  if d.sec.bootStatus ≠ 2 then
    if host.isSome && d.sec.bootStatus != 1 && decide (32 * r + 8 * w + 8 ≤ stagingBytes) then d.writeStaging (32 * r + 8 * w) (leBytes 8 v.toNat) else d
  else if d.scopeMem host 0 (0x0E0000000000 + 32 * r + 8 * w) 8 then (d.reqWord srcId i r w v false).2
  else d

def execReqtabWordWrite (srcId : W16) (i entry word : Nat) (v : W64) (s : State) : Host.Outcome State Fault Refusal :=
  .next (s.on (Device.when (isWay i && decide (entry < 1048576) && decide (word < 4)) (Device.opReqtabWord srcId i entry word v)))

end Sys2Proof.Machine
end

