-- ==== Sys2Proof/Machine/Lanes.lean ====
section
/-! DEFINITION. What a port places on its lanes, down to the unit interval: blocks and frames as bytes (R261, R267, R268), the
Reed-Solomon parity and the symbol sequence (R261, R262), striping, PAM4 levels and precoding (R263), alignment markers and PRBS
(R264), and training frames (R284). -/

namespace Sys2Proof.Machine

/-- A PAM4 level (R263). -/
abbrev Level := Fin 4

/-! ### Blocks and frames as bytes -/

/-- A control block from its byte 3 on (Table 11.5). -/
def controlBytes : Control → List Byte
  | .ka q r s n => 1 :: (leBytes 4 q.toNat ++ leBytes 4 r.toNat ++ leBytes 4 s.toNat ++ leBytes 4 n.toNat)
  | .ident mj mn g id dev host pre => [2, mj, mn, g, 0] ++ leBytes 8 id.toNat ++ leBytes 2 dev.toNat ++ leBytes 1 (b2n host + 2 * b2n pre)
  | .chgReq id kind mask width pid attempt =>
    [3, id] ++ leBytes 1 kind ++ leBytes 1 mask.toNat ++ leBytes 1 width ++ leBytes 8 pid.toNat ++ leBytes 1 attempt
  | .chgRefuse id reason => [4, id] ++ leBytes 1 reason
  | .chgAbort id pid attempt => [5, id, 0, 0, 0] ++ leBytes 8 pid.toNat ++ leBytes 1 attempt
  | .reserved => []

/-- The 256 bytes of a link block (Table 11.4). -/
def blockBytes : Block → List Byte
  | .idle => fitBytes 256 []
  | .data cls shared rpl exr seq payload =>
    leBytes 1 (1 + 4 * (cls % 2) + 8 * b2n shared + 16 * b2n rpl + 32 * b2n exr) ++ leBytes 2 seq.toNat ++ fitBytes 253 payload
  | .control c => [2, 0, 0] ++ fitBytes 253 (controlBytes c)
  | .reserved => fitBytes 256 [3]

/-- The 40-bit header of a frame (Table 11.2). -/
def frameHeader (f : Frame) : Nat :=
  f.ackSeq.toNat + b2n f.ackV * 2 ^ 16 + b2n f.nak * 2 ^ 17 + f.crSel % 4 * 2 ^ 18 + f.crLow.toNat * 2 ^ 20

/-- The 1,285 bytes of a frame (Table 11.1). -/
def frameBytes (f : Frame) : List Byte :=
  leBytes 5 (frameHeader f) ++ ((List.range 5).map fun j => blockBytes (f.slots.getD j .idle)).flatten

/-! ### RS(544,514) over GF(2^10) (R261, R262) -/

/-- Multiplication by α, a root of x^10 + x^3 + 1. -/
def gf10Alpha (a : Nat) : Nat := let y := 2 * a; if y < 1024 then y else Nat.xor y 0x409

/-- The product of two field elements, taken over the low `n` bits of the second. -/
def gf10Mul (a : Nat) : Nat → Nat → Nat
  | 0, _ => 0
  | n + 1, b => Nat.xor (if b % 2 = 1 then a else 0) (gf10Alpha (gf10Mul a n (b / 2)))

/-- Coefficients of the generator polynomial with the roots α^0 to α^(n-1), the constant term first. -/
def rsGen : Nat → List Nat
  | 0 => [1]
  | n + 1 =>
    let g := rsGen n
    let r := (List.range n).foldl (fun a _ => gf10Alpha a) 1
    List.zipWith Nat.xor (0 :: g) (g.map (fun c => gf10Mul r 10 c) ++ [0])

/-- The 30 parity symbols of 514 message symbols: the remainder of the message times x^30, the coefficient of x^29 first. -/
def rsParity (msg : List Nat) : List Nat :=
  let g := ((rsGen 30).take 30).reverse
  msg.foldl (fun r m =>
    let q := Nat.xor m (r.headD 0)
    List.zipWith Nat.xor (r.drop 1 ++ [0]) (g.map fun c => gf10Mul q 10 c)) (List.replicate 30 0)

/-- Every second symbol of a list, from the first. -/
def alternate : List Nat → List Nat
  | [] => []
  | [a] => [a]
  | a :: _ :: t => a :: alternate t

/-- Two lists, symbol by symbol in turn. -/
def interleave : List Nat → List Nat → List Nat
  | a :: s, b :: t => a :: b :: interleave s t
  | _, _ => []

/-- The `n` 10-bit symbols of a number, the lowest first. -/
def symbolsOf : Nat → Nat → List Nat
  | 0, _ => []
  | n + 1, x => x % 1024 :: symbolsOf n (x / 1024)

/-- The 1,088 symbols of a frame in the order of transmission (R262). -/
def frameSymbols (f : Frame) : List Nat :=
  let m := symbolsOf 1028 (leNat (frameBytes f))
  m ++ interleave (rsParity (alternate m)) (rsParity (alternate (m.drop 1)))

/-! ### Lanes and levels (R263) -/

/-- The symbols of logical lane `j` of `w`; at w = 3 lane 2 ends with the filler symbol. -/
def laneSymbols (w j : Nat) (syms : List Nat) : List Nat :=
  (List.range ((1087 + w) / w)).map fun q => syms.getD (w * q + j) 0

/-- Gray coding of a bit pair. -/
def grayLevel (pair : Nat) : Level := if pair % 4 = 2 then 3 else if pair % 4 = 3 then 2 else if pair % 4 = 1 then 1 else 0

/-- The levels of `n` bit pairs of a number, the lowest first. -/
def pairLevels : Nat → Nat → List Level
  | 0, _ => []
  | n + 1, x => grayLevel x :: pairLevels n (x / 4)

/-- Precoding: y_n := (x_n - y_(n-1)) mod 4. -/
def precode : Level → List Level → List Level
  | _, [] => []
  | y, x :: t => (x - y) :: precode (x - y) t

/-! ### PRBS (R264, R284, Table 11.11) -/

/-- Degree and taps of the patterns 0 to 5: PRBS7, 9, 13, 15, 23 and 31. -/
def prbsPoly : Nat → Nat × List Nat
  | 0 => (7, [7, 6])
  | 1 => (9, [9, 5])
  | 2 => (13, [13, 12, 2, 1])
  | 3 => (15, [15, 14])
  | 4 => (23, [23, 18])
  | _ => (31, [31, 28])

/-- The next bit of a pattern after its last bits, the latest as bit 0, and those bits then. -/
def prbsBit (pat s : Nat) : Nat × Nat :=
  let (n, taps) := prbsPoly pat
  let b := (taps.countP fun t => s.testBit (t - 1)) % 2
  (b, (2 * s + b) % 2 ^ n)

/-- The next `n` unit intervals of a pattern, Gray coded two bits per UI, the earlier bit as the pair's low bit (DEDUCED, log
entry 50), and its bits then. -/
def prbsLevels (pat : Nat) : Nat → Nat → List Level × Nat
  | 0, s => ([], s)
  | n + 1, s =>
    let (a, s) := prbsBit pat s
    let (b, s) := prbsBit pat s
    let (t, s) := prbsLevels pat n s
    (grayLevel (a + 2 * b) :: t, s)

/-- The next `n` bits of a pattern as a number, the first as bit 0. -/
def prbsNumber (pat : Nat) : Nat → Nat → Nat
  | 0, _ => 0
  | n + 1, s =>
    let (b, s) := prbsBit pat s
    b + 2 * prbsNumber pat n s

/-! ### Cyclic checks and markers (Tables 11.3, 11.7) -/

/-- A cyclic check of width `w` over the low `n` bits of a number, bit 0 first (DEDUCED, log entry 50): `poly` without its leading
term, from the value `c`. -/
def serialCheck (w poly : Nat) : Nat → Nat → Nat → Nat
  | 0, _, c => c
  | n + 1, x, c =>
    let top := Nat.xor (x % 2) (bits c (w - 1) 1)
    serialCheck w poly n (x / 2) (Nat.xor (2 * c % 2 ^ w) (if top = 1 then poly else 0))

/-- The PATTERN of a marker: rotated left by 6 × LLANE bits within 48. -/
def markerPattern (llane : Nat) : Nat :=
  let x := 0xA5C39E0F71B4
  let r := 6 * llane
  x * 2 ^ r % 2 ^ 48 + x / 2 ^ (48 - r)

/-- The 120 bits of an alignment marker (Table 11.3). -/
def markerBits (llane width epoch count : Nat) : Nat :=
  let x := markerPattern llane + llane * 2 ^ 48 + width * 2 ^ 52 + epoch * 2 ^ 56 + count * 2 ^ 60
  x + serialCheck 8 7 104 x 0 * 2 ^ 104

/-! ### Training frames (R284) -/

/-- The control word of a training frame (Table 11.7). -/
def trainingWord (coefReq coefSts : Nat) (ready precodeReq : Bool) (lane : Nat) : Nat :=
  let x := coefReq % 16 + coefSts % 16 * 2 ^ 4 + b2n ready * 2 ^ 8 + b2n precodeReq * 2 ^ 9 + lane % 8 * 2 ^ 10
  x + serialCheck 16 0x1021 112 x 0xFFFF * 2 ^ 112

/-- A received control word whose CRC16 is good. -/
def trainingWordOk (w : BitVec 128) : Bool := serialCheck 16 0x1021 112 w.toNat 0xFFFF == bits w.toNat 112 16

/-- The levels of `n` bits at levels 0 and 3, the lowest first. -/
def outerLevels : Nat → Nat → List Level
  | 0, _ => []
  | n + 1, x => (if x % 2 = 1 then 3 else 0) :: outerLevels n (x / 2)

/-- A training frame of 4,096 UI with its control word, and the PRBS13 bits after it. -/
def trainingFrame (word prbs : Nat) : List Level × Nat :=
  let (t, s) := prbsLevels 2 3904 prbs
  (outerLevels 64 0x5A5AF0F03C3C0FF0 ++ outerLevels 128 word ++ t, s)

end Sys2Proof.Machine
end

