-- ==== Sys2Proof/Machine/Link.lean ====
section
/-! DEFINITION. The link layer of a port as shared operations (chapter 11): lane maps, entering DOWN with the units handed
back (R282, R315), credits and acknowledgements (R270 to R279), received blocks, and changes (R287 to R291). -/

namespace Sys2Proof.Machine

/-! ### Lanes -/

/-- Lanes of a mask, in ascending order. -/
def lanesOf (m : BitVec 5) : List Nat := (List.range 5).filter fun l => m.getLsbD l
/-- Mask of a list of lanes. -/
def laneMask (ls : List Nat) : BitVec 5 := BitVec.ofNat 5 (ls.foldl (fun a l => Nat.lor a (2 ^ l)) 0)
/-- A state in which the port sends and accepts frames (R261). -/
def LinkState.frames : LinkState → Bool
  | .align | .identify | .init | .active => true
  | _ => false
/-- LINK_STATE code (Table 19.7). -/
def LinkState.code : LinkState → Nat
  | .disabled => 0 | .detect => 1 | .equalize => 2 | .align => 3 | .identify => 4 | .init => 5 | .active => 6
  | .exercise => 7 | .down => 8

/-- Eye margins, in 0.1 mV and 0.001 UI, meet the SerDes rows of Table 17.4 on every lane: 12 mV and 0.12 UI (R405). -/
def eyesOk (eyes : List (Nat × Nat)) : Bool := eyes.all fun e => decide (120 ≤ e.1) && decide (120 ≤ e.2)

/-- PORT_ID (R286). -/
def Device.portId (d : Device) (i : Nat) : W64 :=
  match (d.port i).portIdSet with
  | some x => x
  | none => BitVec.ofNat 64 (d.fuses.serial.toNat * 65536 + i)

/-! ### Reroute and DOWN (R282, R315) -/

/-- Look up a unit that waits at port `i` again: it goes to the port that the route table gives, where that port's queue has room, and
waits here otherwise; without an entry it is discarded (R297, R312, R315). -/
def Device.replace (i : Nat) (u : XUnit) (d : Device) : Device :=
  let again := (d.port i).resent.contains u
  match d.routeOf u.dstId with
  | .out j =>
    if j = i ∨ !(d.port j).fits u then d
    else (d.updPort i (·.remove u)).updPort j fun p => if again then { p with resent := p.resent ++ [p.mark u] } else p.enqueue u
  | .wait _ => d
  | .none => if d.hostMode i then d else (d.updPort i (·.remove u)).dropUnrouted u

/-- Every unit that waits at a port that is not ACTIVE is looked up again. -/
def Device.reroutePort (i : Nat) (d : Device) : Device :=
  let p := d.port i
  if p.active then d else (p.resent ++ (p.egReq ++ p.egRsp).filter (!·.loc)).foldl (fun d u => d.replace i u) d

/-- A route has changed: every waiting unit is looked up again (R296, R315). -/
def Device.rerouteAll (d : Device) : Device := d.forAll (List.range 26) Device.reroutePort

/-- The link layer of a port as it stands when training begins again: its page fields and counters of events stay, and the blocks
accepted in its pool, which are still delivered (R282). -/
def Link.restart (l : Link) (s : LinkState) (now : Nat) : Link :=
  { state := s, downCause := l.downCause, enteredAt := now, eqFails := l.eqFails, nextReqId := l.nextReqId,
    pool := l.pool, rxReq := l.rxReq, rxRsp := l.rxRsp }

/-- Enter DOWN (R282, R315): the cause, no more frames, the replay buffer's units rebuilt with RESEND set, planned units
lost, local units dropped, the marshal told and a LINK_DOWN record raised. -/
def Device.enterDown (i cause : Nat) (d : Device) : Device :=
  let p := d.port i
  if p.link.state == .down || p.link.state == .disabled then d
  else
    let back := p.inFlight.map (·.2)
    let lost := (back.filter (·.planned)).length + p.planned.length
    let again := (back.filter (·.stream)).map fun u => { u with resend := true }
    let d := d.updPort i fun p =>
      { p with link := { p.link.restart .down d.clk.now with downCause := cause },
               cnt := { p.cnt with linkDown := satInc p.cnt.linkDown, planLost := satAdd p.cnt.planLost lost },
               inFlight := [], planned := [], txReq := [], txRsp := [], intake := p.intake,
               resent := again ++ p.resent, egReq := p.egReq.filter (fun u => !u.loc),
               egRsp := p.egRsp.filter (fun u => !u.loc), txFrame := none, txLanes := [] }
    let d := d.setIntBit (pgPort i) 2
    let d := d.raise { code := 0x0302, unit := 2384 + i, pcid := 0, action := 0, drill := p.exr.drill,
                       specific := leBytes 1 cause }
    d.reroutePort i

/-- The units that wait at a port are discarded: lists that held them go on without them (R311). -/
def Device.forgetUnits (i : Nat) (d : Device) : Device :=
  let p := d.port i
  (p.egReq ++ p.egRsp).foldl (fun d u => d.unitGone u) d

/-- A port reset (Table 14.5): the DOWN steps, then the egress queues and window slots are cleared (DEDUCED, log entry 17). -/
def Device.portReset (i cause : Nat) (d : Device) : Device :=
  let d := d.enterDown i cause
  let d := d.forgetUnits i
  d.updPort i fun p =>
    { p with resent := [], egReq := [], egRsp := [], planned := [], intake := [],
             windows := (p.windows.map fun w => (w.1, { owner := w.2.owner : Window })).filter fun w => w.2 != {},
             link := { p.link with pool := [], rxReq := [], rxRsp := [] } }

/-- An uncorrectable word of the replay buffer (0) or the pool (1): its record, and a port reset into DOWN with cause WORD (R269,
Table 14.2). -/
def Device.portWord (i store : Nat) (drill : Bool) (d : Device) : Device :=
  (d.raise { code := 0x0301, unit := 2384 + i, pcid := 0, action := 1, drill := drill, specific := leBytes 1 store }).portReset i 8

/-- The unparseable stream of R299: BAD_UNIT, and DOWN with cause PROTOCOL. -/
def Device.badUnit (i : Nat) (d : Device) : Device :=
  let d := d.updCnt i fun c => { c with badUnit := satInc c.badUnit }
  (d.setIntBit (pgPort i) 4).enterDown i 7

/-- The port becomes ACTIVE (R283): its event, and waiting units look for their routes again. -/
def Device.linkActive (i : Nat) (d : Device) : Device :=
  let d := d.updLink i fun l => { l with state := .active, enteredAt := d.clk.now, lastKa := d.clk.now }
  (d.setIntBit (pgPort i) 1).rerouteAll

/-! ### Protocol checker (R294) -/

/-- A violation seen by the checker: counted only when CHECK is armed. -/
def Device.violation (i n : Nat) (d : Device) : Device :=
  let p := d.port i
  if !p.exr.check then d
  else
    let first := p.cnt.pv.isEmpty
    let d := d.updCnt i fun c =>
      { c with pv := Map.upd 0 c.pv n satInc,
               pvFirst := if first then BitVec.ofNat 32 (n + c.frameGood.toNat % 2 ^ 28 * 16) else c.pvFirst }
    d.setIntBit (pgPort i) 4

/-! ### Class streams at the receiver (R277, R278, R298, R299) -/

/-- Received bytes of a class not yet taken by the transport. -/
def Link.rx (l : Link) (cls : Nat) : List Byte := if cls = 0 then l.rxReq else l.rxRsp
def Link.setRx (cls : Nat) (bs : List Byte) (l : Link) : Link := if cls = 0 then { l with rxReq := bs } else { l with rxRsp := bs }

/-- A block of the pool is released (R277, R278). -/
def Link.release (b : PoolBlock) (l : Link) : Link :=
  if b.shared then { l with relSh := l.relSh + 1 }
  else if b.cls = 0 then { l with relReq := l.relReq + 1 } else { l with relRsp := l.relRsp + 1 }

/-- Take `n` bytes of a class out of the pool's oldest blocks, releasing each that is used up. -/
def Link.drain (cls : Nat) : Nat → List PoolBlock → Link → List PoolBlock × Link
  | _, [], l => ([], l)
  | n, b :: t, l =>
    if b.cls ≠ cls then
      let (t', l') := Link.drain cls n t l
      (b :: t', l')
    else if n < b.left then ({ b with left := b.left - n } :: t, l)
    else Link.drain cls (n - b.left) t (l.release b)

/-- The transport has consumed the first `n` bytes of a class stream. -/
def Link.consume (cls n : Nat) (l : Link) : Link :=
  let l' := l.setRx cls ((l.rx cls).drop n)
  let (p, l'') := Link.drain cls n l'.pool l'
  { l'' with pool := p }

/-- Where byte 0 of payload word `w` of a pool block stands in a class stream: before its head where it is used up. -/
def poolPlace (cls : Nat) (q : W16) (w : Nat) : Int → List PoolBlock → Option Int
  | _, [] => none
  | at_, b :: t =>
    if b.cls ≠ cls then poolPlace cls q w at_ t
    else if b.seq = q then some (at_ + 8 * w + b.left - 253)
    else poolPlace cls q w (at_ + b.left) t

/-- The place in a class stream of the pool word at a site of port `i`. -/
def Device.sitePlace (d : Device) (i cls : Nat) (s : Site) : Option Int :=
  match s with
  | .pool j q w => if j = i then poolPlace cls (BitVec.ofNat 16 q) w 0 (d.port i).link.pool else none
  | _ => none

/-- A class stream with the bits of one word inverted. -/
def flipStream (at_ : Int) (m : W64) (bs : List Byte) : List Byte :=
  (bs.zip (List.range bs.length)).map fun x =>
    let j := (x.2 : Int) - at_
    if 0 ≤ j ∧ j < 8 then x.1 ^^^ BitVec.ofNat 8 (bits m.toNat (8 * j.toNat) 8) else x.1

/-- A class stream as the word code delivers it from the pool (R269). -/
def Device.rxRead (d : Device) (i cls : Nat) : List Byte :=
  d.flt.upsets.foldl (fun bs u =>
    match d.sitePlace i cls u.site, d.readSite u.site with
    | some a, .corrected m => flipStream a m bs
    | some a, .undetected m => flipStream a m bs
    | _, _ => bs) ((d.port i).link.rx cls)

/-- An uncorrectable pool word under the first `n` bytes of a class stream (R269): whether a drill armed it. -/
def Device.rxBad (d : Device) (i cls n : Nat) : Option Bool :=
  d.flt.upsets.findSome? fun u =>
    match d.sitePlace i cls u.site, d.readSite u.site with
    | some a, .bad _ drill => if -8 < a ∧ a < n then some drill else none
    | _, _ => none

/-- Pad bytes at the head of a stream (R298). -/
def padBytes (bs : List Byte) : Nat := (bs.takeWhile (· == 0)).length

/-- The header at the head of a stream is a reserved encoding (R299), as far as its bytes have arrived. -/
def badHeader (bs : List Byte) : Bool :=
  match bs with
  | [] => false
  | b :: _ =>
    let ty := b.toNat % 16
    if ty = 0 ∨ 4 < ty then true
    else if ty = 4 then (if bs.length < 17 then false else let c := (bs.getD 16 0).toNat; c == 0 || decide (11 < c))
    else if bs.length < 32 then false
    else let n := leNat ((bs.drop 30).take 2) % 8192; n < 8 || decide (4096 < n) || n % 8 != 0

/-- Drop the pad bytes at the head of a class stream, and take the port down when the next header cannot be parsed, or a word of
these bytes cannot be read. -/
def Device.headCheck (i cls : Nat) (d : Device) : Device :=
  let n := padBytes (d.rxRead i cls)
  match d.rxBad i cls (n + 32) with
  | some drill => d.portWord i 1 drill
  | none =>
    let d := if n = 0 then d else d.updLink i (Link.consume cls n)
    if badHeader (d.rxRead i cls) then d.badUnit i else d

/-- The unit stands whole at the head of its class stream, or waits in the device's own loop. -/
def Device.arrived (i : Nat) (u : XUnit) (d : Device) : Bool :=
  if i = 31 then d.tr.loop.contains u
  else let bs := u.bytes; (d.rxRead i u.cls).take bs.length == bs

/-- The transport takes a unit that arrived on a port: its bytes leave the class stream when they stand at its head
(DESIGN CHOICE, log entry 15). -/
def Device.takeRx (i : Nat) (u : XUnit) (d : Device) : Device :=
  let bs := u.bytes
  if (d.rxRead i u.cls).take bs.length = bs ∧ 0 < bs.length then (d.updLink i (Link.consume u.cls bs.length)).headCheck i u.cls else d

/-- Read an arriving unit's words out of the pool first (R269): `f` takes the unit unless one of them is uncorrectable. -/
def Device.fromPool (i : Nat) (u : XUnit) (f : Device → Device) (d : Device) : Device :=
  match d.rxBad i u.cls u.bytes.length with
  | some drill => d.portWord i 1 drill
  | none => f d

/-- A unit outside the streams is taken: one that is stale is discarded and counted (R301), and so is one with MIR set, which only a
mirror unit has (R298, R332). -/
def Device.takeOutside (i : Nat) (u : XUnit) (f : Device → Device) (d : Device) : Device :=
  if d.stale u then (d.takeRx i u).updTr fun t => { t with ageDiscard := satInc t.ageDiscard }
  else if u.mir then (d.takeRx i u).countErr (pgTransportP u.dstPart) errAccess
  else f (d.takeRx i u)

/-! ### Acknowledgement and replay (R270 to R276) -/

/-- Blocks outstanding. -/
def Link.outstanding (l : Link) : Nat := (l.next - l.una).toNat

/-- Begin a replay at UNA (R273, R275). -/
def Link.beginReplay (now : Nat) (l : Link) : Link :=
  { l with replay := some l.una, lastReplay := some (l.una, now), timerAt := now, nakIgnored := false }

/-- Units whose last block has been acknowledged leave the list; the unit still being sent stays. -/
def Port.retire (una : W16) (sent : Nat) (p : Port) : Port :=
  let open_ (cls : Nat) : Bool := !(if cls = 0 then p.txReq else p.txRsp).isEmpty
  let lastOf (cls : Nat) : Option (W16 × XUnit) := (p.inFlight.filter fun x => x.2.cls == cls).getLast?
  let keep (x : W16 × XUnit) : Bool :=
    decide ((x.1 - una).toNat < sent) || (open_ x.2.cls && lastOf x.2.cls == some x)
  { p with inFlight := p.inFlight.filter keep }

/-- ACK_SEQ acknowledges a block never sent (PV-4, R273). -/
def Link.ackAhead (a : W16) (l : Link) : Bool :=
  let k := (a + 1 - l.una).toNat
  decide (1 ≤ k ∧ l.outstanding < k ∧ k ≤ 63487)

/-- One accepted header with ACKV set (R273). -/
def Device.ackProcess (i : Nat) (a : W16) (nak : Bool) (d : Device) : Device :=
  let l := (d.port i).link
  let k := (a + 1 - l.una).toNat
  let out := l.outstanding
  let d :=
    if 1 ≤ k ∧ k ≤ out then
      (d.updLink i fun l => { l with una := a + 1, timerAt := d.clk.now, replayBuf := l.replayBuf.drop k,
                                     nakIgnored := false,
                                     replay := l.replay.bind fun r =>
                                       if k = out then none else if (r - l.una).toNat < k then some (a + 1) else some r }).updPort i
        fun p => p.retire (a + 1) (out - k)
    else d
  let l := (d.port i).link
  if nak && decide (0 < l.outstanding) then
    let recent := match l.lastReplay with
      | some (u, t) => u == l.una && decide (d.clk.now < t + us (d.port i).replayTo)
      | none => false
    if recent then d.updLink i fun l => { l with nakIgnored := true }
    else (d.updLink i (Link.beginReplay d.clk.now)).updCnt i fun c => { c with replayNak := satInc c.replayNak }
  else d

/-! ### Credits (R278, R279) -/

/-- Own limits for a direction, as the receiver keeps them: request, response, shared. -/
def Port.limits (p : Port) : W32 × W32 × W32 :=
  (BitVec.ofNat 32 p.resvReq + p.link.relReq, BitVec.ofNat 32 p.resvRsp + p.link.relRsp,
   BitVec.ofNat 32 (2048 - p.resvReq - p.resvRsp) + p.link.relSh)

/-- The sender's known limit by CR_SEL. -/
def Link.lim (l : Link) (sel : Nat) : W32 := if sel = 0 then l.limReq else if sel = 1 then l.limRsp else l.limSh
def Link.setLim (sel : Nat) (v : W32) (l : Link) : Link :=
  if sel = 0 then { l with limReq := v } else if sel = 1 then { l with limRsp := v } else { l with limSh := v }

/-- A limit becomes known to the sender; growth by more than 2,048 is ignored (R279, PV-7). -/
def Device.learnLimit (i sel : Nat) (v : W32) (d : Device) : Device :=
  if 2048 < (v - (d.port i).link.lim sel).toNat then d.violation i 7 else d.updLink i (Link.setLim sel v)

/-- CR_LOW of a frame header (R279). -/
def Device.learnLow (i sel : Nat) (cr : BitVec 20) (d : Device) : Device :=
  let l := (d.port i).link.lim sel
  d.learnLimit i sel (l + BitVec.ofNat 32 ((cr - BitVec.ofNat 20 l.toNat).toNat))

/-- A block of a class may be sent on reserve credit, or on shared credit (R278). -/
def creditFree (lim sent : W32) : Bool := let x := (lim - sent).toNat; 1 ≤ x && x < 2 ^ 31
def Link.reserveFree (l : Link) (cls : Nat) : Bool :=
  if cls = 0 then creditFree l.limReq l.sentReq else creditFree l.limRsp l.sentRsp
def Link.sharedFree (l : Link) : Bool := creditFree l.limSh l.sentSh

/-! ### Data blocks (R271) -/

/-- The pool has a granted slot for a class and pool (R277). -/
def Port.poolRoom (p : Port) (cls : Nat) (shared : Bool) : Bool :=
  let n := (p.link.pool.filter fun b => b.shared == shared && (shared || b.cls == cls)).length
  n < (if shared then 2048 - p.resvReq - p.resvRsp else if cls = 0 then p.resvReq else p.resvRsp)

/-- A replayed block that carries the TIME_RSP cell the timekeeper waits for makes its exchange void (R240). -/
def replayedTimeRsp (bs : List Byte) : Bool := (bs.getD 0 0).toNat % 16 == 4 && (bs.getD 16 0).toNat == 4

/-- Mark the exchange whose TIME_RSP a replayed block carries. -/
def Timekeeper.markReplayed (i : Nat) (bs : List Byte) (t : Timekeeper) : Timekeeper :=
  let x := leNat ((bs.drop 20).take 4)
  { t with exchs := t.exchs.map fun e => if e.port = i ∧ e.xid.toNat = x then { e with replayed := true } else e }

/-- The payload of an EXR block after the last, as a number of 253 bytes: it counts up, stays, or goes on with the bits of PRBS31
(Table 11.11; DESIGN CHOICE, log entry 50). -/
def exrNext (pat w : Nat) : Nat :=
  if pat = 0 then (w + 1) % 2 ^ 2024
  else if pat = 1 then w
  else prbsNumber 5 2024 ((List.range 31).foldl (fun s j => 2 * s + bits w (1993 + j) 1) 0)

/-- Compare the payload of an EXR block with what the last one lets expect: a mismatch adds 1. The first of a comparison, and one under
a pattern that Table 19.7 does not define, has no stated reference: the result is free (DESIGN CHOICE, log entry 50). -/
def Device.compareExr (i w : Nat) (d : Device) : Device :=
  let e := (d.port i).exr
  let add (n : Nat) (d : Device) : Device := d.updExr i fun e => { e with err := e.err + BitVec.ofNat 64 n, seen := some w }
  match e.seen with
  | some v => if e.pat < 3 then add (if exrNext e.pat v = w then 0 else 1) d else (let (f, d) := d.draw; add (f % 2) d)
  | none => let (f, d) := d.draw; add (f % 2) d

/-- An accepted data block (R271): into the pool, or discarded by its number. -/
def Device.dataBlock (i cls : Nat) (shared rpl exr : Bool) (seq : W16) (payload : List Byte) (d : Device) : Device :=
  let p := d.port i
  let x := (seq - p.link.e).toNat
  if x = 0 then
    if !p.poolRoom cls shared then (d.violation i 6).enterDown i 7
    else
      let d := d.updLink i fun l => { l with e := l.e + 1, nakPending := false }
      if exr then
        -- released without delivery; an armed checker compares its payload (Table 11.11)
        let d := d.updLink i fun l => l.release { cls := cls, shared := shared }
        if p.exr.check then d.compareExr i (leNat (fitBytes 253 payload)) else d
      else
        let bs := fitBytes 253 payload
        let d := d.updLink i fun l =>
          (l.setRx cls (l.rx cls ++ bs)) |> fun l => { l with pool := l.pool ++ [{ cls := cls, shared := shared, exr := exr, seq := seq }] }
        let d := d.dropUpsets fun s => match s with
          | .pool j q _ => j == i && q == seq.toNat
          | _ => false
        let d := if rpl && replayedTimeRsp bs then d.updTk (Timekeeper.markReplayed i bs) else d
        d.headCheck i cls
  else if x ≤ 2047 then
    (d.updLink i fun l => { l with nakPending := true }).updCnt i fun c => { c with gapDiscard := satInc c.gapDiscard }
  else if 63488 ≤ x then d.updCnt i fun c => { c with dupDiscard := satInc c.dupDiscard }
  else d.violation i 5

/-! ### Lane maps and changes (R287 to R291) -/

/-- A replay under way, and one whose NAK was ignored, restarts at UNA when the transmit map switches (R276). -/
def Link.restartReplay (now : Nat) (l : Link) : Link :=
  if l.replay.isSome || l.nakIgnored && decide (0 < l.outstanding) then l.beginReplay now else l

/-- The width of the transmit map once the changes that wait for a marker have been made. -/
def Link.txWidth (l : Link) : Nat := (l.mapDue.getLast?.map (·.1)).getD l.txMap.length

/-- The transmit map is to go to the first `w` usable lanes at the next marker (R287). -/
def Device.switchMap (i w : Nat) (replace : Bool) (d : Device) : Device :=
  d.updLink i fun l => { l with mapDue := l.mapDue ++ [(w, replace)] }

/-- At a marker the transmit map switches to the first usable lanes, MAP_EPOCH counts the switch, the changes are counted, and
replays restart (R276, R287). -/
def Device.switchNow (i : Nat) (d : Device) : Device :=
  let due := (d.port i).link.mapDue
  if due.isEmpty then d
  else
    let d := d.updLink i fun l =>
      ({ l with txMap := (lanesOf l.txUsable).take l.txWidth, mapEpoch := l.mapEpoch + 1, mapDue := [] } : Link).restartReplay d.clk.now
    let d := d.updCnt i fun c =>
      { c with laneRepl := satAdd c.laneRepl (due.countP (·.2)), widthChg := satAdd c.widthChg (due.countP fun x => !x.2) }
    d.setIntBit (pgPort i) 5

/-- Queue a control block for the next frames. -/
def Device.sendCtl (i : Nat) (c : Control) (d : Device) : Device := d.updLink i fun l => { l with ctl := l.ctl ++ [c] }

/-- The CHG_REQ block of a port's outstanding request. -/
def Device.reqBlock (d : Device) (i : Nat) (r : ChangeReq) : Control :=
  .chgReq r.id r.kind r.mask r.width (d.portId i) r.attempt

/-- The lanes of a RETRAIN run EQUALIZE; precoding is agreed anew when it ends (R284, Table 11.8). -/
def Link.beginRetrain (mask : BitVec 5) (l : Link) : Link :=
  { l with retrain := some mask, trainRest := [], precode := l.precode &&& ~~~mask, rxPrecode := l.rxPrecode &&& ~~~mask }

/-- Issue a request of a port whose fault, if it has one, was detected at `since`. -/
def Device.issueChange (i kind : Nat) (mask : BitVec 5) (width attempt : Nat) (fault : Bool) (since : Nat) (d : Device) : Device :=
  let now := d.clk.now
  let r : ChangeReq := { id := (d.port i).link.nextReqId, kind := kind, mask := mask, width := width, attempt := attempt,
                         since := since, sentAt := now, fault := fault }
  (d.updLink i fun l =>
    { (if kind = 2 then l.beginRetrain mask else l) with
      reqs := l.reqs ++ [r], heldAt := if fault then some (l.heldAt.getD now) else l.heldAt,
      nextReqId := l.nextReqId + 1 }).sendCtl i (d.reqBlock i r)

/-- A request ends. The link-down timer does not run while a lane fault's request stands: with the last of them it goes on from where
it stopped, or from 0 when a KA block came meanwhile (R288). -/
def Link.endRequest (now : Nat) (r : ChangeReq) (l : Link) : Link :=
  let l := { l with reqs := l.reqs.erase r, retryAttempt := if r.fault then l.retryAttempt else none,
                    collided := if r.fault then l.collided else none }
  match l.heldAt with
  | some t => if l.reqs.any (·.fault) then l else { l with heldAt := none, lastKa := l.lastKa + (now - max t l.lastKa) }
  | none => l

/-- An own RETRAIN that is given up ends the training of its lanes. -/
def Link.endRetrain (r : ChangeReq) (l : Link) : Link := if r.kind = 2 then { l with retrain := none, trainRest := [] } else l

/-- Abandon a request and count it. -/
def Device.abandon (i : Nat) (r : ChangeReq) (d : Device) : Device :=
  (d.updLink i fun l => (l.endRequest d.clk.now r).endRetrain r).updCnt i fun c => { c with chgFail := satInc c.chgFail }

/-- The port's own discretionary request, WIDTH 4 or RETRAIN, that stands (R290). -/
def Link.ownRequest (l : Link) : Option ChangeReq := if l.retryAttempt.isSome then none else l.reqs.find? (!·.fault)

/-- Execute a REPLACE (Table 11.8): the named lanes leave service. Where only 3 remain, the port gives up its own request for width 4,
which can no longer be met (R290); it asks the peer for width 3 when its direction narrows, or when the peer may have widened for
that request. -/
def Device.execReplace (i : Nat) (mask : BitVec 5) (d : Device) : Device :=
  let d := d.updLink i fun l => { l with txUsable := l.txUsable &&& ~~~mask }
  let n := (lanesOf (d.port i).link.txUsable).length
  if n < 3 then d.enterDown i 4
  else
    let w := if 4 ≤ n then (d.port i).link.txWidth else 3
    let narrowed := decide (w < (d.port i).link.txWidth)
    let wide := if n = 3 then (d.port i).link.reqs.find? fun r => !r.fault && r.kind == 1 else none
    let d := d.switchMap i w true
    let d := match wide with
      | some r => d.abandon i r
      | none => d
    if narrowed || wide.isSome then d.issueChange i 1 0 3 0 true d.clk.now else d

/-- Equal identities collide (R291): CHG_ABORT, the counts (DEDUCED, log entry 51), and a retry after the delay; the third in a row
takes the port down. -/
def Device.equalIds (i : Nat) (r : ChangeReq) (d : Device) : Device :=
  let d := d.updCnt i fun c => { c with chgEqualId := satInc c.chgEqualId }
  let d := d.sendCtl i (.chgAbort r.id (d.portId i) r.attempt)
  if 2 ≤ r.attempt then d.enterDown i 6
  else
    (d.updLink i fun l =>
      { (l.endRetrain r) with
        retryAttempt := some r.attempt, reqs := l.reqs.map fun q => if q = r then { q with since := d.clk.now } else q }).updCnt i
      fun c => { c with chgFail := satInc c.chgFail }

/-- Execute a request of the peer once (R288): the last eight REQ_IDs acted on are known (DESIGN CHOICE, log entry 51). -/
def Device.execChange (i : Nat) (id : Byte) (kind : Nat) (mask : BitVec 5) (width : Nat) (d : Device) : Device :=
  let l := (d.port i).link
  if kind = 1 ∧ width = 4 ∧ (lanesOf l.txUsable).length < 4 then d.sendCtl i (.chgRefuse id 1)
  else if l.acted.contains id then d
  else
    let done (d : Device) : Device := d.updLink i fun l => { l with acted := (id :: l.acted).take 8 }
    if kind = 0 then done (d.execReplace i mask)
    else if kind = 1 then done (d.switchMap i width false)
    else if l.retrain.isSome then d.sendCtl i (.chgRefuse id 2)
    else if (lanesOf mask).any (fun x => l.txMap.contains x || l.rxMap.contains x) then d.sendCtl i (.chgRefuse id 1)
    else done (d.updLink i (Link.beginRetrain mask))

/-- A received CHG_REQ (R288, R290, R291). -/
def Device.takeChgReq (i : Nat) (id : Byte) (kind : Nat) (mask : BitVec 5) (width : Nat) (peer : W64) (attempt : Nat)
    (d : Device) : Device :=
  let l := (d.port i).link
  if 2 < kind ∨ (width ≠ 3 ∧ width ≠ 4) ∨ 2 < attempt then d.violation i 9
  else if l.state != .active then (if l.state.frames then d.sendCtl i (.chgRefuse id 3) else d)
  else
    let free := kind == 2 || (kind == 1 && width == 4)
    match l.ownRequest with
    | some r =>
      if !free then d.execChange i id kind mask width
      else if peer = d.portId i then d.equalIds i r
      else if l.collided = some id then d.violation i 11
      else
        let d := d.updCnt i fun c => { c with chgCollide := satInc c.chgCollide }
        if peer.toNat < (d.portId i).toNat then d.updLink i fun l => { l with collided := some id }
        else (d.abandon i r).execChange i id kind mask width
    | none => if free && l.retryAttempt.isSome && peer == d.portId i then d else d.execChange i id kind mask width

/-- A received CHG_REFUSE (R288). -/
def Device.takeChgRefuse (i : Nat) (id : Byte) (d : Device) : Device :=
  match (d.port i).link.reqs.find? (·.id == id) with
  | some r => d.abandon i r
  | none => d

/-- A received CHG_ABORT (R291). -/
def Device.takeChgAbort (i : Nat) (peer : W64) (d : Device) : Device :=
  match (d.port i).link.ownRequest with
  | some r => if peer = d.portId i then d.equalIds i r else d
  | none => d

/-- An injection is armed. -/
def Exerciser.armed (e : Exerciser) : Bool :=
  e.symErr != 0 || e.ackvClear != 0 || e.nakSet != 0 || e.kaHold != 0 || e.idleLanes != 0

/-- What a drill's injections caused on a port is over: none is armed, and a KA block has come LINK_DOWN_TO after the last of them was at
work (R340; DESIGN CHOICE, log entry 19). -/
def Device.drillOver (i : Nat) (d : Device) : Device :=
  let p := d.port i
  if p.exr.drill && !p.exr.armed && decide (p.exr.drillEnd + us p.linkDownTo ≤ d.clk.now) then d.updExr i fun e => { e with drill := false }
  else d

/-- A received KA block (R281, R279, R283). -/
def Device.takeKa (i : Nat) (q r s : W32) (d : Device) : Device :=
  let l := (d.port i).link
  if l.state != .init && l.state != .active then d
  else
    let late := l.state == .active && l.sinceKa && decide (l.lastKa + us 2 < d.clk.now)
    let d := if late then d.violation i 8 else d
    let d := ((d.learnLimit i 0 q).learnLimit i 1 r).learnLimit i 2 s
    let d := (d.updLink i fun l => { l with lastKa := d.clk.now, kaSeen := true, sinceKa := false }).drillOver i
    if l.state == .init then d.linkActive i else d

/-- Sequence numbers, credits and pools at INIT (R269, R278). -/
def Link.initial (l : Link) : Link :=
  { l with next := 0, una := 0, e := 0, nakPending := false, replay := none, lastReplay := none, replayBuf := [],
           sentReq := 0, sentRsp := 0, sentSh := 0, limReq := 0, limRsp := 0, limSh := 0, relReq := 0, relRsp := 0,
           relSh := 0, pool := [], rxReq := [], rxRsp := [], crRot := 0, lastCls := 1, kaCnt := 0, ctl := [],
           nakIgnored := false, kaTick := none, kaSeen := false, sinceKa := false }

/-- A received ID block (R285). -/
def Device.takeIdent (i : Nat) (major genMask : Byte) (id : W64) (dev : W16) (host : Bool) (d : Device) : Device :=
  if (d.port i).link.state != .identify then d
  else if major ≠ 1 then d.enterDown i 2
  else
    let d := d.updPort i fun p => { p with peerGen := genMask, peerDev := dev, peerHost := host, peerId := id, txReq := [], txRsp := [] }
    d.updLink i fun l => { l.initial with state := .init, enteredAt := d.clk.now }

/-- A control block of an accepted frame (R268). -/
def Device.takeControl (i : Nat) (c : Control) (d : Device) : Device :=
  match c with
  | .ka q r s _ => d.takeKa i q r s
  | .ident mj _ g id dev h _ => d.takeIdent i mj g id dev h
  | .chgReq id k m w pid a => d.takeChgReq i id k m w pid a
  | .chgRefuse id r => if r = 1 ∨ r = 2 ∨ r = 3 then d.takeChgRefuse i id else d.violation i 9
  | .chgAbort _ pid a => if 2 < a then d.violation i 9 else d.takeChgAbort i pid
  | .reserved => d.violation i 9

/-! ### Frames received (R265, R271 to R273) -/

/-- One slot of an accepted frame. -/
def Device.takeSlot (i : Nat) (b : Block) (d : Device) : Device :=
  let st := (d.port i).link.state
  if !st.frames then d
  else match b with
    | .idle => d
    | .reserved => d.violation i 1
    | .data cls sh rpl exr seq pl =>
      if st != .active then d.violation i 3 else d.dataBlock i (cls % 2) sh rpl exr seq pl
    | .control c => d.takeControl i c

/-- The header of an accepted frame; PV-2 is counted for every header and block of the frame in which it is seen. One that acknowledges
a block never sent is ignored whole (PV-4). -/
def Device.takeHeader (i : Nat) (f : Frame) (d : Device) : Device :=
  let d := d.forAll (List.range f.resv) fun _ d => d.violation i 2
  let st := (d.port i).link.state
  if st != .active then (if f.ackV then d.violation i 3 else d)
  else if f.ackV && (d.port i).link.ackAhead f.ackSeq then d.violation i 4
  else
    let d := if f.ackV then d.ackProcess i f.ackSeq f.nak else d
    if f.crSel < 3 then d.learnLow i f.crSel f.crLow else d

/-- The symbols s_n in error of a received frame: symbol j of codeword c is s_(2j + c) (R262). -/
def frameErrs (errs0 errs1 : List Nat) : List Nat := errs0.map (2 * ·) ++ errs1.map (2 * · + 1)

/-- The physical lane that carries s_n, with the logical lanes of a map (R263). -/
def carrier (lanes : List Nat) (n : Nat) : Option Nat := lanes[n % lanes.length]?

/-- One more error on a lane, in 1 µs window `w` (R287). -/
def LaneErr.add (w : Nat) (e : LaneErr) : LaneErr :=
  if e.win = w then { e with cnt := e.cnt + 1 } else { win := w, cnt := 1, prev := if e.win + 1 = w then e.cnt else 0 }

/-- Errors on receive lanes, one for each entry of the list, at tick `now`. -/
def Link.rate (now : Nat) (lanes : List Nat) (l : Link) : Link :=
  { l with laneErrs := lanes.foldl (fun m x => Map.upd {} m x (LaneErr.add (now / us 1))) l.laneErrs }

/-- A KA block. -/
def isKa : Block → Bool
  | .control (.ka ..) => true
  | _ => false

/-- A received frame: the one whose codewords lie nearest, the symbols of the two codewords that arrived in error, and the spare lanes on
which PRBS31 errors were seen in its time, one entry for each error (R261, R264, R265). More than 15 errors in a codeword are beyond the
decoder's reach, and more than FEC_LIMIT are not accepted. The 64th frame accepted in a row ends ALIGN. -/
def Device.opFrameReceive (i : Nat) (f : Frame) (errs0 errs1 spareErrs : List Nat) (d : Device) : Device :=
  let p := d.port i
  let good (errs : List Nat) : Bool := decide (errs.length ≤ 15 ∧ errs.length ≤ p.fecLimit)
  let fixed := (frameErrs errs0 errs1).filterMap (carrier p.link.rxMap)
  let spares (ls : List Nat) : List Nat := ls.filter fun x => !p.link.rxMap.contains x
  if !p.link.state.frames then d
  else if !(good errs0 && good errs1) then
    (d.updCnt i fun c => { c with frameBad := satInc c.frameBad }).updLink i fun l =>
      ({ l with nakPending := true, alignGood := 0 } : Link).rate d.clk.now (spares spareErrs)
  else
    let d := d.updCnt i fun c =>
      { c with frameGood := satInc c.frameGood, frameCorr := if errs0.isEmpty && errs1.isEmpty then c.frameCorr else satInc c.frameCorr,
               symCorr := fixed.foldl (fun m x => Map.upd 0 m x satInc) c.symCorr }
    let d := d.updLink i (Link.rate d.clk.now (fixed ++ spares spareErrs))
    let d := f.slots.foldl (fun d b => d.takeSlot i b) (d.takeHeader i f)
    d.updLink i fun l =>
      if l.state != .align then { l with sinceKa := l.sinceKa || !f.slots.any isKa }
      else if 63 ≤ l.alignGood then { l with alignGood := 64, state := .identify, enteredAt := d.clk.now, lastKa := d.clk.now }
      else { l with alignGood := l.alignGood + 1 }

def execFrameReceive (i : Nat) (f : Frame) (errs0 errs1 spareErrs : List Nat) (s : State) : Host.Outcome State Fault Refusal :=
  .next (s.on (Device.when (isPort i) (Device.opFrameReceive i f errs0 errs1 spareErrs)))

/-- A control block of one kind that a port accepts; on another port state or with another block nothing happens. -/
def Device.onControl (i : Nat) (ok : Control → Bool) (c : Control) (d : Device) : Device :=
  if isPort i && (d.port i).link.state.frames && ok c then d.takeControl i c else d

def execKa (i : Nat) (c : Control) (s : State) : Host.Outcome State Fault Refusal :=
  .next (s.on (Device.onControl i (fun c => match c with | .ka .. => true | _ => false) c))
def execIdent (i : Nat) (c : Control) (s : State) : Host.Outcome State Fault Refusal :=
  .next (s.on (Device.onControl i (fun c => match c with | .ident .. => true | _ => false) c))
def execChgReq (i : Nat) (c : Control) (s : State) : Host.Outcome State Fault Refusal :=
  .next (s.on (Device.onControl i (fun c => match c with | .chgReq .. => true | _ => false) c))
def execChgRefuse (i : Nat) (c : Control) (s : State) : Host.Outcome State Fault Refusal :=
  .next (s.on (Device.onControl i (fun c => match c with | .chgRefuse .. => true | _ => false) c))
def execChgAbort (i : Nat) (c : Control) (s : State) : Host.Outcome State Fault Refusal :=
  .next (s.on (Device.onControl i (fun c => match c with | .chgAbort .. => true | _ => false) c))

end Sys2Proof.Machine
end

