-- ==== Sys2Proof/Machine/LinkTx.lean ====
section
/-! DEFINITION. What a port sends: units cut into data blocks (R267, R298, R309), credits and classes (R278, R280), replays
(R274), the rate limiter (R314), QXFER lists (R311), and the frame of a transmission with everything it places on the lanes (R261
to R264, R272, R284). -/

namespace Sys2Proof.Machine

/-! ### The rate limiter (R314) -/

/-- Bytes in a stream's bucket now: 8 KiB at most, filled at RATE GB/s, 5/8 B per TKCLK tick for 1 GB/s. -/
def SrcStream.level (now : Nat) (s : SrcStream) : Rat := min 8192 (s.bucket + s.rate * (5 / 8) * (now - s.bucketAt : Nat))

/-- The source stream of a unit that this device originated. -/
def Device.ownStream (d : Device) (u : XUnit) : Option (Nat × SrcStream) :=
  if u.srcId = d.tr.myId then
    match d.tr.srcIdx u with
    | some i => (Map.get none d.tr.src i).map fun s => (i, s)
    | none => none
  else none

/-- The limiter applies to a PUT or GET of the request class. -/
def XUnit.limited (u : XUnit) : Bool := (u.kind == .put || u.kind == .get) && u.stream

/-- The unit may leave now. -/
def Device.rateFree (d : Device) (u : XUnit) : Bool :=
  !XUnit.limited u || (match d.ownStream u with
    | some (_, s) => decide (((u.len + 40 : Nat) : Rat) ≤ s.level d.clk.now)
    | none => true)

/-- Take a leaving unit's bytes out of its bucket. -/
def Device.spend (u : XUnit) (d : Device) : Device :=
  if !XUnit.limited u then d
  else match d.ownStream u with
    | some (i, s) => d.updTr fun t => { t with src := Map.set none t.src i (some
        { s with bucket := s.level d.clk.now - ((u.len + 40 : Nat) : Rat), bucketAt := d.clk.now }) }
    | none => d

/-! ### The next unit of a class -/

/-- Count a stale unit that is dropped (R301). -/
def Device.dropStale (u : XUnit) (d : Device) : Device :=
  (d.updTr fun t => { t with ageDiscard := satInc t.ageDiscard }).unitGone u

/-- Drop the stale units of a port's queues before they leave (R301). -/
def Device.dropStales (i : Nat) (d : Device) : Device :=
  let p := d.port i
  let old (u : XUnit) : Bool := d.stale u
  let gone := (p.resent ++ p.egReq ++ p.egRsp ++ p.planned).filter old
  if gone.isEmpty then d
  else
    let d := d.updPort i fun p => { p with resent := p.resent.filter (!old ·), egReq := p.egReq.filter (!old ·),
                                            egRsp := p.egRsp.filter (!old ·), planned := p.planned.filter (!old ·) }
    gone.foldl (fun d u => d.dropStale u) d

/-- Cycles until the last ingress flit of the port pacer's next PSEND, as far as it knows its schedule, 256 cycles ahead (R309). -/
def Device.nextPlanned (d : Device) (i : Nat) : Option Nat :=
  let p := 384 + i
  match d.pacerCyc p with
  | none => none
  | some now =>
    let last (x : Nat × Nat) : Nat := x.1 + repOf 0x30 x.2 * gapOf 0x30 x.2 - now
    let mine := ((d.pacer p).outst.filter fun o => o.op == 0x30).map fun o => (o.issued, o.opnd.toNat)
    match mine.head?, (d.nextIssues p).find? fun e => e.2.1 == 0x30 with
    | some o, _ => some (last o)
    | none, some e => some (last (e.1, e.2.2.1))
    | none, none => none

/-- Slots before the next planned PUT's reservation, with `left` slots of this frame still open: the reservation starts with the first
frame that begins once the PUT's last flit is in (R309). A frame of W lanes lasts 5 × ⌈1,088 / W⌉ UI of 106.25 GBd. -/
def Device.slotsFree (d : Device) (i left : Nat) : Option Nat :=
  let w := (d.port i).link.txMap.length
  (d.nextPlanned i).map fun n =>
    let unit := mult d.clk.opCur * (160 * ((1087 + w) / w * 5))
    left + 5 * ((n * 64 * 10625 + unit - 1) / unit - 1)

/-- Blocks that some bytes of a class stream take. -/
def blocksOf (n : Nat) : Nat := (n + 252) / 253

/-- All blocks of an unplanned unit of the request class, and a KA block between them, fit before the next reservation (R281, R309). -/
def Device.fitsBefore (d : Device) (i left : Nat) (u : XUnit) : Bool :=
  u.cls != 0 || (match d.slotsFree i left with
    | some n => decide (blocksOf u.size + 1 ≤ n)
    | none => true)

/-- The unit of a class that leaves next: planned ones first, then resent ones, then the queue; a quiesced port starts no
unplanned unit, and none starts that would delay a planned one (R309, R315, R418). `left` slots of the frame are open. -/
def Device.nextUnit (d : Device) (i cls left : Nat) (planned : Bool) : Option XUnit :=
  let p := d.port i
  if planned then (if cls = 0 then p.planned.head? else none)
  else if (d.page (pgPort i)).quiesce then none
  else
    ((p.waiting cls).find? d.rateFree).filter (d.fitsBefore i left)

/-- Stamps that are written at transmission: T3 of a TIME_RSP (R239, R259). -/
def Device.stampTx (u : XUnit) (d : Device) : XUnit :=
  match u.body with
  | .timeRsp x t2 _ => if u.kind = .cell then { u with body := .timeRsp x t2 (d.tk.time + 640) } else u
  | _ => u

/-- A TIME_REQ that is sent has its t1 (R239). -/
def Device.noteTimeReq (i : Nat) (u : XUnit) (d : Device) : Device :=
  match u.kind, u.body with
  | .cell, .timeReq x => d.updTk fun t => { t with exchs := t.exchs.map fun e =>
      if e.port = i ∧ e.xid = x then { e with t1 := d.tk.time + 640, sentNow := d.clk.now } else e }
  | _, _ => d

/-- Units that were held back for room move into the queues they fit, those of lost ports among them (R312); one without a route is
discarded, unless it answers a host-mode peer (R297). -/
def Device.admitWaiting (d : Device) : Device :=
  let w := d.tr.waiting
  (w.foldl (fun d x =>
    match d.routeOf x.2.dstId with
    | .out j => d.queueAt j x.2
    | .wait j => d.queueAt j x.2
    | .none => if d.hostMode x.1 then d.queueAt x.1 x.2 else d.dropUnrouted x.2) (d.updTr fun t => { t with waiting := [] })).rerouteAll

/-- The last PUT of an attestation report has been handed to a link layer: ATT_RESULT and the event write (R396). -/
def Device.reportGone (u : XUnit) (d : Device) : Device :=
  if u.srcId = d.tr.myId ∧ XUnit.bare u ∈ d.sec.attOut then
    (d.updSec fun s => { s with attOut := s.attOut.erase (XUnit.bare u) }).attSettle
  else d

/-- Start a unit: its bytes stand ready for blocks, and it counts as handed to the link layer. -/
def Device.startUnit (i : Nat) (u : XUnit) (d : Device) : Device :=
  let d := ((d.spend u).updPort i (·.remove u)).noteTimeReq i u
  let v := d.stampTx u
  let d := d.updPort i fun p =>
    let p := { p with inFlight := p.inFlight ++ [(p.link.next, v)] }
    if u.cls = 0 then { p with txReq := v.bytes } else { p with txRsp := v.bytes }
  ((d.unitGone u).reportGone u).admitWaiting

/-! ### Blocks (R267, R278, R280) -/

/-- Bytes of the unit a class is sending. -/
def Port.tx (p : Port) (cls : Nat) : List Byte := if cls = 0 then p.txReq else p.txRsp

/-- The unit a class is sending is planned. -/
def Port.txPlanned (p : Port) (cls : Nat) : Bool :=
  match (p.inFlight.filter fun x => x.2.cls == cls).getLast? with
  | some x => x.2.planned
  | none => false

/-- Shared credit that is left (R278). -/
def Link.sharedLeft (l : Link) : Nat := if l.sharedFree then (l.limSh - l.sentSh).toNat else 0

/-- Blocks still to send of an unplanned unit of the request class that is under way: the shared credit they need (R309). -/
def Port.owed (p : Port) : Nat := if p.txPlanned 0 then 0 else blocksOf (p.tx 0).length

/-- The pool a block of a class would take its credit from: `some true` is shared (R278, R309). A response leaves the shared credit that
a request under way still needs. -/
def Port.poolFor (p : Port) (cls : Nat) (planned : Bool) : Option Bool :=
  if cls = 0 then
    if planned then (if p.link.reserveFree 0 then some false else none)
    else if p.link.sharedFree then some true else none
  else if p.link.reserveFree 1 then some false
  else if p.owed < p.link.sharedLeft then some true else none

/-- The pool of a class's next block, where a port whose pacer may send planned PUTs starts an unplanned request only with credit for all
its blocks, so that it cannot stand in the way of one (R309; DESIGN CHOICE, log entry 55). -/
def Device.poolOf (d : Device) (i cls : Nat) (next : Option XUnit × Bool) : Option Bool :=
  let p := d.port i
  match next with
  | (some u, false) =>
    if cls = 0 ∧ (d.pacer (384 + i)).state ≠ .idle ∧ p.link.sharedLeft < blocksOf u.size then none else p.poolFor cls false
  | (_, planned) => p.poolFor cls planned

/-- A class has a new block ready, with `left` slots of the frame open: the unit to start first, if any, and whether it is planned. -/
def Device.ready (d : Device) (i cls left : Nat) : Option (Option XUnit × Bool) :=
  let p := d.port i
  if !(p.tx cls).isEmpty then some (none, p.txPlanned cls)
  else match d.nextUnit i cls left true with
    | some u => some (some u, true)
    | none => (d.nextUnit i cls left false).map fun u => (some u, false)

/-- Count a sent block of a pool (R278). -/
def Link.count (cls : Nat) (shared : Bool) (l : Link) : Link :=
  if shared then { l with sentSh := l.sentSh + 1 }
  else if cls = 0 then { l with sentReq := l.sentReq + 1 } else { l with sentRsp := l.sentRsp + 1 }

/-- Send a new block with a payload. -/
def Device.newBlock (i cls : Nat) (shared exr : Bool) (bs : List Byte) (d : Device) : Block × Device :=
  let l := (d.port i).link
  let b : Block := .data cls shared false exr l.next (fitBytes 253 bs)
  let d := d.dropUpsets fun s => match s with
    | .replay j q _ => j == i && q == l.next.toNat
    | _ => false
  (b, d.updLink i fun l =>
    { (l.count cls shared) with next := l.next + 1, replayBuf := l.replayBuf ++ [b], lastCls := cls,
                                timerAt := if l.next = l.una then d.clk.now else l.timerAt })

/-- Send the next block of a class whose credit is there. -/
def Device.sendClass (i cls : Nat) (start : Option XUnit) (shared : Bool) (d : Device) : Block × Device :=
  let d := match start with
    | some u => d.startUnit i u
    | none => d
  let bs := (d.port i).tx cls
  let seq := (d.port i).link.next
  let d := d.updPort i fun p =>
    let p := if cls = 0 then { p with txReq := bs.drop 253 } else { p with txRsp := bs.drop 253 }
    match (p.inFlight.filter fun x => x.2.cls == cls).getLast? with
    | some x => { p with inFlight := p.inFlight.map fun y => if y = x then (seq, x.2) else y }
    | none => p
  d.newBlock i cls shared false (bs.take 253)

/-- A payload as the word code delivers it from the words at its sites, the check bits with each word (R162, R269); or, of an
uncorrectable word, whether a drill armed it. -/
def Device.readPayload (d : Device) (site : Nat → Site) (bs : List Byte) : Except Bool (List Byte) :=
  (d.flt.upsets.filterMap fun u => (List.range 32).find? fun j => site j == u.site).foldl (fun r j =>
    match r, d.readSite (site j) with
    | .ok bs, .corrected m => .ok (flipStream (8 * j) m bs)
    | .ok bs, .undetected m => .ok (flipStream (8 * j) m bs)
    | .ok _, .bad _ drill => .error drill
    | r, _ => r) (.ok bs)

/-- A replayed block (R274): the same block, read from the replay buffer, with RPL set; the exchange whose TIME_REQ it carries is
void (R240). A word that cannot be read takes the port down (R269). -/
def Device.replayBlock (i : Nat) (r : W16) (d : Device) : Block × Device :=
  let l := (d.port i).link
  match l.replayBuf.getD (r - l.una).toNat .idle with
  | .data c s _ x q pl =>
    match d.readPayload (fun j => .replay i r.toNat j) pl with
    | .error drill => (.idle, d.portWord i 0 drill)
    | .ok pl =>
      let d := d.updCnt i fun c => { c with blockReplayed := satInc c.blockReplayed }
      let carried := (d.port i).inFlight.filterMap fun x =>
        if x.1 == r && x.2.kind == .cell then (match x.2.body with | .timeReq n => some n | _ => none) else none
      let mark (e : Exchange) : Exchange := if e.port = i ∧ carried.contains e.xid then { e with replayed := true } else e
      let d := d.updTk fun t => { t with exchs := t.exchs.map mark }
      (.data c s true x q pl, d.updLink i fun l => { l with replay := if r + 1 = l.next then none else some (r + 1) })
  | _ => (.idle, d.updLink i fun l => { l with replay := none })

/-- The payload of the traffic generator's next block: after the last one by the pattern. The first, and one under a pattern that
Table 19.7 does not define, is free (DESIGN CHOICE, log entry 50). -/
def Device.exrPayload (i : Nat) (d : Device) : Nat × Device :=
  let e := (d.port i).exr
  match e.sent with
  | some w => if e.pat < 3 then (exrNext e.pat w, d) else (let (f, d) := d.draw; (f % 2 ^ 2024, d))
  | none => let (f, d) := d.draw; (f % 2 ^ 2024, d)

/-- The slots of this frame belong to the request class: a planned PUT is ready or under way, or an unplanned unit under way needs them
before the next reservation (R309). -/
def Device.urgent (d : Device) (i left : Nat) : Bool :=
  let p := d.port i
  p.link.state == .active && p.link.replay.isNone && decide (p.link.outstanding < 2048) &&
    match d.ready i 0 left with
    | some (u, planned) =>
      (d.poolOf i 0 (u, planned)).isSome &&
        (planned || u.isNone && (!p.planned.isEmpty || (d.slotsFree i left).any fun n => decide (n ≤ p.owed)))
    | none => false

/-- The control block of a slot and the rest of the queue; in reserved slots only a KA block, which takes the first slot of its frame
(R281), goes before the request class. -/
def Device.nextControl (d : Device) (i left : Nat) : Option (Control × List Control) :=
  match (d.port i).link.ctl with
  | c :: rest => if isKa (.control c) || !d.urgent i left then some (c, rest) else none
  | [] => none

/-- What one slot of a frame carries, and whether a new block was held back for the window or for credit (R270, R278): a class
whose block waits for credit counts even where the other class sends. `left` slots of the frame are open. -/
def Device.fillSlot (i left : Nat) (d : Device) : Block × Bool × Bool × Device :=
  let p := d.port i
  let l := p.link
  match d.nextControl i left with
  | some (c, rest) => (.control c, false, false, d.updLink i fun l => { l with ctl := rest })
  | none =>
    if l.state != .active then (.idle, false, false, d)
    else match l.replay with
      | some r => let (b, d) := d.replayBlock i r; (b, false, false, d)
      | none =>
        let a := d.ready i 0 left
        let b := d.ready i 1 left
        let full := decide (2048 ≤ l.outstanding)
        if a.isNone && b.isNone then
          if !p.exr.traffic || p.exr.burstLeft == 0 then (.idle, false, false, d)
          else if full then (.idle, true, false, d)
          else match p.poolFor p.exr.cls false with
            | some sh =>
              let (f, d) := d.exrPayload i
              let d := d.updExr i fun e => { e with sent := some f, trafficSent := e.trafficSent + 1, burstLeft := e.burstLeft - 1,
                                                    gapLeft := if e.burstLeft = 1 then e.gap else e.gapLeft }
              let (blk, d) := d.newBlock i p.exr.cls sh true (leBytes 253 f)
              (blk, false, false, d)
            | none => (.idle, false, true, d)
        else if full then (.idle, true, false, d)
        else
          let can (cls : Nat) (x : Option (Option XUnit × Bool)) : Option (Option XUnit × Bool) :=
            match x with
            | some (u, pl) => (d.poolOf i cls (u, pl)).map fun sh => (u, sh)
            | none => none
          let ca := can 0 a
          let cb := can 1 b
          let stall := a.isSome && ca.isNone || b.isSome && cb.isNone
          let first := if l.lastCls = 1 || d.urgent i left then 0 else 1
          match (if first = 0 then ca else cb), (if first = 0 then cb else ca) with
          | some (u, sh), _ => let (blk, d) := d.sendClass i first u sh; (blk, false, stall, d)
          | none, some (u, sh) => let (blk, d) := d.sendClass i (1 - first) u sh; (blk, false, stall, d)
          | none, none => (.idle, false, true, d)

/-- The slots of a frame. -/
def Device.fillSlots (i : Nat) : Nat → Device → List Block × Bool × Bool × Device
  | 0, d => ([], false, false, d)
  | n + 1, d =>
    let (b, x, y, d) := d.fillSlot i (n + 1)
    let (bs, x', y', d) := Device.fillSlots i n d
    (b :: bs, x || x', y || y', d)

/-- A traffic burst begins, or a frame of the gap passes (Table 11.11). -/
def Exerciser.burstFrame (e : Exerciser) : Exerciser :=
  if !e.traffic || e.burstLeft != 0 then e
  else if 0 < e.gapLeft then { e with gapLeft := e.gapLeft - 1 } else { e with burstLeft := e.burst }

/-! ### The lanes (R262 to R264, R284) -/

/-- A generator's bits for a lane: as they stand, or for one that has not begun a free value that is not 0 (DESIGN CHOICE, log entry
50). -/
def Device.seed (n : Nat) (m : Map Nat) (lane : Nat) (d : Device) : Nat × Device :=
  let s := Map.get 0 m lane
  if s ≠ 0 then (s, d)
  else
    let (f, d) := d.draw
    (f % (2 ^ n - 1) + 1, d)

/-- `n` of the remaining symbols are inverted in free bits: the injection takes them out of one codeword at free places (DESIGN
CHOICE, log entry 50). -/
def Device.injectErrors (word : Nat) : Nat → List Nat → List Nat → Device → List Nat × Device
  | 0, _, syms, d => (syms, d)
  | n + 1, places, syms, d =>
    let (f, d) := d.draw
    let (e, d) := d.draw
    let j := f % places.length
    let s := 2 * places.getD j 0 + word
    Device.injectErrors word n (places.eraseIdx j) (syms.set s (Nat.xor (syms.getD s 0) (e % 1023 + 1))) d

/-- The symbols of a frame with the armed symbol errors of the exerciser in them (Table 11.11). -/
def Device.txSymbols (i : Nat) (f : Frame) (d : Device) : List Nat × Device :=
  let syms := frameSymbols f
  let n := (d.port i).exr.symErr
  if n = 0 then (syms, d)
  else
    let (w, d) := d.draw
    Device.injectErrors (w % 2) n (List.range 544) syms d

/-- Put levels on a physical lane, unless the lane is held in electrical idle. -/
def Device.putLevels (i lane : Nat) (ys : List Level) (d : Device) : Device :=
  let p := d.port i
  let y : Level := Map.get 0 p.link.lastLevel lane
  let d := d.updLink i fun l => { l with lastLevel := Map.set 0 l.lastLevel lane (ys.getLast?.getD y) }
  if p.exr.idleLanes.getLsbD lane then d else d.updPort i fun p => { p with txLanes := Map.set [] p.txLanes lane ys }

/-- Put levels of frames on a physical lane, precoded where training agreed it; a marker begins precoding anew (R263). -/
def Device.sendLevels (i lane : Nat) (marker : Bool) (xs : List Level) (d : Device) : Device :=
  let l := (d.port i).link
  d.putLevels i lane (if l.precode.getLsbD lane then precode (if marker then 0 else Map.get 0 l.lastLevel lane) xs else xs)

/-- The marker of a physical lane, when this frame has one before it (R264). -/
def Link.markerLevels (l : Link) (llane : Nat) : List Level :=
  pairLevels 60 (markerBits llane l.txMap.length l.mapEpoch.toNat l.amCount.toNat)

/-- A spare lane goes on with PRBS31 (R264). -/
def Device.sendSpare (i lane ui : Nat) (marker : Bool) (d : Device) : Device :=
  let l := (d.port i).link
  let (s, d) := d.seed 31 l.spareBits lane
  let (xs, s) := prbsLevels 5 ui s
  let d := d.updLink i fun l => { l with spareBits := Map.set 0 l.spareBits lane s }
  d.sendLevels i lane marker ((if marker then l.markerLevels 4 else []) ++ xs)

/-- A training frame begins on a lane: its control word carries what adaptation asks for, which is free (DESIGN CHOICE, log entry
50); in DETECT it asks for nothing. -/
def Device.beginTraining (i lane : Nat) (d : Device) : List Level × Device :=
  let p := d.port i
  let (f, d) := d.draw
  let word := if p.link.state = .detect then trainingWord 0 0 false false lane
    else trainingWord (f % 10) (f / 10 % 4) (bit f 8) (bit f 9 && p.precodeEn) lane
  let (s, d) := d.seed 13 p.link.trainBits lane
  let (xs, s) := trainingFrame word s
  (xs, d.updLink i fun l => { l with trainBits := Map.set 0 l.trainBits lane s })

/-- Whole training frames on a lane of a port in DETECT or EQUALIZE. -/
def Device.sendTraining (i lane : Nat) (d : Device) : Device :=
  let (xs, d) := d.beginTraining i lane
  d.putLevels i lane xs

/-- A lane that retrains while traffic continues sends the next part of its training frame, as long as a frame lasts (Table 11.8). -/
def Device.sendRetrain (i lane ui : Nat) (d : Device) : Device :=
  let rest : List Level := Map.get [] (d.port i).link.trainRest lane
  let (xs, d) := if rest.length < ui then (let (ys, d) := d.beginTraining i lane; (rest ++ ys, d)) else (rest, d)
  (d.updLink i fun l => { l with trainRest := Map.set [] l.trainRest lane (xs.drop ui) }).putLevels i lane (xs.take ui)

/-- A frame goes out on every lane: the logical lanes carry its symbols, usable lanes beyond them PRBS31, lanes that retrain their
training frames, each but those after its marker where one is due (R263, R264). -/
def Device.sendFrame (i : Nat) (marker : Bool) (f : Frame) (d : Device) : Device :=
  let l := (d.port i).link
  let (syms, d) := d.txSymbols i f
  let w := l.txMap.length
  let ui := (1087 + w) / w * 5
  let d := d.updPort i fun p => { p with txLanes := [] }
  let logical (d : Device) (x : Nat × Nat) : Device :=
    d.sendLevels i x.1 marker ((if marker then l.markerLevels x.2 else []) ++
      ((laneSymbols w x.2 syms).map (pairLevels 5)).flatten)
  let d := (l.txMap.zip (List.range w)).foldl logical d
  let d := ((lanesOf l.txUsable).filter fun x => !l.txMap.contains x).foldl (fun d x => d.sendSpare i x ui marker) d
  (lanesOf ((l.retrain.getD 0) &&& ~~~l.txUsable)).foldl (fun d x => d.sendRetrain i x ui) d

/-- PRBS mode of the exerciser: 1,360 UI of the pattern on all five lanes (Table 11.11; the length is a DESIGN CHOICE, log entry 50). -/
def Device.sendPattern (i : Nat) (d : Device) : Device :=
  let pat := (d.port i).exr.pat
  (List.range 5).foldl (fun d lane =>
    let (s, d) := d.seed (prbsPoly pat).1 (d.port i).exr.prbs lane
    let (xs, s) := prbsLevels pat 1360 s
    (d.updExr i fun e => { e with prbs := Map.set 0 e.prbs lane s }).putLevels i lane xs) d

/-- LOOP mode: every transmit lane carries 1,360 UI of what its receive lane brought. No command carries what a lane receives in
EXERCISE, so the levels are free (Table 11.11; DESIGN CHOICE, log entry 50). -/
def Device.sendLoop (i : Nat) (d : Device) : Device :=
  d.forAll (List.range 5) fun lane d => let (f, d) := d.draw; d.putLevels i lane (pairLevels 1360 f)

/-- The ID block a port sends (Table 11.5). -/
def Device.identBlock (d : Device) (i : Nat) : Control :=
  .ident 1 0 1 (d.portId i) d.tr.myId false (d.port i).precodeEn

/-- The header of a port's next frame, sampled as its transmission starts (R272). -/
def Device.txHeader (d : Device) (i : Nat) : Frame :=
  let p := d.port i
  let act := p.link.state == .active
  let sel := p.link.crRot
  let lim := if sel = 0 then p.limits.1 else if sel = 1 then p.limits.2.1 else p.limits.2.2
  { ackSeq := p.link.e - 1, ackV := act && p.exr.ackvClear == 0, nak := p.link.nakPending || decide (0 < p.exr.nakSet),
    crSel := if act then sel else 3, crLow := if act then BitVec.ofNat 20 lim.toNat else 0 }

/-- A frame of a state from ALIGN on (R261): the map switch and the marker that are due, the slots, and the lanes. A word fault on
the way takes the port down, and the frame is not sent (R269). -/
def Device.framedTransmit (i : Nat) (d : Device) : Device :=
  let marker := (d.port i).link.frameNo % 256 == 0
  let d := d.dropStales i
  let d := if marker then (d.switchNow i).updExr i Exerciser.burstFrame else d.updExr i Exerciser.burstFrame
  let d := if (d.port i).link.state == .identify && d.since (d.port i).link.lastKa (us 1) then
      (d.sendCtl i (d.identBlock i)).updLink i fun l => { l with lastKa := d.clk.now } else d
  let h := d.txHeader i
  let (bs, full, stall, d) := d.fillSlots i 5
  if !(d.port i).link.state.frames then d
  else
    let f : Frame := { h with slots := bs }
    let d := d.updCnt i fun c =>
      { c with rbFull := if full then satInc c.rbFull else c.rbFull,
               creditStall := if stall then satInc c.creditStall else c.creditStall }
    let d := d.sendFrame i marker f
    let d := d.updExr i fun e =>
      { e with symErr := 0, ackvClear := e.ackvClear - 1, nakSet := e.nakSet - 1, drillEnd := if e.armed then d.clk.now else e.drillEnd }
    let act := (d.port i).link.state == .active
    let d := d.updLink i fun l =>
      { l with crRot := if act then (l.crRot + 1) % 3 else l.crRot, frameNo := (l.frameNo + 1) % 256,
               amCount := if marker then l.amCount + 1 else l.amCount }
    d.updPort i fun p => { p with txFrame := some f }

/-- A frame begins transmission (R261, R272): from ALIGN on a frame of blocks, in DETECT and EQUALIZE a training frame on every lane
(R284), in EXERCISE under PRBS the pattern and under LOOP what its lanes receive (R293); elsewhere the lanes are idle. -/
def Device.opFrameTransmit (i : Nat) (d : Device) : Device :=
  let p := d.port i
  if p.link.state.frames then d.framedTransmit i
  else if p.link.state == .detect || p.link.state == .equalize then
    (List.range 5).foldl (fun d lane => d.sendTraining i lane) (d.updPort i fun p => { p with txLanes := [] })
  else if p.link.state == .exercise && p.exr.mode == 1 then (d.updPort i fun p => { p with txLanes := [] }).sendPattern i
  else if p.link.state == .exercise && p.exr.mode == 2 then (d.updPort i fun p => { p with txLanes := [] }).sendLoop i
  else d

def execFrameTransmit (i : Nat) (s : State) : Host.Outcome State Fault Refusal :=
  .next (s.on (Device.when (isPort i) (Device.opFrameTransmit i)))

/-- Every 1 µs from INIT on: a KA block first in the next frame, unless an injection withholds it; a period that ended without an
accepted KA is counted (R281, Table 11.10). -/
def Device.opKaSend (i : Nat) (d : Device) : Device :=
  let p := d.port i
  if p.link.state != .init && p.link.state != .active then d
  else if !d.due p.link.kaTick (us 1) then d
  else
    let d := if p.link.kaTick.isSome && !p.link.kaSeen then d.updCnt i fun c => { c with kaMiss := satInc c.kaMiss } else d
    let d := d.updLink i fun l => { l with kaTick := some d.clk.now, kaSeen := false }
    if 0 < p.exr.kaHold then d.updExr i fun e => { e with kaHold := e.kaHold - 1, drillEnd := d.clk.now }
    else
      let (q, r, s) := p.limits
      d.updLink i fun l => { l with ctl := .ka q r s l.kaCnt :: l.ctl, kaCnt := l.kaCnt + 1 }

def execKaSend (i : Nat) (s : State) : Host.Outcome State Fault Refusal :=
  .next (s.on (Device.when (isPort i) (Device.opKaSend i)))

end Sys2Proof.Machine
end

