-- ==== Sys2Proof/Machine/LinkTrain.lean ====
section
/-! DEFINITION. Training, timers, lane faults, changes and port resets of a port (R260, R264, R275, R281 to R291, R349,
R418). -/

namespace Sys2Proof.Machine

/-! ### Enabling and training (Table 11.6) -/

/-- A write of ENABLE (R418): 0 takes the port to DISABLED by a port reset, with the DOWN steps (Table 14.5), 1 to DETECT, where its
branch is ungated (R371); refused in EXERCISE. -/
def Device.opPortEnable (i : Nat) (v : Bool) (d : Device) : Device :=
  let p := d.port i
  if p.link.state == .exercise then d.countErr (pgPort i) errState
  else
    let d := d.updPort i fun p => { p with enable := v }
    if v then
      if p.link.state == .disabled && d.portClocked i then d.updLink i fun l => { (l.restart .detect d.clk.now) with eqFails := 0 } else d
    else if p.link.state == .disabled then d
    else
      let d := (d.enterDown i 9).forgetUnits i
      let d := d.updPort i fun p =>
        { p with resent := [], egReq := [], egRsp := [], planned := [], intake := [],
                 windows := (p.windows.map fun w => (w.1, { owner := w.2.owner : Window })).filter fun w => w.2 != {} }
      d.updLink i fun l => { (l.restart .disabled d.clk.now) with pool := [], rxReq := [], rxRsp := [] }

def execPortEnable (i : Nat) (v : Bool) (s : State) : Host.Outcome State Fault Refusal :=
  .next (s.on (Device.when (isPort i) (Device.opPortEnable i v)))

/-- DETECT to EQUALIZE with a signal on at least 4 receive lanes. -/
def Device.opPeerSignal (i : Nat) (lanes : BitVec 5) (d : Device) : Device :=
  if (d.port i).link.state == .detect && decide (4 ≤ (lanesOf lanes).length) then
    d.updLink i fun l => { l with state := .equalize, enteredAt := d.clk.now }
  else d

def execPeerSignalDetect (i : Nat) (lanes : BitVec 5) (s : State) : Host.Outcome State Fault Refusal :=
  .next (s.on (Device.when (isPort i) (Device.opPeerSignal i lanes)))

/-- Physical lanes whose last control word from the peer, lane by lane, has a good CRC16 and one of its bits set (Table 11.7). -/
def wordLanes (words : List (BitVec 128)) (b : Nat) : BitVec 5 :=
  laneMask ((words.filter fun w => trainingWordOk w && w.getLsbD b).map fun w => bits w.toNat 10 3)

/-- EQUALIZE to ALIGN with at least 4 ready lanes in each direction: the receivers of this end that have adapted, and the last
control words of the peer, whose RX_READY and PRECODE_REQ are about the lanes of this end's transmitter. Logical lanes go to the first
four ready lanes, and precoding applies where a receiver asked for it (R284). -/
def Device.opEqualizeDone (i : Nat) (rx rxPre : BitVec 5) (words : List (BitVec 128)) (d : Device) : Device :=
  let p := d.port i
  let tx := wordLanes words 8
  if p.link.state == .equalize && decide (4 ≤ (lanesOf rx).length) && decide (4 ≤ (lanesOf tx).length) then
    d.updLink i fun l =>
      { l with state := .align, enteredAt := d.clk.now, eqFails := 0, alignGood := 0, rxUsable := rx, txUsable := tx,
               rxMap := (lanesOf rx).take 4, txMap := (lanesOf tx).take 4,
               precode := if p.precodeEn then wordLanes words 9 else 0, rxPrecode := if p.precodeEn then rxPre else 0,
               mapEpoch := 0, rxEpoch := none, amCount := 0, badMarks := [], rxMarks := [], laneErrs := [], frameNo := 0, mapDue := [], trainRest := [] }
  else d

def execEqualizeDone (i : Nat) (rxReady rxPrecode : BitVec 5) (words : List (BitVec 128)) (s : State) :
    Host.Outcome State Fault Refusal :=
  .next (s.on (Device.when (isPort i) (Device.opEqualizeDone i rxReady rxPrecode words)))

/-- A state has lasted `t` ticks. -/
def Device.lasted (d : Device) (i : Nat) (st : LinkState) (t : Nat) : Bool :=
  (d.port i).link.state == st && d.since (d.port i).link.enteredAt t

/-- Back to DETECT. -/
def Device.toDetect (i : Nat) (d : Device) : Device := d.updLink i fun l => l.restart .detect d.clk.now

/-- EQUALIZE unfinished after 20 ms: DETECT, or DOWN with cause TRAIN after the third in a row. -/
def Device.opEqualizeTimeout (i : Nat) (d : Device) : Device :=
  if d.lasted i .equalize (ms 20) then
    if 2 ≤ (d.port i).link.eqFails then (d.enterDown i 1).updLink i fun l => { l with eqFails := 0 }
    else (d.toDetect i).updLink i fun l => { l with eqFails := l.eqFails + 1 }
  else d

def execEqualizeTimeout (i : Nat) (s : State) : Host.Outcome State Fault Refusal :=
  .next (s.on (Device.when (isPort i) (Device.opEqualizeTimeout i)))

def execAlignTimeout (i : Nat) (s : State) : Host.Outcome State Fault Refusal :=
  .next (s.on fun d => if isPort i && d.lasted i .align (ms 1) then d.toDetect i else d)
def execIdentifyTimeout (i : Nat) (s : State) : Host.Outcome State Fault Refusal :=
  .next (s.on fun d => if isPort i && d.lasted i .identify (us 100) then d.toDetect i else d)
def execInitTimeout (i : Nat) (s : State) : Host.Outcome State Fault Refusal :=
  .next (s.on fun d => if isPort i && d.lasted i .init (us 100) then d.toDetect i else d)

/-! ### Markers (R264) -/

/-- Put a physical lane at a logical position of a map. -/
def placeLane (m : List Nat) (logical lane width : Nat) : List Nat :=
  if 4 ≤ logical then m.filter (· != lane)
  else ((List.range width).map fun j => if j = logical then lane else m.getD j lane)

/-- A marker on one receive lane: a bad one is ignored and counted towards a lane fault, a good one gives the map and the
width and settles the port's own request (R264, R287, R288, PV-10). A lane whose place changed under the same MAP_EPOCH had its map
switched elsewhere than at a marker (PV-12; DEDUCED, log entry 51). A requester of width 4 widens its own direction once the
peer has widened (R256; DESIGN CHOICE, log entry 51). -/
def Device.opMarker (i lane : Nat) (m : Marker) (d : Device) : Device :=
  let l := (d.port i).link
  if !l.state.frames then d
  else if !m.crcOk then
    (d.violation i 10).updLink i fun l => { l with badMarks := Map.upd 0 l.badMarks lane (· + 1) }
  else if m.width ≠ m.logical then d.violation i 10
  else
    let moved := match l.rxEpoch with
      | some e => e != m.mapEpoch
      | none => false
    let skipped := match l.rxEpoch with
      | some e => e != m.mapEpoch && e + 1 != m.mapEpoch
      | none => false
    let moves := match Map.get none l.rxMarks lane with
      | some x => x.mapEpoch == m.mapEpoch && (x.llane != m.llane || x.width != m.width)
      | none => false
    let d := if skipped || moves then d.violation i 12 else d
    let rm := placeLane l.rxMap m.llane lane m.width
    let d := d.updLink i fun l => { l with badMarks := Map.set 0 l.badMarks lane 0, rxMarks := Map.set none l.rxMarks lane (some m), rxEpoch := some m.mapEpoch, rxMap := rm }
    let d := if moved then d.setIntBit (pgPort i) 5 else d
    let done (r : ChangeReq) : Bool :=
      (r.kind == 0 && rm.all fun x => !r.mask.getLsbD x) || (r.kind == 1 && m.width == r.width)
    (l.reqs.filter done).foldl (fun d r =>
      let d := d.updLink i (Link.endRequest d.clk.now r)
      if r.kind = 1 ∧ r.width = 4 ∧ l.txWidth < 4 ∧ 4 ≤ (lanesOf l.txUsable).length then d.switchMap i 4 false else d) d

def execAlignmentMarker (i lane : Nat) (m : Marker) (s : State) : Host.Outcome State Fault Refusal :=
  .next (s.on (Device.when (isPort i && decide (lane < 5)) (Device.opMarker i lane m)))

/-! ### Timers (R275, R281, R282) -/

def Device.opKeepalive (i : Nat) (d : Device) : Device :=
  let p := d.port i
  let held := p.link.reqs.any (·.fault)
  if p.link.state == .active && !held && d.since p.link.lastKa (us p.linkDownTo) then d.enterDown i 3 else d

def execKeepaliveTimeout (i : Nat) (s : State) : Host.Outcome State Fault Refusal :=
  .next (s.on (Device.when (isPort i) (Device.opKeepalive i)))

def execAutoRetry (i : Nat) (s : State) : Host.Outcome State Fault Refusal :=
  .next (s.on fun d => if isPort i && (d.port i).autoRetry && d.lasted i .down (ms 1) then d.toDetect i else d)

/-- The replay timer (R275). -/
def Device.opReplayTimeout (i : Nat) (d : Device) : Device :=
  let p := d.port i
  if p.link.state == .active && decide (0 < p.link.outstanding) && d.since p.link.timerAt (us p.replayTo) then
    (d.updLink i (Link.beginReplay d.clk.now)).updCnt i fun c => { c with replayTimer := satInc c.replayTimer }
  else d

def execReplayTimeout (i : Nat) (s : State) : Host.Outcome State Fault Refusal :=
  .next (s.on (Device.when (isPort i) (Device.opReplayTimeout i)))

/-! ### Lane faults and changes (R287, R288, R291) -/

/-- Spare lanes of a port under SD_NEAR: the check of what they receive is suspended (R409). -/
def Device.nearLanes (d : Device) (i : Nat) : BitVec 5 :=
  match d.st.running with
  | some r => if r.test = 6 ∧ r.target.toNat % 256 = i then BitVec.ofNat 5 (r.target.toNat / 256) else 0
  | none => 0

/-- Usable receive lanes that their errors show faulty: more than LANE_ERR_THR in each of two consecutive 1 µs windows, the later of which
is this one or has just ended, or two bad markers in a row (R287; the windows are DEDUCED, log entry 51). -/
def Device.noisyLanes (d : Device) (i : Nat) : BitVec 5 :=
  let p := d.port i
  laneMask ((lanesOf p.link.rxUsable).filter fun x =>
    let e := Map.get {} p.link.laneErrs x
    decide (p.laneErrThr < e.cnt ∧ p.laneErrThr < e.prev ∧ d.clk.now / us 1 ≤ e.win + 1) || decide (2 ≤ Map.get 0 p.link.badMarks x))

/-- Receive lanes found faulty: those of `mask`, whose signal is lost or whose markers are missing, and those that their errors show
(R287). A spare leaves service, lanes in use are named in a REPLACE request together with those that an
earlier one still names, and it asks for the width that the lanes left can carry (DEDUCED, log entry 51). -/
def Device.opLaneFault (i : Nat) (mask : BitVec 5) (d : Device) : Device :=
  let l := (d.port i).link
  let mask := (mask ||| d.noisyLanes i) &&& ~~~(d.nearLanes i)
  if l.state != .active then d
  else
    let used := laneMask ((lanesOf mask).filter l.rxMap.contains)
    let d := d.updLink i fun l => { l with rxUsable := l.rxUsable &&& ~~~mask }
    let w := if 4 ≤ (lanesOf (d.port i).link.rxUsable).length then l.rxMap.length else 3
    if used = 0 then d
    else match l.reqs.find? (fun r => r.fault && r.kind == 0) with
      | some r =>
        (d.setIntBit (pgPort i) 3).updLink i (fun l => { l with reqs := l.reqs.erase r }) |>.issueChange i 0 (r.mask ||| used) w 0 true r.since
      | none => (d.setIntBit (pgPort i) 3).issueChange i 0 used w 0 true d.clk.now

def execLaneFault (i : Nat) (mask : BitVec 5) (s : State) : Host.Outcome State Fault Refusal :=
  .next (s.on (Device.when (isPort i) (Device.opLaneFault i mask)))

/-- The marshal may ask for a change of its own: a RETRAIN of the lanes that are out of service in both directions, or width 4 for a
narrow port with four usable lanes (Table 11.8). The spec gives no register for such a request and says nowhere when the marshal
makes one: a free value decides (DESIGN CHOICE, log entry 51). -/
def Device.askChange (i : Nat) (d : Device) : Device :=
  let l := (d.port i).link
  let out := ~~~(l.txUsable ||| l.rxUsable)
  let narrow := decide (l.txWidth < 4) && decide (4 ≤ (lanesOf l.txUsable).length)
  if l.state != .active || l.reqs.any (!·.fault) || l.retrain.isSome || (out == 0 && !narrow) then d
  else
    let (f, d) := d.draw
    if f % 3 = 1 ∧ out ≠ 0 then d.issueChange i 2 out 4 0 false d.clk.now
    else if f % 3 = 2 ∧ narrow then d.issueChange i 1 0 4 0 false d.clk.now
    else d

/-- Every 1 µs an undone request is repeated (R288), but not one that waits out an equal-identity delay; the marshal may make its own. -/
def Device.opChgRepeat (i : Nat) (d : Device) : Device :=
  let l := (d.port i).link
  let due (r : ChangeReq) : Bool := (r.fault || l.retryAttempt.isNone) && d.since r.sentAt (us 1)
  if l.state != .active then d
  else ((l.reqs.filter due).foldl (fun d r =>
    (d.updLink i fun l => { l with reqs := l.reqs.map fun q => if q = r then { q with sentAt := d.clk.now } else q }).sendCtl i
      (d.reqBlock i r)) d).askChange i

def execChgReqRepeat (i : Nat) (s : State) : Host.Outcome State Fault Refusal :=
  .next (s.on (Device.when (isPort i) (Device.opChgRepeat i)))

/-- A fault's request that is not done within 20 µs: DOWN with cause CHANGE (R288). -/
def Device.opChangeTimeout (i : Nat) (d : Device) : Device :=
  if (d.port i).link.reqs.any fun r => r.fault && d.since r.since (us 20) then d.enterDown i 5 else d

def execChangeTimeout (i : Nat) (s : State) : Host.Outcome State Fault Refusal :=
  .next (s.on (Device.when (isPort i) (Device.opChangeTimeout i)))

/-- Delay before an equal-identity request is issued again, in µs (R291). -/
def Fuses.retryDelay (f : Fuses) (k : Nat) : Nat := 1 + bits f.serial.toNat (5 * k) 5

/-- The request of an equal-identity collision is issued again with the next ATTEMPT (R291). -/
def Device.opEqualRetry (i : Nat) (d : Device) : Device :=
  let l := (d.port i).link
  match l.reqs.find? (!·.fault), l.retryAttempt with
  | some r, some k =>
    if l.state == .active && d.since r.since (us (d.fuses.retryDelay k)) then
      (d.updLink i fun l => { l with reqs := l.reqs.erase r, retryAttempt := none }).issueChange i r.kind r.mask r.width (k + 1) false
        d.clk.now
    else d
  | _, _ => d

def execEqualIdRetry (i : Nat) (s : State) : Host.Outcome State Fault Refusal :=
  .next (s.on (Device.when (isPort i) (Device.opEqualRetry i)))

/-- The bad markers of some lanes are counted anew. -/
def forget (lanes : List Nat) (m : Map Nat) : Map Nat := lanes.foldl (fun m x => Map.set 0 m x 0) m

/-- RETRAIN ends: the masked lanes that have adapted become usable, in the receive direction those of this end, in the transmit
direction those whose last control word from the peer says so; a narrow port asks for width 4 (R284, Table 11.8). -/
def Device.opRetrainEnd (i : Nat) (got : Adapted) (d : Device) : Device :=
  match (d.port i).link.retrain with
  | none => d
  | some mask =>
    let agreed (m : BitVec 5) : BitVec 5 := mask &&& if (d.port i).precodeEn then m else 0
    let d := d.updLink i fun l =>
      { l with retrain := none, trainRest := [], rxUsable := l.rxUsable ||| (mask &&& got.ready),
               txUsable := l.txUsable ||| (mask &&& wordLanes got.words 8), badMarks := forget (lanesOf mask) l.badMarks,
               precode := (l.precode &&& ~~~mask) ||| agreed (wordLanes got.words 9),
               rxPrecode := (l.rxPrecode &&& ~~~mask) ||| agreed got.precode }
    let d := match (d.port i).link.reqs.find? (fun r => !r.fault && r.kind == 2) with
      | some r => d.updLink i (Link.endRequest d.clk.now r)
      | none => d
    let l := (d.port i).link
    if l.txWidth < 4 ∧ 4 ≤ (lanesOf l.txUsable).length ∧ (l.reqs.find? (!·.fault)).isNone then d.issueChange i 1 0 4 0 false d.clk.now
    else d

def execRetrainEqualizeEnd (i : Nat) (got : Adapted) (s : State) : Host.Outcome State Fault Refusal :=
  .next (s.on (Device.when (isPort i) (Device.opRetrainEnd i got)))

/-! ### Port reset and quiesce (R349, R418) -/

def execPortResetReq (i : Nat) (s : State) : Host.Outcome State Fault Refusal :=
  .next (s.on fun d => if isPort i && !(d.page (pgPort i)).inReset then d.portReset i 9 else d)

/-- QUIESCE acts on port and channel pages (R418). -/
def execQuiesce (slot : Nat) (v : Bool) (s : State) : Host.Outcome State Fault Refusal :=
  .next (s.on fun d => if pageType slot = 0x0E ∨ pageType slot = 0x0C then d.updPage slot fun h => { h with quiesce := v } else d)

/-- Zero the whole of a tile (R67, Table 14.5); OWNER stays. -/
def Tile.reset (t : Tile) : Tile := { owner := t.owner, gated := t.gated, substituted := t.substituted, sfuPad := t.sfuPad,
                                      sramCe := t.sramCe, cvtNan := t.cvtNan, accLoss := t.accLoss, accClamp := t.accClamp,
                                      accFlagBib := t.accFlagBib }

/-- Remove the errors that a tile reset overwrites. -/
def Device.clearTileUpsets (t : Nat) (d : Device) : Device :=
  (d.flt.upsets.filter fun u => match u.site with | .sram t' _ => t' == t | _ => false).foldl (fun d u => d.clearUpset u.site) d

/-- A tile reset with its array clear behind it. -/
def Device.tileZero (t : Nat) (d : Device) : Device := (d.updTile t Tile.reset).clearTileUpsets t

/-- A tile reset (Table 14.5). The array clear runs for the 6,144 cycles that follow (R67, Table 3.7). -/
def Device.tileReset (t : Nat) (d : Device) : Device :=
  (d.tileZero t).updTile t fun x => { x with clearUntil := d.cyc + 6144 }

/-- RESET_REQ on a tile page: refused while OWNER names a partition with a pacer that is not IDLE, ignored while a reset is in progress
(R349, R418). -/
def Device.opTileReset (t : Nat) (d : Device) : Device :=
  let busy : Bool := match d.ownerPart (d.tile t).owner with
    | some k => (d.pacersOf k).any fun p => (d.pacer p).state != .idle
    | none => false
  if d.clearing t then d
  else if busy then d.countErr (pgTile t) errState
  else d.tileReset t

def execTileResetReq (t : Nat) (s : State) : Host.Outcome State Fault Refusal :=
  .next (s.on (Device.when (decide (t < 208)) (Device.opTileReset t)))

end Sys2Proof.Machine
end

