-- ==== Sys2Proof/Machine/Drill.lean ====
section
/-! DEFINITION. The link exerciser (R293, R294) and drills: authorisations (R338) and injections (R339, R340). -/

namespace Sys2Proof.Machine

/-! ### Drill authorisations (R338) -/

/-- The active authorisation, while TIME lies within its window (R340). -/
def Device.drillActive (d : Device) : Option DrillAuth :=
  match d.mb.drillAuth with
  | some a => if a.notBefore.toNat ≤ d.tk.time.toNat ∧ d.tk.time.toNat ≤ a.notAfter.toNat then some a else none
  | none => none

/-- The result of a submitted authorisation (R338). -/
def Device.drillCheck (d : Device) (b : List Byte) : Nat :=
  let sl (o n : Nat) : List Byte := (b.drop o).take n
  let f (o n : Nat) : Nat := leNat (sl o n)
  let pub := sl 0x1253 2592
  if f 0 4 ≠ 0x4C524444 ∨ f 4 2 ≠ 1 ∨ sha3_512 pub ≠ d.fuses.drillHash ∨
      Config.mldsaVerify pub (b.take 64) (sl 0x40 4627) = false then 1
  else if f 8 8 ≠ d.fuses.serial.toNat then 2
  else if d.tk.time.toNat < f 0x10 8 ∨ f 0x18 8 < d.tk.time.toNat ∨ d.tk.valid = false ∨
      f 0x10 8 + 86400 * 16000000000 < f 0x18 8 then 3
  else if (match d.mb.lastDseq with | some x => decide (f 0x20 4 ≤ x.toNat) | none => false) then 4
  else if d.fuses.lc ≠ 3 then 5
  else 0

/-- A write of DRILL_ADDR HI (R338). -/
def Device.opDrillAddr (hi : W32) (d : Device) : Device :=
  let a := d.mb.drillAddr.toNat % 2 ^ 32 + hi.toNat * 2 ^ 32
  let d := d.updMb fun m => { m with drillAddr := BitVec.ofNat 64 a }
  let (b, d) := d.localRead (a % 2 ^ 48) 7283
  let r := d.drillCheck b
  let f (o n : Nat) : Nat := leNat ((b.drop o).take n)
  let d := d.updMb fun m =>
    { m with drillResult := r, drillValid := true,
             drillAuth := if r = 0 then some { kinds := f 6 2, notBefore := BitVec.ofNat 64 (f 0x10 8),
                                               notAfter := BitVec.ofNat 64 (f 0x18 8), left := f 0x24 2,
                                               parts := BitVec.ofNat 8 (f 0x26 1), ports := BitVec.ofNat 32 (f 0x28 4) }
                          else m.drillAuth,
             lastDseq := if r = 0 then some (BitVec.ofNat 32 (f 0x20 4)) else m.lastDseq }
  d.setIntBit pgMailbox 4

def execDrillAddrSubmit (hi : W32) (s : State) : Host.Outcome State Fault Refusal := .next (s.on (Device.opDrillAddr hi))

/-! ### Permission -/

/-- The active authorisation permits a kind on a port, or on a unit of a partition. -/
def Device.drillPermits (d : Device) (kind : Nat) (port part : Option Nat) : Bool :=
  match d.drillActive with
  | none => false
  | some a =>
    decide (0 < a.left) && a.kinds.testBit kind &&
      (match port, part with
       | some i, _ => decide (i < 32) && a.ports.getLsbD i
       | none, some k => decide (k < 8) && a.parts.getLsbD k
       | none, none => false)

/-- Arm an injection that is permitted; a refused one is counted on the mailbox page (R340). -/
def Device.drillDo (ok : Bool) (f : Device → Device) (d : Device) : Device :=
  if !ok then d.countErr pgMailbox 0x0150
  else
    let d := d.updMb fun m => { m with drillCnt := satInc m.drillCnt, drillAuth := m.drillAuth.map fun a => { a with left := a.left - 1 } }
    f d

/-- DRILL_TARGET as a port and a lane. -/
def Device.drillPort (d : Device) : Nat := bits d.mb.drillTarget.toNat 0 5
def Device.drillLane (d : Device) : Nat := bits d.mb.drillTarget.toNat 8 3

/-- A port that an injection may act on: it runs (R293), it is not FAILED and not under self-test. -/
def Device.drillPortOk (d : Device) (i : Nat) : Bool :=
  let st := (d.port i).link.state
  isPort i && (st == .active || st == .exercise) && !d.flt.failedPorts.contains i && !d.testing [5] i

/-- A drill on the port of DRILL_TARGET. -/
def Device.portDrill (kind : Nat) (ok : Bool) (f : Exerciser → Exerciser) (d : Device) : Device :=
  let i := d.drillPort
  let now := d.clk.now
  d.drillDo (ok && d.drillPortOk i && d.drillPermits kind (some i) none) fun d =>
    d.updExr i fun e => { f e with drill := true, drillEnd := now }

/-- LINK_SYM: n symbol errors in one codeword of the next frame. -/
def Device.opLinkSym (n : Nat) (d : Device) : Device :=
  d.portDrill 0 (decide (1 ≤ n) && decide (n ≤ 60)) fun e => { e with symErr := n }

def execLinkSym (n : Nat) (s : State) : Host.Outcome State Fault Refusal := .next (s.on (Device.opLinkSym n))

/-- LINK_ACK: ACKV clear, or NAK set, for n frames. -/
def Device.opLinkAck (n : Nat) (nak : Bool) (d : Device) : Device :=
  d.portDrill 1 (decide (1 ≤ n) && decide (n ≤ 65535)) fun e =>
    if nak then { e with nakSet := n } else { e with ackvClear := n }

def execLinkAck (n : Nat) (nak : Bool) (s : State) : Host.Outcome State Fault Refusal := .next (s.on (Device.opLinkAck n nak))

/-- KA_HOLD: keep-alives withheld for n periods. -/
def Device.opKaHold (n : Nat) (d : Device) : Device :=
  d.portDrill 2 (decide (1 ≤ n) && decide (n ≤ 255)) fun e => { e with kaHold := n }

def execKaHold (n : Nat) (s : State) : Host.Outcome State Fault Refusal := .next (s.on (Device.opKaHold n))

/-- LANE_LOSS: a transmit lane in electrical idle. -/
def Device.opLaneLoss (d : Device) : Device :=
  let l := d.drillLane
  let now := d.clk.now
  d.portDrill 3 (decide (l < 5)) fun e => { e with idleLanes := e.idleLanes ||| BitVec.ofNat 5 (2 ^ l), idleSince := now }

def execLaneLoss (s : State) : Host.Outcome State Fault Refusal := .next (s.on Device.opLaneLoss)

/-- The 10 s limit of a LANE_LOSS injection (Table 13.4). -/
def execLaneLossRelease (i : Nat) (s : State) : Host.Outcome State Fault Refusal :=
  .next (s.on fun d =>
    let e := (d.port i).exr
    if isPort i && e.idleLanes != 0 && e.drill && d.since e.idleSince (ms 10000) then
      d.updExr i fun e => { e with idleLanes := 0, drillEnd := d.clk.now } else d)

/-! ### ECC injections (Table 13.4) -/

/-- A unit, by its pacer identity, is under self-test: its region, or the unit itself (Table 17.3). -/
def Device.underTest (d : Device) (p : Nat) : Bool :=
  d.testing [0] (pacerRegion p) ||
    if p < 208 then d.testing [1, 2] p
    else if p < 320 then d.testing [3] (p - 256)
    else if p < 384 then d.testing [8, 9] (p - 320)
    else d.testing [5] (p - 384)

/-- Words of the stores of a BME, in the order of Table 5.1. -/
def bmeWords (store : Nat) : Nat := [4096, 8320, 8192, 4096, 4096, 16384].getD store 0

/-- The site of a word address, with the unit's partition, and whether the unit may take an injection (R340). -/
def Device.drillSite (d : Device) (a : Nat) : Option (Site × Nat × Nat × Bool) :=
  match d.place a with
  | .tile t o =>
    (d.tilePart t).map fun k =>
      (.sram t (tileWord o), 0, k, (d.pacer t).state != .idle && !d.flt.failedTiles.contains t && !d.underTest t)
  | .dram c o =>
    (d.chanPart c).map fun k =>
      (.dram c (o / 64), o % 64 / 8, k, (d.pacer (320 + c)).state != .idle && (d.chan c).state == .available && !d.underTest (320 + c))
  | .reqtab o =>
    some (.reqtab (o / 32) (o % 32 / 8), 0, ReqEntry.part (d.req (o / 32)), !d.testing [4] 0)
  | .reserved =>
    -- Table 6.2 gives the stores of a BME no address: which of the remaining ones name their words is free (DESIGN CHOICE, log entry 19)
    match Config.bmeWord a with
    | some (c, store, w) =>
      if 24 ≤ c ∨ bmeWords store ≤ w then none
      else (d.chanPart c).map fun k =>
        (.bme c store w, 0, k, (d.pacer (256 + c)).state != .idle && !d.flt.failedGroups.contains (c / 3) && !d.underTest (256 + c))
    | none => none
  | _ => none

/-- Invert data bits of the word of DRILL_TARGET. -/
def Device.eccDrill (kind : Nat) (dataMask : Nat) (d : Device) : Device :=
  match d.drillSite (d.mb.drillTarget.toNat % 2 ^ 48) with
  | none => d.drillDo false id
  | some (site, w, k, ok) =>
    d.drillDo (ok && d.drillPermits kind none (some k)) fun d =>
      d.addUpset site (List.replicate w 0 ++ [dataMask * 256]) [] true

/-- ECC_SINGLE: one data bit inverted, bit DRILL_N modulo 64 (DESIGN CHOICE, log entry 19). -/
def execEccSingle (n : Nat) (s : State) : Host.Outcome State Fault Refusal := .next (s.on (Device.eccDrill 4 (2 ^ (n % 64))))

/-- ECC_DOUBLE: data bits 0 and 2 inverted. -/
def execEccDouble (s : State) : Host.Outcome State Fault Refusal := .next (s.on (Device.eccDrill 5 5))

/-- ECC_DEVICE: the symbol of device DRILL_N modulo 10 of a DRAM line is corrupted in the burst, by values the spec does
not give (DESIGN CHOICE, log entries 5, 19). -/
def Device.opEccDevice (n : Nat) (d : Device) : Device :=
  match d.drillSite (d.mb.drillTarget.toNat % 2 ^ 48) with
  | some (.dram c l, _, k, ok) =>
    d.drillDo (ok && d.drillPermits 6 none (some k)) fun d =>
      let j := n % 10
      let (xs, d) := (List.range 8).foldl (fun (acc : List Nat × Device) _ => (acc.1 ++ [1 + acc.2.draw.1 % 255], acc.2.draw.2))
        (([] : List Nat), d)
      if j < 9 then d.addUpset (.dram c l) (xs.map fun x => setSymbol 0 j x) [] true
      else d.addUpset (.dram c l) [] (xs.map fun x => BitVec.ofNat 8 x) true
  | _ => d.drillDo false id

def execEccDevice (n : Nat) (s : State) : Host.Outcome State Fault Refusal := .next (s.on (Device.opEccDevice n))

/-- PACER_STUCK: the pacer issues no stride until its stall timer expires. -/
def Device.opPacerStuck (d : Device) : Device :=
  let p := bits d.mb.drillTarget.toNat 0 10
  let ok := isPacer p && (d.pacer p).state != .idle &&
    !d.underTest p &&
    (if p < 208 then !d.flt.failedTiles.contains p
     else if p < 344 then !d.flt.failedGroups.contains (p % 64 / 3) else !d.flt.failedPorts.contains (p - 384))
  d.drillDo (ok && d.drillPermits 7 none (d.pacerPart p)) fun d => d.updPacer p fun x => { x with stuck := true }

def execPacerStuck (s : State) : Host.Outcome State Fault Refusal := .next (s.on Device.opPacerStuck)

/-! ### The exerciser (R293, R294) -/

/-- Enter EXERCISE from DISABLED, where the port has its clock (R371), or from ACTIVE through the DOWN steps with cause DISABLED. -/
def Device.enterExercise (i : Nat) (d : Device) : Option Device :=
  match (d.port i).link.state with
  | .exercise => some d
  | .disabled => if d.portClocked i then some (d.updLink i fun l => { l with state := .exercise, enteredAt := d.clk.now }) else none
  | .active => some ((d.enterDown i 9).updLink i fun l => { l with state := .exercise, enteredAt := d.clk.now })
  | _ => none

/-- A mode that needs EXERCISE starts; from another state it is refused. -/
def Device.exrMode (i mode : Nat) (f : Exerciser → Exerciser) (d : Device) : Device :=
  match d.enterExercise i with
  | some d => d.updExr i fun e => f { e with mode := mode, prbs := [] }
  | none => d.countErr (pgPort i) errState

/-- Bit errors that the receivers have counted, lane by lane in 48 bits and summed for EXR_ERR, and the eye margins that they have
measured. -/
def Exerciser.measured (m : PrbsSeen) (e : Exerciser) : Exerciser :=
  { e with errLane := (List.range 5).foldl (fun t x => Map.upd 0 t x (· + BitVec.ofNat 48 (m.errors.getD x 0))) e.errLane,
           err := e.err + BitVec.ofNat 64 m.errors.sum, eyes := m.height.zip m.eye, eyesMeet := eyesOk (m.height.zip m.eye) }

/-- PRBS mode, with what its receivers have measured. -/
def execExrPrbs (i : Nat) (m : PrbsSeen) (s : State) : Host.Outcome State Fault Refusal :=
  .next (s.on (Device.when (isPort i) (Device.exrMode i 1 (Exerciser.measured m))))

/-- LOOP mode. -/
def execExrLoop (i : Nat) (s : State) : Host.Outcome State Fault Refusal :=
  .next (s.on (Device.when (isPort i) (Device.exrMode i 2 id)))

/-- TRAFFIC: EXR blocks in ACTIVE beside ordinary traffic. -/
def Device.opExrTraffic (i : Nat) (d : Device) : Device :=
  if (d.port i).link.state == .active then
    d.updExr i fun e => { e with mode := 3, traffic := true, burstLeft := e.burst, gapLeft := 0, sent := none }
  else d.countErr (pgPort i) errState

def execExrTraffic (i : Nat) (s : State) : Host.Outcome State Fault Refusal :=
  .next (s.on (Device.when (isPort i) (Device.opExrTraffic i)))

/-- CHECK: the passive protocol checker, from ALIGN onward. -/
def Device.opExrCheck (i : Nat) (d : Device) : Device :=
  if (d.port i).link.state.frames then d.updExr i fun e => { e with mode := 5, check := true, seen := none }
  else d.countErr (pgPort i) errState

def execExrCheck (i : Nat) (s : State) : Host.Outcome State Fault Refusal :=
  .next (s.on (Device.when (isPort i) (Device.opExrCheck i)))

/-- An INJECT of the exerciser (R293, R294): free in MANUFACTURE and RETURNED; in DEPLOYED only as the active drill
authorisation permits its kind on the port; else refused. `n` is EXR_BURST. -/
def Device.inject' (i kind lo hi : Nat) (f : Nat → Exerciser → Exerciser) (d : Device) : Device :=
  let p := d.port i
  let n := p.exr.burst
  let st := p.link.state
  let lc := d.fuses.lc
  if !(st == .active || st == .exercise) then d.countErr (pgPort i) errState
  else if n < lo ∨ hi < n then d.countErr (pgPort i) errRange
  else if lc = 1 ∨ lc = 4 then d.updExr i fun e => f n { e with mode := 4 }
  else if lc = 3 ∧ d.drillPermits kind (some i) none then
    (d.updMb fun m => { m with drillCnt := satInc m.drillCnt, drillAuth := m.drillAuth.map fun a => { a with left := a.left - 1 } }).updExr i
      fun e => { f n { e with mode := 4 } with drill := true, drillEnd := d.clk.now }
  else d.countErr (pgPort i) 0x0160

def execInjectSymbolErrors (i : Nat) (s : State) : Host.Outcome State Fault Refusal :=
  .next (s.on (Device.when (isPort i) (Device.inject' i 0 1 60 fun n e => { e with symErr := n })))
def execInjectAckvClear (i : Nat) (s : State) : Host.Outcome State Fault Refusal :=
  .next (s.on (Device.when (isPort i) (Device.inject' i 1 1 65535 fun n e => { e with ackvClear := n })))
def execInjectNak (i : Nat) (s : State) : Host.Outcome State Fault Refusal :=
  .next (s.on (Device.when (isPort i) (Device.inject' i 1 1 65535 fun n e => { e with nakSet := n })))
def execInjectKaWithhold (i : Nat) (s : State) : Host.Outcome State Fault Refusal :=
  .next (s.on (Device.when (isPort i) (Device.inject' i 2 0 65535 fun n e => { e with kaHold := n })))
def execInjectLaneIdle (i : Nat) (s : State) : Host.Outcome State Fault Refusal :=
  .next (s.on fun d =>
    let now := d.clk.now
    if isPort i then d.inject' i 3 0 65535 fun _ e => { e with idleLanes := e.idleLanes ||| BitVec.ofNat 5 (2 ^ e.injLane), idleSince := now }
    else d)

/-- EXR_MODE 0: the exerciser is off; a port in EXERCISE is released to DETECT (Table 11.6). -/
def Device.exrOff (i : Nat) (d : Device) : Device :=
  let d := d.updExr i fun e => { e with mode := 0, traffic := false, check := false, idleLanes := 0 }
  if (d.port i).link.state == .exercise then d.toDetect i else d

/-- EXR_GO (Table 19.7): start the mode, or arm the injection, that the register holds. -/
def Device.exrGo (i : Nat) (d : Device) : Device :=
  let e := (d.port i).exr
  let now := d.clk.now
  match e.mode with
  | 0 => d.exrOff i
  | 1 => d.exrMode i 1 id
  | 2 => d.exrMode i 2 id
  | 3 => d.opExrTraffic i
  | 4 => match e.injKind with
    | 0 => d.inject' i 0 1 60 fun n e => { e with symErr := n }
    | 1 => d.inject' i 1 1 65535 fun n e => { e with ackvClear := n }
    | 2 => d.inject' i 1 1 65535 fun n e => { e with nakSet := n }
    | 3 => d.inject' i 2 0 65535 fun n e => { e with kaHold := n }
    | 4 => d.inject' i 3 0 65535 fun _ e => { e with idleLanes := e.idleLanes ||| BitVec.ofNat 5 (2 ^ e.injLane), idleSince := now }
    | _ => d.countErr (pgPort i) errReserved
  | 5 => d.opExrCheck i
  | _ => d.countErr (pgPort i) errReserved

end Sys2Proof.Machine
end

