-- ==== Sys2Proof/Machine/PortOps.lean ====
section
/-! DEFINITION. Port operations (R307 to R311, Table 12.6): PSEND, PDLV, QXFER, and planned PUTs that complete in a window
slot. -/

namespace Sys2Proof.Machine

/-- A port pacer. -/
def isPortPacer (p : Nat) : Bool := 384 ≤ p && p < 410

/-- PSEND, flit `n`: the flit at the ingress port is taken; with the last one the planned PUT is sent (R307, R308). -/
def Device.opPsend (p n : Nat) (d : Device) : Device :=
  if !isPortPacer p then d
  else d.onIngress p 0x30 n anyOpnd fun o cfg x d =>
    let f := psendFields o
    let i := p - 384
    let bs := leBytes 128 x.toNat
    let d := (d.takeDigest p bs).updPort i fun q => { q with intake := if n = 0 then bs else q.intake ++ bs }
    if n < f.nflit then d
    else
      let data := (d.port i).intake
      let d := d.updPort i fun q => { q with intake := [] }
      let peer := cfg.peer f.peer
      match d.pacerPart p with
      | none => d
      | some k =>
        if (d.part k).shadow.role = 2 then d.suppress k
        else if !peer.valid ∨ !d.mayOriginate i then d
        else d.updPort i (·.enqueue
          { kind := .put, planned := true, dstPart := peer.part, srcPart := k, dstId := peer.dev, srcId := d.tr.myId,
            srcEpoch := (d.part k).epoch, stamp := d.stampNow, len := data.length, dstCc := f.cc, wslot := f.wslot,
            payload := data })

def execPsend (p n : Nat) (s : State) : Host.Outcome State Fault Refusal := .next (s.on (Device.opPsend p n))

/-! ### Window slots (R310) -/

/-- A slot as it stands now: a delivered slot is empty from its cycle on. -/
def Port.window (p : Port) (now w : Nat) : Window :=
  let x : Window := Map.get {} p.windows w
  match x.freeAt with
  | some c => if c ≤ now then { owner := x.owner } else x
  | none => x

/-- PDLV of a complete slot: its flits leave from t + 4 on, zeros where the PUT lacks them; an incomplete slot is hold cause
6 (R310). -/
def Device.opPdlv (p : Nat) (d : Device) : Device :=
  if !isPortPacer p then d
  else
    let i := p - 384
    let slot (o : Nat) : Window := (d.port i).window d.cyc (pdlvFields o).wslot
    d.onInput p 0x31 0 6 anyOpnd (fun o _ => (slot o).complete) fun o cfg d =>
      let f := pdlvFields o
      let w := slot o
      let flits := List.range (f.nflit + 1)
      let lack := (flits.filter fun j => decide (w.data.length < 128 * (j + 1))).length
      let d := d.forAll flits fun j d =>
        d.inject p (4 + j) cfg f.route (BitVec.ofNat 1024 (leNat ((w.data.drop (128 * j)).take 128)))
      let d := if lack = 0 then d else d.updCnt i fun c => { c with winMismatch := satAdd c.winMismatch lack }
      d.updPort i fun q => { q with windows := (Map.set {} q.windows f.wslot
        { w with complete := false, freeAt := some (d.cyc + 5 + f.nflit) }) }

def execPdlv (p : Nat) (s : State) : Host.Outcome State Fault Refusal := .next (s.on (Device.opPdlv p))

/-- Fill a window slot with a complete PUT. -/
def Device.fillWindow (i w : Nat) (data : List Byte) (d : Device) : Device :=
  d.updPort i fun q => { q with windows := (Map.set {} q.windows w
    { full := true, complete := true, data := data, owner := q.owner, freeAt := none }) }

/-- A planned PUT has arrived whole on a port (R310): misrouted, discarded, waiting for its slot, or complete in it with
DST_CC incremented; a primary mirrors it (Table 13.2). -/
def Device.takePlanned (i : Nat) (u : XUnit) (d : Device) : Device :=
  let p := d.port i
  let k := u.dstPart
  if !d.forUs i u then
    (d.takeRx i u).updCnt i fun c => { c with planMisroute := satInc c.planMisroute }
  else if d.pacerPart (384 + i) ≠ some k ∨ (d.pacer (384 + i)).state = .idle ∨ (u.dstCc = 63 ∧ d.servingPart k) then
    (d.takeRx i u).updCnt i fun c => { c with planDiscard := satInc c.planDiscard }
  else if (p.window d.cyc u.wslot).full then d
  else
    let d := (d.takeRx i u).fillWindow i u.wslot u.payload
    let d := d.updCc k u.dstCc Cc.bump
    if (d.part k).shadow.role = 1 then
      d.mirrorPut k (2 ^ 40 + i) true u.dstCc u.wslot u.payload
    else d

def Device.opPlannedPut (i : Nat) (u : XUnit) (d : Device) : Device :=
  if !(u.planned && u.kind == .put) then d
  else d.fromPool i u fun d =>
    if d.stale u || u.mir then d.takeOutside i u id else d.takePlanned i u

def execPlannedPutComplete (i : Nat) (u : XUnit) (s : State) : Host.Outcome State Fault Refusal :=
  .next (s.on (Device.when (isPort i) (Device.opPlannedPut i u)))

/-! ### QXFER (R311, Table 12.8) -/

/-- A transfer record as the unit it makes, without its payload. -/
def recordUnit (k : Nat) (epoch : W16) (b : List Byte) : XUnit × Nat :=
  let f (o n : Nat) : Nat := leNat ((b.drop o).take n)
  let ctl := f 0x10 4
  let laddr := f 0 8 % 2 ^ 48
  let base : XUnit :=
    { dstPart := bits ctl 16 3, srcPart := k, dstId := BitVec.ofNat 16 (f 0x0E 2), dstEpoch := BitVec.ofNat 16 (f 0x14 2),
      addr := f 8 8 % 2 ^ 48, srcEpoch := epoch, len := bits ctl 0 13, dstCc := f 0x16 1 % 64, ackCc := f 0x17 1 % 64 }
  if bit ctl 20 then ({ base with kind := .get, raddr := laddr }, laddr)
  else ({ base with kind := .put, ackReq := bit ctl 19 }, laddr)

/-- A length that Table 12.3 allows. -/
def lenOk (n : Nat) : Bool := 8 ≤ n && n ≤ 4096 && n % 8 == 0

/-- The unit of a record with its payload, or none where it is discarded: a reserved length, or a payload that the
partition cannot read (DESIGN CHOICE, log entry 20). -/
def Device.loadRecord (k : Nat) (b : List Byte) (d : Device) : Option XUnit × Device :=
  let (u, la) := recordUnit k (d.part k).epoch b
  if !lenOk u.len then (none, d)
  else if u.kind = .get then (some u, d)
  else if !d.inRange k la u.len || d.readDenied none k la u.len then (none, d)
  else
    let (bs, d) := d.accessRead k la u.len
    (bs.map fun bs => { u with payload := bs }, d)

/-- Load the records of a list in order. -/
def Device.loadRecords (k : Nat) : List (List Byte) → Device → List XUnit × Device
  | [], d => ([], d)
  | b :: t, d =>
    let (u, d) := d.loadRecord k b
    let (us, d) := Device.loadRecords k t d
    (u.toList ++ us, d)

/-- Hand one unit of a list to the transport (R297, R311). A shadow sends none (R334), and one for this device itself needs no link. -/
def Device.handOver (k : Nat) (u : XUnit) (d : Device) : Device :=
  let gone (d : Device) : Device := d.unitGone { u with srcId := d.tr.myId }
  if (d.part k).shadow.role = 2 then gone (d.suppress k)
  else if u.dstId = d.tr.myId ∧ d.tr.myId ≠ 0xFFFF then gone (d.originate none u)
  else d.originate none u

/-- QXFER: COUNT_M1 + 1 records, in list order, become PUTs and GETs; LCC counts the list once it is
gone (R311). Placement has put the physical address into the stride (R172). -/
def Device.opQxfer (p : Nat) (d : Device) : Device :=
  if !isPortPacer p then d
  else d.onIssue p 0x32 0 anyOpnd fun o _ d =>
    let f := qxferFields o
    match d.pacerPart p with
    | none => d
    | some k =>
      let (bs, d) := d.readBytes k (64 * f.line) (32 * (f.count + 1))
      let (us, d) := d.loadRecords k (chunks 32 (f.count + 1) bs)
      if us.isEmpty then d.updCc k f.lcc Cc.bump
      else
        let d := d.updPart k fun q => { q with qlists := q.qlists ++ [{ units := us.map XUnit.bare, lcc := f.lcc }] }
        us.foldl (fun d u => d.handOver k u) d

def execQxfer (p : Nat) (s : State) : Host.Outcome State Fault Refusal := .next (s.on (Device.opQxfer p))

end Sys2Proof.Machine
end

