-- ==== Sys2Proof/Machine/Clocks.lean ====
section
/-! DEFINITION. Stretch and its run limit (R218 to R222, R375), relay slips (R223 to R226), operating-point changes (R214 to
R217, R369), and the lap snapshot (R228). -/

namespace Sys2Proof.Machine

/-- Generator indices of the pace regions (Table 14.3): 30 is S0, where the coupling hub stands. -/
def allRegions : List Nat := List.range 31

/-! ### Stretched periods (R219 to R221, R375) -/

/-- The region is asked to stretch its period of cycle `c`. -/
def Region.ask (c : Nat) (r : Region) : Region :=
  if r.failed || r.asked.contains c then r else { r with asked := r.asked ++ [c] }

/-- Delay that the end of cycle `c` adds, the delays of the last 64 cycles being kept. -/
def Region.addDelay (c n : Nat) (r : Region) : Region :=
  { r with delay := r.delay + n, late := (r.late.filter fun x => decide (c < x.1 + 64)) ++ (if n = 0 then [] else [(c, n)]) }

/-- The period of cycle `c` ends in a region (R219, R220): stretched where that was asked; after a run of 8 it is nominal whatever was
asked, and counted. -/
def Region.endCycle (c : Nat) (r : Region) : Region :=
  let r' := { r with asked := r.asked.filter (· != c) }
  if r.run = 8 then { r' with run := 0, runLimitCnt := satInc r.runLimitCnt }
  else if !r.asked.contains c then { r' with run := 0 }
  else { r'.addDelay c 1 with run := r.run + 1, stretchCnt := satInc r.stretchCnt }

/-- Cycle `c` of the hub's sequence Q is set (R221): region Y is asked to stretch its cycle c + d_Y. -/
def Device.askAll (c : Nat) (d : Device) : Device := d.forAll allRegions fun g => Device.updRegion g (Region.ask (c + couple g))

/-- A region's detector sees droop in the present cycle (R219, R221): it stretches its own cycle n + 2, or in lockstep mode sets
Q(n + 2). -/
def Device.opDroop (g : Nat) (d : Device) : Device :=
  if d.clk.gun = .fired ∧ !(d.region g).failed then
    if d.lockstep then d.askAll (d.cyc + 2) else d.updRegion g (Region.ask (d.cyc + 2))
  else d

def execDroopDetect (g : Nat) (s : State) : Host.Outcome State Fault Refusal :=
  .next (s.on (Device.when (isRegion g) (Device.opDroop g)))

/-- The governor's part of Q (R375): at level k the first k periods of every group of 9 cycles, in both modes. -/
def Device.governorStretch (d : Device) : Device :=
  let c := d.cyc + 2
  if c % 9 < d.pwr.govLevel && !d.clk.govAsked.contains c then
    (d.askAll c).updClk fun k => { k with govAsked := k.govAsked.filter (fun x => decide (d.cyc ≤ x)) ++ [c] }
  else d

/-- The period of the present cycle ends in every region, S0's among them: the time it has taken (R213, R218, R236). GOV_CNT counts
the governor's periods of Q that were stretched. -/
def Device.endPeriod (d : Device) : Device :=
  let c := d.cyc
  let before := d.region 30
  let d := d.forAll allRegions fun g d =>
    let r := d.region g
    if r.asked.isEmpty && r.run == 0 then d
    else
      let r' := r.endCycle c
      let d := d.updRegion g fun _ => r'
      if r'.runLimitCnt != r.runLimitCnt then d.setIntBit (pgRegion g) 2 else d
  if (d.region 30).delay = before.delay then d.elapse 64
  else
    let d := d.elapse 80
    if d.clk.govAsked.contains c then d.updPwr fun p => { p with govCnt := satInc p.govCnt } else d

/-- At cycle 65,503 of the lap every region takes its snapshot (R228). -/
def Device.opSnapshot (d : Device) : Device :=
  if d.clk.gun = .fired ∧ d.clk.lapCyc = 65503 then
    d.forAll allRegions fun g d => d.updRegion g fun r => if r.failed then r else { r with snap := r.delay }
  else d

def execLapSnapshot (s : State) : Host.Outcome State Fault Refusal := .next (s.on Device.opSnapshot)

/-! ### Relay slips (R225, R247) -/

/-- Bib of a partition's commit pacer. -/
def Device.commitBib (d : Device) (k : Nat) : W32 :=
  match (d.part k).image with
  | some im => d.bib im.commitPacer
  | none => 0

/-- A read of a relay finds another TAG in this cycle than that of sender cycle m - K: late when the sender has yet to begin that cycle, and
the slot holds the entry of 16 cycles before; early when it has begun the cycle 16 after it (R223 to R225). In lockstep mode pace coupling
keeps every TAG right, and the slip of a unit that has failed is taken as the command tells it (R224, R252; DESIGN CHOICE, log entry
48). -/
def Device.slips (d : Device) (r : Nat) (early : Bool) : Bool :=
  let w := d.senderAt r d.cyc
  d.lockstep || (if early then decide (d.cyc + 16 ≤ w + relayK r) else decide (w + relayK r < d.cyc))

/-- Flits whose entry a SLIPPED relay has yet to pass on go to the delay line in the cycle they are written; the entry that was to be
read now goes with them (R225, R247). -/
def Device.slipFlits (r : Nat) (d : Device) : Device :=
  let n := d.slipShift r
  let k := relayK r
  let pass := fun f : Flit => if f.cross.any fun x => x.1 == r && decide (d.cyc ≤ x.2 + k) then f.shift d.cyc n else f
  { d with net := { d.net with flits := d.net.flits.map pass } }

/-- A read of a relay finds another TAG (R225): no flit is delivered, SLIPPED, RELAY_SLIP_CNT of the receiving region, and a false
start or a hold with cause 5 in every partition of the user mask. -/
def Device.opSlip (r : Nat) (early : Bool) (d : Device) : Device :=
  match relayRegions r with
  | none => d
  | some (_, g) =>
    if d.clk.gun = .fired && d.slips r early then
      let d := if (d.relay r).slipped then d else d.slipFlits r
      let d := d.updRelay r fun x => { x with slipped := true }
      let d := (d.updRegion g fun x => { x with slipCnt := satInc x.slipCnt }).setIntBit (pgRegion g) 1
      (Map.get [] d.clk.users r).foldl (fun d u =>
        if d.pcid u.1 == u.2 && d.running u.1 then
          if d.lockstep then
            d.raise { code := 0x0101, unit := r, pcid := u.2, action := 2, bib := d.commitBib u.1, cause := 5 }
          else d.holdCause u.1 r g 5
        else d) d
    else d

def execRelaySlip (r : Nat) (early : Bool) (s : State) : Host.Outcome State Fault Refusal :=
  .next (s.on (Device.when (isRelay r) (Device.opSlip r early)))

/-! ### Operating points (R214 to R217) -/

/-- A point lies in the ranges of R216: of every partition that is RUNNING or LOADED, and within the host's bounds. -/
def Device.opAllowed (d : Device) (op : Nat) : Bool :=
  op ≤ 4 && d.pwr.fastLimit ≤ op && op ≤ d.pwr.slowLimit &&
  partList.all fun k => match (d.part k).run.phase, (d.part k).image with
    | .loaded, some im | .starting, some im | .running, some im => decide (im.opDecl ≤ op) && decide (op ≤ im.opMin)
    | _, _ => true

/-- The marshal's write that submits a change (R217): refused and counted, or every generator programs its idle path. -/
def Device.opSubmit (op lap : Nat) (d : Device) : Device :=
  if d.clk.opPend || decide (lap < d.clk.lap + 2) || !d.opAllowed op then d.countErr pgClock errState
  else
    (d.updClk fun c => { c with opPend := true, opNext := op, opLap := lap, opLapLo := BitVec.ofNat 32 lap }).forAll allRegions fun g d =>
      d.updRegion g fun r => { r with idleOp := some op, idleLocked := false }

/-- A write of OP_LAP HI (R440): the marshal submits the change; host software is refused. -/
def Device.opOpLap (src : Src) (hi : W32) (d : Device) : Device :=
  match src with
  | .marshal => d.opSubmit d.clk.opNext (bits hi.toNat 0 16 * 2 ^ 32 + d.clk.opLapLo.toNat)
  | _ => d.countErr pgClock errState

def execOpLapWrite (src : Src) (hi : W32) (s : State) : Host.Outcome State Fault Refusal :=
  .next (s.on (Device.opOpLap src hi))

/-- The idle path of a generator has locked to its programmed point (R214). -/
def Device.opIdleLock (g : Nat) (d : Device) : Device :=
  d.updRegion g fun r => if r.idleOp.isSome && !r.failed then { r with idleLocked := true } else r

def execIdlePathLock (g : Nat) (s : State) : Host.Outcome State Fault Refusal :=
  .next (s.on (Device.when (isRegion g) (Device.opIdleLock g)))

/-- A change is dropped (R217, R369). -/
def Device.opFail (d : Device) : Device :=
  (d.updClk fun c => { c with opPend := false, opFailCnt := satInc c.opFailCnt }).setIntBit pgClock 2

/-- The wait before a faster point is over (R369): the marshal now writes OP_NEXT, for the earliest lap. -/
def Device.settleNext (d : Device) : Device :=
  if d.pwr.settling then
    let want := d.pwr.wantOp
    let d := d.updPwr fun p => { p with settling := false, wantOp := none }
    match want with
    | some op => d.opSubmit op (d.clk.lap + 2)
    | none => d
  else d

/-- Every core regulator has reported its setpoint settled: the droop detectors follow it from the next cycle (R368). -/
def Device.reportSettled (d : Device) : Device :=
  d.updPwr fun p => { p with droop := (p.droop.map fun x =>
    (x.1, if x.2.wrote.isSome && x.2.settled.isNone then { x.2 with settled := some d.cyc } else x.2)) }

/-- Every core regulator has reported settled, or one reports a fault (R368, R369); a fault drops the change. -/
def Device.opSettled (fault : Bool) (d : Device) : Device :=
  if fault then
    if d.pwr.settling || d.clk.opPend then (d.updPwr fun p => { p with settling := false, wantOp := none }).opFail
    else d
  else d.reportSettled.settleNext

def execRegulatorSettled (fault : Bool) (s : State) : Host.Outcome State Fault Refusal :=
  .next (s.on (Device.opSettled fault))

end Sys2Proof.Machine
end

