-- ==== Sys2Proof/Machine/Power.lean ====
section
/-! DEFINITION. Power and cooling policy (chapter 15): forecast and setpoints, load-step forewarning, staggered start and
region power states, the governor, the thermal limits and the coolant loop. -/

namespace Sys2Proof.Machine

/-! ### Forecast (R377, R378) -/

/-- Low and high end of V_OP in mV by operating point (Table 15.2). -/
def vRange : Nat → Nat × Nat
  | 0 => (720, 850) | 1 => (690, 800) | 2 => (670, 760) | 3 => (650, 720) | _ => (650, 680)

/-- V_OP of a rail at a point, in mV (R368; DESIGN CHOICE, log entry 7). Rail 0 is VDD_E, 1 VDD_W, 2 VDD_IO. -/
def vOp (rail op : Nat) : Nat :=
  let r := vRange op
  r.1 + Config.vopStep rail op % (r.2 - r.1 + 1)

/-- Entry that follows entry `i` of a power schedule (R171, R377). -/
def Image.schedNext (im : Image) (i : Nat) : Nat := if i + 1 < im.schedule.length then i + 1 else im.repeatFrom

/-- Laps of a schedule entry, at least 1. -/
def Image.schedLen (im : Image) (i : Nat) : Nat := max 1 ((im.schedule.getD i (0, 1)).2)

/-- AVG of a schedule entry's class, in 0.1 W. -/
def Image.schedAvg (im : Image) (i : Nat) : Nat := (im.classes.getD (im.schedule.getD i (0, 1)).1 (0, 0)).1

/-- The schedule entry `n` laps after `used` laps of entry `i`. -/
def Image.schedAt (im : Image) : Nat → Nat → Nat → Nat → Nat
  | 0, i, _, _ => i
  | fuel + 1, i, used, n =>
    if used + n < im.schedLen i then i else im.schedAt fuel (im.schedNext i) 0 (used + n - im.schedLen i)

/-- Laps ahead, below `h`, at which a new schedule entry begins. -/
def Image.schedStarts (im : Image) (h : Nat) : Nat → Nat → Nat → Nat → List Nat
  | 0, _, _, _ => []
  | fuel + 1, i, used, at_ =>
    let n := at_ + (im.schedLen i - used)
    if n < h then n :: im.schedStarts h fuel (im.schedNext i) 0 n else []

/-- TKCLK ticks of one unstretched lap at the present point. -/
def Device.lapTicks (d : Device) : Nat := 65536 * 64 / mult d.clk.opCur

/-- TKCLK ticks to the next lap mark, unstretched. -/
def Device.ticksToMark (d : Device) : Nat := (65536 - d.clk.lapCyc) * 64 / mult d.clk.opCur

/-- Laps until a partition with a start pending begins (R377): the first mark at or after its heat time, 0 for a running one; none
where it is left out. -/
def Device.startsIn (d : Device) (k : Nat) : Option Nat :=
  let p := d.part k
  match p.run.phase with
  | .running => some 0
  | .starting =>
    let left := 10 * d.ticksToMark
    let wait := p.run.heatAt.toNat - d.tk.time.toNat
    if p.run.heat && decide (left < wait) then some ((wait - left + 10 * d.lapTicks - 1) / (10 * d.lapTicks) + 1) else some 1
  | _ => none

/-- AVG of a partition `n` laps ahead, in 0.1 W at its declared point. -/
def Device.avgAt (d : Device) (k n : Nat) : Nat :=
  match (d.part k).image, d.startsIn k with
  | some im, some s =>
    if n < s then 0
    else
      let r := (d.part k).run
      let (i, used) := if r.phase == .running then (r.schedPos, r.schedLaps) else (0, 0)
      im.schedAvg (im.schedAt (n - s + 2) i used (n - s))
  | _, _ => 0

/-- Compute regions of a partition on a rail: E0 to E11 on VDD_E, W0 to W11 on VDD_W. -/
def Part.railRegions (p : Part) (rail : Nat) : Nat :=
  (p.regionList.filter fun g => if rail = 0 then decide (12 ≤ g) else rail = 1 && decide (g < 12)).length

/-- Share of P_f on a rail `n` laps ahead at point `op`, in W (R378): a partition's power falls on its compute regions, the
150 W on VDD_IO (DEDUCED, log entry 21). -/
def Device.railPower (d : Device) (op n rail : Nat) : Rat :=
  if rail = 2 then 150
  else partList.foldl (fun (a : Rat) k =>
    match (d.part k).image with
    | none => a
    | some im =>
      let p := d.part k
      let v : Rat := (vOp rail op : Rat) / (vOp rail im.opDecl : Rat)
      a + (d.avgAt k n : Rat) / 10 * (p.railRegions rail : Rat) / (p.regionList.length : Rat) *
        ((mult op : Rat) / (mult im.opDecl : Rat)) * v * v) 0

/-- P_f `n` laps ahead at point `op`, in W (R378). -/
def Device.forecast (d : Device) (op n : Nat) : Rat := d.railPower op n 0 + d.railPower op n 1 + d.railPower op n 2

/-- The laps ahead, below `h`, at which P_f can change: 0 and every start of a schedule entry. -/
def Device.forecastLaps (d : Device) (h : Nat) : List Nat :=
  0 :: (partList.map fun k =>
    match (d.part k).image, d.startsIn k with
    | some im, some s =>
      let r := (d.part k).run
      if r.phase == .running then im.schedStarts h (h + 1) r.schedPos r.schedLaps 0
      else if s < h then s :: im.schedStarts h (h + 1) 0 0 s else []
    | _, _ => []).flatten

/-- Highest P_f within `h` laps. -/
def Device.forecastMax (d : Device) (op h : Nat) : Rat :=
  (d.forecastLaps h).foldl (fun a n => max a (d.forecast op n)) 0

/-- Sum of P_f over `h` laps. -/
def Device.forecastSum (d : Device) (op h : Nat) : Rat :=
  let ls := ((d.forecastLaps h).mergeSort fun a b => decide (a ≤ b)).eraseDups
  (ls.zip (ls.drop 1 ++ [h])).foldl (fun a x => a + (((x.2 - x.1 : Nat) : Rat)) * d.forecast op x.1) 0

/-! ### Setpoints (R368, R369) -/

/-- Setpoint of a rail now, in mV. -/
def Power.setpoint (p : Power) (rail : Nat) : Nat := if rail = 0 then p.setE else if rail = 1 then p.setW else p.setIo

/-- Forecast current of a rail `n` laps ahead, in A (R378). -/
def Device.railCurrent (d : Device) (op n rail : Nat) : Rat :=
  d.railPower op n rail * 1000 / (d.pwr.setpoint rail : Rat)

/-- The setpoint the rule computes for a rail at a point, for the higher of the forecasts of this lap and the next: a rise
is written before the lap mark and a fall after it. -/
def Device.wantSetpoint (d : Device) (op rail : Nat) : Nat :=
  let i := max (d.railCurrent op 0 rail) (d.railCurrent op 1 rail)
  let v : Rat := (vOp rail op : Rat) + (d.pwr.rll : Rat) * i / 1000 + (d.pwr.avsOffset : Rat)
  min (max v.ceil.toNat 650) 850

/-- The setpoint that the droop detectors of a rail follow (R368): the one in force from the cycle after its regulator reported it
settled, or 20 µs after its write, whichever comes first; until then the one before. -/
def Device.droopRef (d : Device) (rail : Nat) : Nat :=
  let r : DroopRef := Map.get {} d.pwr.droop rail
  match r.wrote with
  | none => d.pwr.setpoint rail
  | some t => if d.since t (us 20) || r.settled.any (· < d.cyc) then d.pwr.setpoint rail else r.mv

/-- Put a setpoint of a rail into force. -/
def Power.put (rail mv : Nat) (p : Power) : Power :=
  if rail = 0 then { p with setE := mv } else if rail = 1 then { p with setW := mv } else { p with setIo := mv }

/-- An AVSBus voltage write (R368). -/
def Device.writeRail (rail mv : Nat) (d : Device) : Device :=
  let old := d.droopRef rail
  (d.updPwr fun p => { p.put rail mv with droop := Map.set {} p.droop rail { mv := old, wrote := some d.clk.now } }).emit
    (.avs rail (.writeVoltage mv))

/-- Write the setpoints of a point where they change by 2 mV or more. -/
def Device.writeSetpoints (op : Nat) (d : Device) : Device :=
  let want := [0, 1, 2].map fun rail => (rail, d.wantSetpoint op rail)
  want.foldl (fun d x =>
    let c := d.pwr.setpoint x.1
    if c + 2 ≤ x.2 ∨ x.2 + 2 ≤ c then d.writeRail x.1 x.2 else d) d

/-! ### Forewarning and staggered start (R370 to R373) -/

/-- Assert the forewarning pin of a die at least until a time. -/
def Device.assertLsf (west : Bool) (until_ : Nat) (d : Device) : Device :=
  d.updPwr fun p =>
    if west then { p with lsfW := true, lsfWUntil := max p.lsfWUntil until_ }
    else { p with lsfE := true, lsfEUntil := max p.lsfEUntil until_ }

/-- Assert the pins of the dies a list of regions lies on. -/
def Device.assertFor (gs : List Nat) (until_ : Nat) (d : Device) : Device :=
  let d := if gs.any (· < 12) then d.assertLsf true until_ else d
  if gs.any fun g => decide (12 ≤ g) && decide (g < 24) then d.assertLsf false until_ else d

/-- A start is being prepared on a die: its pin stays asserted (R370). -/
def Device.preparing (d : Device) (west : Bool) : Bool :=
  let on (g : Nat) : Bool := if west then decide (g < 12) else decide (12 ≤ g) && decide (g < 24)
  (if west then d.pwr.lsfWStep else d.pwr.lsfEStep).isSome || (d.clk.staggers.any fun s => s.left.any on) ||
  partList.any fun k => ((d.part k).run.phase == .starting || (d.part k).run.nextFrame.isSome) && (d.part k).poweredList.any on

/-- The pin of a die is deasserted 2 µs after the start or the lap mark (R370). -/
def Device.opLsfDeassert (west : Bool) (d : Device) : Device :=
  let t := if west then d.pwr.lsfWUntil else d.pwr.lsfEUntil
  if t ≤ d.clk.now ∧ !d.preparing west then d.updPwr fun p => if west then { p with lsfW := false } else { p with lsfE := false }
  else d

def execLsfDeassert (west : Bool) (s : State) : Host.Outcome State Fault Refusal := .next (s.on (Device.opLsfDeassert west))

/-- The lap that begins at the first mark at or after a tick, unstretched. -/
def Device.lapFrom (d : Device) (t : Nat) : Nat :=
  d.clk.lap + 1 + (t - (d.clk.now + d.ticksToMark) + d.lapTicks - 1) / d.lapTicks

/-- The lap whose mark a staggered start of `n` regions begun now prepares (R120, R372): for a frame the mark of its nominal time, else the
first one after the last region's ramp; firmware's own prepares none. -/
def Device.staggerLap (k n : Nat) (purpose : Purpose) (d : Device) : Option Nat :=
  if k = 8 then none
  else match purpose with
    | .frame => some (d.lapFrom (d.clk.now + (d.frameMark k - d.tk.time.toNat) / 10))
    | .start =>
      let t := d.clk.now + us 11 + ns 250 * (n - 1)
      let heat := (d.part k).run.heatAt.toNat - d.tk.time.toNat
      some (d.lapFrom (if (d.part k).run.heat then max t (d.clk.now + heat / 10) else t))

/-- The enabled ports of a region whose branches have just been ungated leave DISABLED (R371, Table 11.6). -/
def Device.trainPorts (g : Nat) (d : Device) : Device :=
  d.forAll ((List.range 24).filter fun i => portRegion i == g && (d.port i).enable && (d.port i).link.state == .disabled) fun i d =>
    d.updLink i fun l => { (l.restart .detect d.clk.now) with eqFails := 0 }

/-- Begin a staggered start of regions (R371): the forewarning is asserted and the first ungating follows 10 µs later. -/
def Device.beginStagger (k : Nat) (gs : List Nat) (purpose : Purpose) (d : Device) : Device :=
  let t := d.clk.now + us 10
  let lap := d.staggerLap k gs.length purpose
  (d.assertFor gs t).updClk fun c =>
    { c with staggers := c.staggers ++ [{ part := k, left := gs, purpose := purpose, lastAt := t, lap := lap }] }

/-- Two staggered starts are one sequence (R371): the same lap mark is prepared by both, or they are the same. -/
def Stagger.joins (s t : Stagger) : Bool := s == t || (s.lap.isSome && s.lap == t.lap)

/-- Regions of a partition in a power state. -/
def Device.regionsIn (d : Device) (k : Nat) (p : RegPower) : List Nat :=
  (d.part k).poweredList.filter fun g => (d.region g).power == p

/-- The sequence that may ungate region `g` now (R371): starts of one lap mark ungate their regions together, in index order. -/
def Device.ungates (d : Device) (g : Nat) : Option Stagger :=
  d.clk.staggers.find? fun s => s.left.contains g && decide (s.lastAt ≤ d.clk.now) &&
    (d.clk.staggers.filter s.joins).all fun t => t.left.all fun x => decide (g ≤ x)

/-- Ungate the next region: the lowest one of its sequence, 250 ns after the one before (R371). A compute region enters FILL, an I/O
region runs, and its enabled ports, gated until now, begin to train. -/
def Device.opUngate (g : Nat) (d : Device) : Device :=
  match d.ungates g with
  | some q =>
    let t := d.clk.now + ns 250
    let d := d.updClk fun c =>
      { c with staggers := (c.staggers.map fun s =>
        { s with left := s.left.filter (· != g), lastAt := if q.joins s then max s.lastAt t else s.lastAt }) }
    let d := if g < 24 then d.setPower g .fill else (d.updRegion g fun r => { r with power := .run }).trainPorts g
    d.updClk fun c =>
      { c with staggers := c.staggers.filter fun s => !(s.left.isEmpty && (s.part == 8 || s.purpose == .frame)) }
  | none => d

def execRegionUngate (k : Nat) (s : State) : Host.Outcome State Fault Refusal := .next (s.on (Device.opUngate k))

/-- The wake of a frame partition's gated regions before M_k (R121, R372): the last of them is ungated 1.5 µs before the mark, 250 ns
after the one before it, and the first 10 µs after the sequence begins. -/
def Device.opFrameWake (k : Nat) (d : Device) : Device :=
  let r := (d.part k).run
  let gs := d.regionsIn k .gated
  match (d.part k).image with
  | some im =>
    if r.phase == .running && im.frame && r.nextFrame.isNone && !gs.isEmpty &&
        decide (d.frameMark k ≤ d.tk.time.toNat + 184000 + 4000 * (gs.length - 1)) then
      (d.updRun k fun r => { r with nextFrame := some r.frameNo }).beginStagger k gs .frame
    else d
  | none => d

def execFrameWake (k : Nat) (s : State) : Host.Outcome State Fault Refusal :=
  .next (s.on (Device.when (isPart k) (Device.opFrameWake k)))

/-- 1 ms after a partition reset without a start, or at teardown, the regions in FILL return to GATED (R373). -/
def Device.opFillTimeout (k : Nat) (d : Device) : Device :=
  match (d.part k).run.resetEnd with
  | some t =>
    if d.since t (ms 1) && !((d.part k).run.phase == .starting) && !((d.part k).run.phase == .running) then
      (d.forAll (d.regionsIn k .fill) fun g d => d.setPower g .gated).updRun k fun r => { r with resetEnd := none }
    else d
  | none => d

def execFillTimeout (k : Nat) (s : State) : Host.Outcome State Fault Refusal :=
  .next (s.on (Device.when (isPart k) (Device.opFillTimeout k)))

/-! ### The governor (R374 to R376) -/

/-- Bring GOV_LEVEL to the higher of the two requests, at most GOV_MAX (R376). -/
def Device.govern (d : Device) : Device :=
  let p := d.pwr
  let l := min p.govMax (max p.reqPower p.reqThermal)
  let d := d.updPwr fun q => { q with govLevel := l,
                                      level8Since := if l = 8 then (if p.govLevel = 8 then p.level8Since else some d.clk.now) else none }
  if l = 8 ∧ p.govLevel ≠ 8 then d.setIntBit pgPower 1 else d

/-- Level 8 has held for a time. -/
def Device.heldAt8 (d : Device) (dt : Nat) : Bool :=
  match d.pwr.level8Since with
  | some t => d.since t dt
  | none => false

/-- Ask for the next slower point that R216 allows, at the earliest lap that R217 permits. -/
def Device.askSlower (d : Device) : Device :=
  match ([1, 2, 3, 4].filter fun op => decide (d.clk.opCur < op)).find? d.opAllowed with
  | some op => if d.clk.opPend then d else d.opSubmit op (d.clk.lap + 2)
  | none => d

/-- The mean of 1 s exceeds the cap now or within n more samples of x, one each 10 µs; old holds the window's samples, oldest
first, and their sum and number go with it (Table 15.4; that the present sample continues is DEDUCED, log entry 21). -/
def meanExceeds (cap x : Nat) : Nat → Nat → Nat → Nat → List PwrSample → Bool
  | n, t, sum, count, old =>
    let gone := old.takeWhile fun q => decide (q.time + ms 1000 ≤ t)
    let sum := sum - (gone.map (·.dw)).sum
    let count := count - gone.length
    decide (cap * count < sum) ||
      match n with
      | 0 => false
      | n + 1 => meanExceeds cap x n (t + us 10) (sum + x) (count + 1) (old.drop gone.length)

/-- The governor's decision on the present sample (Table 15.4). Once 8 ms of PL-2 are used, level 8 holds until the window falls below
6 ms; from there it is lowered as the table's last row says (DEDUCED, log entry 21). -/
def Device.governNow (x : Nat) (d : Device) : Device :=
  let now := d.clk.now
  let cap := 10 * d.pwr.cap
  let used := d.pwr.pl2Used now
  let d := d.updPwr fun p => { p with pl2Hold := decide (8000 ≤ used) || (p.pl2Hold && decide (6000 ≤ used)) }
  let p := d.pwr
  let projected := meanExceeds cap x 1000 now (p.samples.map (·.dw)).sum p.samples.length p.samples.reverse
  let big := decide (16500 < x)
  let d := d.updPwr fun p =>
    if big || p.pl2Hold then { p with reqPower := 8 }
    else if projected then
      if d.since p.lastRaise (us 100) then { p with reqPower := min 8 (p.reqPower + 2), lastRaise := now } else p
    else match p.lowSince with
      | some t => if d.since t (ms 10) && d.since p.lastLower (ms 1) then { p with reqPower := p.reqPower - 1, lastLower := now } else p
      | none => p
  let d := d.govern
  if d.heldAt8 (ms 1) && (projected || big) then d.askSlower else d

/-- PKG_PWR in 0.1 W and the partitions' powers as sampled every 10 µs (R374), and Table 15.4: the windows of 1 s and 100 ms slide
with the samples. -/
def Device.opPowerSample (x : Nat) (ps : List Nat) (d : Device) : Device :=
  let now := d.clk.now
  let cap := 10 * d.pwr.cap
  let d := d.updPwr fun p =>
    { p with pkgPwr := min x 65535,
             samples := ⟨now, x, decide (cap < x)⟩ :: p.samples.filter fun q => decide (now < q.time + ms 1000),
             partN := p.partN + 1,
             partSum := (ps.zip (List.range 8)).foldl (fun m e => Map.upd 0 m e.2 (· + e.1)) p.partSum,
             lowSince := if x * 100 < 95 * cap then some (p.lowSince.getD now) else none }
  d.governNow x

def execPowerSample (railsDw : Nat) (partsDw : List Nat) (s : State) : Host.Outcome State Fault Refusal :=
  .next (s.on (Device.when (s.dev.due (s.dev.pwr.samples.head?.map (·.time)) (us 10)) (Device.opPowerSample railsDw partsDw)))

/-- The monitors are calibrated against AVSBus current reads every 10 ms (R374). -/
def execMonitorCalibrate (s : State) : Host.Outcome State Fault Refusal :=
  .next (s.on (Device.when (s.dev.due s.dev.pwr.calibratedAt (ms 10)) fun d =>
    [0, 1, 2].foldl (fun d rail => d.emit (.avs rail .readCurrent)) (d.updPwr fun p => { p with calibratedAt := some d.clk.now })))

/-! ### Coolant (R380, R381) -/

/-- Something holds the duty at 100 % (R380, R381, R453). -/
def Thermal.full (t : Thermal) : Bool := t.sensorFault || t.modHot != 0 || t.flowMax

/-- The duty R380 computes, in 0.1 %. -/
def Device.wantDuty (d : Device) : Nat :=
  let t := d.thr
  let h := t.flowLead * 1600000000 / d.lapTicks + 1
  let q : Rat := d.forecastMax d.clk.opCur h / ((t.coolCp : Rat) * (t.dtTgt : Rat))
  min 1000 (max (q * 600000 / (t.qMax : Rat)).floor.toNat t.flowDmin + t.boost)

/-- Write FLOW_PWM. -/
def Device.writeDuty (d : Device) : Device :=
  let w := d.wantDuty
  d.updThr fun t => { t with flowDuty := if t.full then 1000 else w }

/-- The conditions of R381, in its order: three failed reads, a reading outside the range, an inlet too warm. -/
def Thermal.alarmsOf (t : Thermal) (run : Nat) (inlet outlet : Option Int) : List Bool :=
  let bad (x : Int) : Bool := decide (x < -100) || decide (900 < x)
  [decide (3 ≤ run), inlet.any bad || outlet.any bad, inlet.any fun x => decide ((t.coolInMax : Int) * 10 < x)]

/-- The COOL_SENSOR event write of a condition that begins (R381, Table 18.4), and the page's event bit. -/
def Device.coolEvent (was : Bool) (reading : Int) (d : Device) : Device :=
  let d := if was then d else d.event none pgThermal 7 (BitVec.ofInt 64 reading).toNat
  d.setIntBit pgThermal 3

/-- The 100 ms read of the coolant sensors (R381), in 0.1 °C, none for a failed read; an address of 0 is a failed read
(R441). RTH_JI is what firmware learned: a free value (DEDUCED, log entry 21). -/
def Device.opCoolant (inlet outlet : Option Int) (d : Device) : Device :=
  let t := d.thr
  let inlet := if t.i3cInlet = 0 then none else inlet
  let outlet := if t.i3cOutlet = 0 then none else outlet
  let now := d.clk.now
  let run := if inlet.isNone || outlet.isNone then t.failRun + 1 else 0
  let al := t.alarmsOf run inlet outlet
  let alarm := (al.drop 1).any id
  let stop := al.any id
  let begins := (al.zip (t.alarms ++ List.replicate 3 false)).any fun x => x.1 && !x.2
  let d := d.updThr fun t =>
    { t with tInlet := inlet.getD t.tInlet, tOutlet := outlet.getD t.tOutlet, failRun := run,
             alarms := al, sensorFault := stop || t.sensorFault && (run != 0 || !d.since t.goodSince (ms 10000)),
             goodSince := if alarm || run != 0 then now else t.goodSince }
  let d := match inlet, outlet with
    | some i, some o =>
      let (f, d) := d.draw
      let excess := decide ((t.dtTgt : Int) * 10 + 20 < o - i)
      d.updThr fun t =>
        { t with rthJi := f % 65536,
                 boost := if excess then (if d.since t.boostAt (ms 1000) then min 1000 (t.boost + 50) else t.boost) else 0,
                 boostAt := if excess then (if d.since t.boostAt (ms 1000) then now else t.boostAt) else now }
    | _, _ => d
  let d := if stop then d.coolEvent (!begins) (inlet.getD t.tInlet) else d
  if d.thr.full then d.updThr fun t => { t with flowDuty := 1000 } else d

def execCoolantSensorRead (inlet outlet : Option Int) (s : State) : Host.Outcome State Fault Refusal :=
  .next (s.on (Device.when (s.dev.due s.dev.thr.readAt (ms 100)) fun d =>
    (d.opCoolant inlet outlet).updThr fun t => { t with readAt := some d.clk.now }))

/-! ### Thermal limits (R382) -/

/-- The hottest of the readings: the lowest index among equals. -/
def hottest (rs : List Int) : Nat × Int :=
  (rs.zip (List.range rs.length)).foldl (fun a x => if a.2 < x.1 then (x.2, x.1) else a) (0, rs.headD 0)

/-- The 20 µs sample of the 32 junction sensors, in 0.1 °C (R382). -/
def Device.opThermal (rs : List Int) (d : Device) : Device :=
  let (hi, ht) := hottest rs
  let now := d.clk.now
  let hit := decide (d.thr.hotT < 1050) && decide (1050 ≤ ht)
  let thr : Int := (d.thr.throttle : Int) * 10
  let hot := decide (thr ≤ ht)
  let up := hot && d.since d.thr.lastRaise (us 100)
  let down := decide (ht < thr - 30) && d.since d.thr.lastLower (ms 1)
  let d := d.updThr fun t =>
    { t with sensors := (rs.zip (List.range 32)).foldl (fun m x => Map.set 0 m x.2 x.1) [], hotIdx := hi, hotT := ht,
             lastRaise := if up then now else t.lastRaise, lastLower := if down then now else t.lastLower }
  let d := d.updPwr fun p =>
    { p with reqThermal := if up then min 8 (p.reqThermal + 1) else if down then p.reqThermal - 1 else p.reqThermal }
  let d := d.govern
  let d := if hot then d.setIntBit pgThermal 1 else d
  let d := if hit then d.event none pgThermal 9 (BitVec.ofInt 64 ht).toNat else d
  let d := if 1050 ≤ ht then (d.setIntBit pgThermal 2).updFlt fun f => { f with smbAlert := true } else d
  if hot && d.heldAt8 (ms 10) then d.askSlower else d

def execThermalSample (readings : List Int) (s : State) : Host.Outcome State Fault Refusal :=
  .next (s.on (Device.when (readings.length == 32 && s.dev.due s.dev.thr.sampledAt (us 20)) fun d =>
    (d.opThermal readings).updThr fun t => { t with sampledAt := some d.clk.now }))

/-! ### The forecast's policies (R368, R370, R379, R380) -/

/-- The conditions of R379 on a point. -/
def Device.opGood (d : Device) (op : Nat) : Bool :=
  let h := 1600000000 / d.lapTicks + 1
  d.opAllowed op && decide (d.forecastSum op h ≤ (d.pwr.cap : Rat) * (h : Rat)) &&
  decide ((d.thr.tInlet : Rat) / 10 + d.forecastMax op h * (d.thr.rthJi : Rat) / 1000 <
    (d.thr.throttle : Rat) - (d.thr.margin : Rat))

/-- Start a change to another point (R369, R379): for a faster one the setpoints are raised first. -/
def Device.chooseOp (d : Device) : Device :=
  if d.clk.opPend || d.pwr.settling || !(d.clk.opChangedAt == 0 || d.since d.clk.opChangedAt (ms 10)) then d
  else match [0, 1, 2, 3, 4].find? d.opGood with
    | none => d
    | some op =>
      if op < d.clk.opCur then
        (d.writeSetpoints op).updPwr fun p => { p with wantOp := some op, settling := true, settleAt := d.clk.now }
      else if d.clk.opCur < op then d.opSubmit op (d.clk.lap + 2)
      else d

/-- VR_SETTLE has passed since the setpoints of a faster point were written (R369). -/
def Device.settleTimeout (d : Device) : Device :=
  if d.pwr.settling && d.since d.pwr.settleAt (us d.pwr.vrSettle) then d.settleNext else d

/-- The forecast current of a die rises by more than LSF_STEP at the next lap mark, which is 10 µs ± 0.5 µs away: the pin is asserted
until 2 µs after that mark, whenever it comes (R370). -/
def Device.lsfStep (west : Bool) (d : Device) : Device :=
  let rail := if west then 1 else 0
  let left := d.ticksToMark
  if (d.pwr.lsfStep : Rat) < d.railCurrent d.clk.opCur 1 rail - d.railCurrent d.clk.opCur 0 rail ∧ 15200 ≤ left ∧ left ≤ 16800 then
    (d.assertLsf west (d.clk.now + left + us 2)).updPwr fun p =>
      if west then { p with lsfWStep := some (d.clk.lap + 1) } else { p with lsfEStep := some (d.clk.lap + 1) }
  else d

/-- The lap mark of a class step has come: its pin is released 2 µs later (R370). -/
def Device.lsfMark (d : Device) : Device :=
  let t := d.clk.now + us 2
  d.updPwr fun p => { p with lsfWUntil := if p.lsfWStep.isSome then max p.lsfWUntil t else p.lsfWUntil, lsfWStep := none,
                             lsfEUntil := if p.lsfEStep.isSome then max p.lsfEUntil t else p.lsfEUntil, lsfEStep := none }

/-- The marshal's evaluation of the forecast (R378), while firmware runs: setpoints at the faster of the present point and
one that is prepared, forewarning, flow, operating point. -/
def Device.opForecast (d : Device) : Device :=
  if d.sec.bootStatus ≠ 0x02 ∨ d.clk.gun ≠ .fired then d
  else
    let op := match d.pwr.wantOp with
      | some o => min o d.clk.opCur
      | none => if d.clk.opPend then min d.clk.opNext d.clk.opCur else d.clk.opCur
    let d := (d.lsfStep false).lsfStep true
    (((d.writeSetpoints op).writeDuty).settleTimeout).chooseOp

def execForecastEval (s : State) : Host.Outcome State Fault Refusal := .next (s.on Device.opForecast)

end Sys2Proof.Machine
end

