-- ==== Sys2Proof/Machine/Lap.lean ====
section
/-! DEFINITION. The lap mark (R228 to R230): settlement, an operating-point change, relays re-centred, held partitions
resumed (R248, R249), frames started (R120), stall timers (R347), power positions (R377). -/

namespace Sys2Proof.Machine

/-! ### The ends and starts of cycles -/

/-- What ends with a cycle: the windows of this cycle close, a frozen sender's flits stay, BME page slots consume their lines and end,
on-time lines are delivered (R104, R141, R154, R246), a commit stands (R111), and the governor's share of Q is laid down (R375). -/
def Device.cycleWork (d : Device) : Device :=
  let d := d.forAll (d.pacers.map (·.1)) Device.closeWindow
  let d := d.stayFlits
  let d := d.forAll (d.bmes.map (·.1)) fun c d =>
    match d.pacerCyc (256 + c) with
    | some cyc => d.settleBme c cyc
    | none => d
  let d := d.deliverDue.forAll (d.bmes.map (·.1)) Device.decodeEntries
  -- a channel transfers at most two unplanned lines in a cycle (R157)
  let d := d.forAll (d.chans.map (·.1)) fun c => Device.admitAsked c 2
  let d := d.forAll partList Device.finishCommit
  if d.pwr.govLevel = 0 then d else d.governorStretch

/-- A descriptor that has arrived stands in the shadow set (R94). -/
def Device.settleShadow (p : Nat) (d : Device) : Device :=
  match (d.pacer p).ldesc, d.pacerCyc p with
  | some _, some c => d.updPacer p (Pacer.settleDesc c)
  | _, _ => d

/-- What a cycle begins with: descriptors that have arrived stand, a window that closed unsatisfied is registered, and a unit tests for
the line that the cycle consumes (R94, R104, R142, R245). -/
def Device.startCycle (d : Device) : Device :=
  let ps := d.pacers.map (·.1)
  let d := (d.forAll ps Device.settleShadow).forAll ps Device.opWindowExpiry
  d.forAll (d.bmes.map (·.1)) Device.checkLines

/-! ### Held partitions (R245, R248) -/

/-- The line that stopped a BME's pacer in plan cycle `c` is present (R142, R245). -/
def Device.lineResolved (d : Device) (p c : Nat) : Bool :=
  let b := d.bme (p - 256)
  match b.scan with
  | none => true
  | some sc =>
    if sc.page.isSome then
      match sc.consumes c with
      | some l => (b.line d.cyc l).isSome
      | none => true
    else sc.fetched &&
      (match sc.entries[sc.cursor]? with
       | some e => !sc.live e || (sc.keyLines e).head?.all fun l => (b.line d.cyc l).isSome
       | none => true)

/-- A registered hold cause of a unit frozen at plan cycle `c` is resolved (Table 10.3). -/
def Device.causeResolved (d : Device) (k p cause c : Nat) : Bool :=
  let x := d.pacer p
  match cause with
  | 1 => if x.state == .draining then d.othersDone k else d.waitTrue p c
  | 2 => x.ready
  | 3 => d.lineResolved p c
  | 4 => d.net.flits.any fun f => f.node == ingressKey p && decide (f.arrive ≤ d.cyc) && decide (f.due ≤ c)
  | 6 => ((d.port (p - 384)).window d.cyc (pdlvFields (Stride.opnd x.nextStride)).wslot).complete
  | _ => true

/-- Every cause of a partition's hold is resolved (R248). -/
def Device.holdResolved (d : Device) (k : Nat) (h : Hold) : Bool :=
  h.causes.all fun x => d.causeResolved k x.1 x.2 (h.fx (pacerRegion x.1) - (d.part k).run.lost)

/-- Partitions whose hold is resolved at the end of the lap. -/
def Device.resumable (d : Device) : List Nat :=
  partList.filter fun k => match (d.part k).run.hold with
    | some h => d.holdResolved k h
    | none => false

/-- A partition resumes at lap mark M, which is now (R248, R249): the pacer of the first cause leaves a trace record of kind
0x5 whatever its trace flags, with the bib of the cycle in which its stride issues (Table 4.15). -/
def Device.resume (k : Nat) (d : Device) : Device :=
  match (d.part k).run.hold with
  | none => d
  | some h =>
    let m := d.cyc
    let c := h.fx (pacerRegion h.unit) - (d.part k).run.lost
    let d := d.updRun k fun r => { r with hold := none, resumed := some (h, m), lost := r.lost + (m - h.fMin) }
    if h.unit < 1024 then d.traceWith (Cfg.bib (d.cfgAt h.unit c)) h.unit 5 (d.pacer h.unit).next (d.stamp k m d.split) else d

/-! ### Frames (R119, R120) -/

/-- Every pacer of a frame partition that is still in the run sleeps. -/
def Device.allAsleep (d : Device) (k : Nat) : Bool :=
  let ps := (d.pacersOf k).filter fun p => (d.pacer p).state != .done
  !ps.isEmpty && ps.all fun p => (d.pacer p).state == .sleep

/-- The forewarning pins that are asserted stay so until 2 µs after the start (R370). -/
def Device.assertedUntil (k : Nat) (d : Device) : Device :=
  let gs := (d.part k).poweredList
  let t := d.clk.now + us 2
  let west := gs.any (· < 12)
  let east := gs.any fun g => decide (12 ≤ g)
  d.updPwr fun p => { p with lsfWUntil := if p.lsfW && west then max p.lsfWUntil t else p.lsfWUntil,
                             lsfEUntil := if p.lsfE && east then max p.lsfEUntil t else p.lsfEUntil }

/-- Frame `frameNo` starts at this lap mark when its nominal time has come and one lap has passed since the partition's last FRAME stride.
A region that no wake has ungated by then begins to run at the mark (DESIGN CHOICE, log entry 52). The frame is late when an earlier
mark had already met its nominal time, so that the other condition, or a hold, decided it (R120, R250). Every pacer that slept leaves a
trace record of kind 0x6, whatever its trace flags, with the index of the stride after its FRAME (DESIGN CHOICE, log entry 52). -/
def Device.frameStart (k : Nat) (d : Device) : Device :=
  match (d.part k).image with
  | none => d
  | some im =>
    let r := (d.part k).run
    let nominal := d.frameNominal k r.frameNo
    if r.phase == .running && im.frame && r.hold.isNone && d.allAsleep k && decide (nominal ≤ d.tk.time.toNat) &&
        decide (r.lastFrame + 65536 ≤ d.cyc) then
      let late := decide (nominal ≤ d.clk.markSplit.toNat)
      let d := d.updPart k fun p =>
        { p with frameLate := if late then satInc p.frameLate else p.frameLate,
                 run := { p.run with frameNo := p.run.frameNo + 1, nextFrame := none } }
      let c := d.cyc - r.lost
      let d := d.forAll (d.pacersOf k) fun p d =>
        if (d.pacer p).state == .sleep then
          let d := d.updPacer p fun x => { x with state := .running, lastIssue := c, stall := 0 }
          d.traceWith (Cfg.bib (d.cfgAt p c)) p 6 (d.pacer p).next (d.stamp k d.cyc d.split)
        else d
      let d := d.forAll (d.regionsIn k .fill ++ d.regionsIn k .gated) fun g d => d.setPower g .run
      (d.updClk fun x => { x with staggers := x.staggers.filter fun s => !(s.part == k && s.purpose == .frame) }).assertedUntil k
    else d

/-! ### Settlement and operating-point change (R217, R228) -/

/-- Settle the regions' delays: every region waits for the one with the largest of the given values (R228); the pause of S0
is the device's time. -/
def Device.settle (value : Region → Nat) (d : Device) : Device :=
  let live := allRegions.filter fun g => !(d.region g).failed
  let target := live.foldl (fun a g => max a (value (d.region g))) 0
  let pause := target - value (d.region 30)
  (d.forAll live fun g d => d.updRegion g fun r => r.addDelay d.cyc (target - value r)).elapse (16 * pause)

/-- Every generator's idle path has locked. -/
def Device.pathsLocked (d : Device) : Bool := allRegions.all fun g => (d.region g).failed || (d.region g).idleLocked

/-- The new point begins on the other path (R217): every D is 0, one period of the old point passes, and the slower point's
setpoints are written (R369). -/
def Device.applyOp (d : Device) : Device :=
  let old := d.clk.opCur
  let op := d.clk.opNext
  let d := (d.settle (·.delay)).elapse 64
  let d := d.forAll allRegions fun g d => d.updRegion g fun r =>
    { r with delay := 0, late := [], snap := 0, path := if r.failed then r.path else !r.path, idleOp := none, idleLocked := false }
  let d := d.updClk fun c =>
    { c with opCur := op, opPend := false, opChangedAt := c.now, phase := c.phase * mult op / mult old }
  let d := if old < op then d.writeSetpoints op else d
  d.setIntBit pgClock 1

/-- The pauses of a lap mark: a change that is due and locked, a change that is dropped, or the settlement of cadence mode. -/
def Device.markPause (d : Device) : Device :=
  let due := d.clk.opPend && decide (d.clk.opLap ≤ d.clk.lap + 1)
  if due && d.pathsLocked then d.applyOp
  else
    let d := if due then d.opFail else d
    if d.lockstep then d else d.settle (·.snap)

/-! ### The mark -/

/-- The power schedule of a running partition that is not held advances by one lap (R377). -/
def Device.schedStep (k : Nat) (d : Device) : Device :=
  match (d.part k).image with
  | none => d
  | some im =>
    d.updRun k fun r =>
      if r.phase == .running && r.hold.isNone then
        if r.schedLaps + 1 < im.schedLen r.schedPos then { r with schedLaps := r.schedLaps + 1 }
        else { r with schedPos := im.schedNext r.schedPos, schedLaps := 0 }
      else r

/-- A partition whose mean power over the lap exceeds 1.1 × PWR_ALLOC (R374). -/
def Device.overAlloc (k : Nat) (d : Device) : Device :=
  let n := d.pwr.partN
  if 0 < n ∧ (d.part k).image.isSome ∧ 11 * (d.part k).pwrAlloc * n < Map.get 0 d.pwr.partSum k then
    (d.updPart k fun p => { p with overAlloc := satInc p.overAlloc }).setIntBit pgPower 2
  else d

/-- Stall timers of a partition count the mark (R347). -/
def Device.stallStep (k : Nat) (d : Device) : Device :=
  d.forAll (d.pacersOf k) fun p d => d.updPacer p fun x => if x.state.stalls then { x with stall := x.stall + 1 } else x

/-- The lap mark: cycle 65,535 ends, the regions pause, and cycle 0 of the next lap begins. Every slot of a relay that has slipped is
emptied; its TAGs are those of the sender cycles before, as after the starting gun (R229, R231; DEDUCED, log entry 48). A partition
that resumes at this mark starts no frame at it (R250). -/
def Device.opLapMark (d : Device) : Device :=
  if d.clk.gun = .fired ∧ d.clk.lapCyc = 65535 then
    let d := d.cycleWork
    let ready := d.resumable
    let d := d.endPeriod.markPause
    let d := d.updClk fun c => { c with lap := c.lap + 1, lapCyc := 0, relays := c.relays.filter fun x => !x.2.slipped }
    let d := d.forAll partList Device.overAlloc
    let d := (d.updPwr fun p => { p with partSum := [], partN := 0 }).lsfMark
    let d := d.forAll partList Device.schedStep
    let d := d.forAll partList Device.stallStep
    let d := d.forAll ready Device.resume
    let d := d.forAll (partList.filter fun k => !ready.contains k) Device.frameStart
    (d.updClk fun c => { c with markSplit := d.split }).startCycle
  else d

def execLapMark (s : State) : Host.Outcome State Fault Refusal := .next (s.on Device.opLapMark)

end Sys2Proof.Machine
end

