-- ==== Sys2Proof/Machine/Time.lean ====
section
/-! DEFINITION. The timekeeper (R233 to R241, R439): stepping and steering TIME, TIME_IN and TIME_OUT, the time exchange with
a parent, and the loss of the reference (R238, R352). -/

namespace Sys2Proof.Machine

/-- The bound of RATE_ADJ (R233). -/
def rateLimit : Int := 8589934

/-- A write of TIME_SET HI (R235): TIME takes the pair's value and its fraction is cleared, unless a plan runs. -/
def Device.opTimeSet (hi : W32) (d : Device) : Device :=
  if d.quiet then
    let x := BitVec.ofNat 64 (hi.toNat * 2 ^ 32 + d.tk.setLo.toNat)
    d.updTk fun t => { t with time := x, frac := 0, outDone := x }
  else d.countErr pgTime errState

def execTimeSet (hi : W32) (s : State) : Host.Outcome State Fault Refusal := .next (s.on (Device.opTimeSet hi))

/-- A write of RATE_ADJ (R439). -/
def Device.opRateAdj (v : W32) (d : Device) : Device :=
  if -rateLimit ≤ v.toInt ∧ v.toInt ≤ rateLimit then d.updTk fun t => { t with rateAdj := v.toInt }
  else d.countErr pgTime errRange

def execRateAdjWrite (v : W32) (s : State) : Host.Outcome State Fault Refusal := .next (s.on (Device.opRateAdj v))

/-! ### The servo (R239) -/

/-- TX_PERIOD in TKCLK ticks: 125 µs × 2^j. -/
def Timekeeper.period (t : Timekeeper) : Nat := us 125 * 2 ^ t.txPeriod

/-- RATE_ADJ for an offset and an accumulated offset (R239): one rounding, toward zero. -/
def servoRate (theta acc : Int) (ticks : Nat) : Int :=
  max (-rateLimit) (min rateLimit (Int.tdiv ((16 * theta + acc) * 2 ^ 32) (256 * (ticks : Int))))

/-- Step TIME by theta when it is far off and TIME_SET is permitted, else slew (R239). -/
def Device.servo (theta : Int) (d : Device) : Device :=
  if 16000 < theta.natAbs ∧ d.quiet then
    let x := BitVec.ofInt 64 ((d.tk.time.toNat : Int) + theta)
    d.updTk fun t => { t with time := x, outDone := x, acc := 0 }
  else
    d.updTk fun t =>
      let acc := t.acc + theta
      { t with acc := acc, rateAdj := servoRate theta acc t.period }

/-- TIME_LOCKED takes a value; a change is an event (Table 19.1). -/
def Device.setLocked (b : Bool) (d : Device) : Device :=
  if d.tk.locked = b then d else (d.updTk fun t => { t with locked := b }).setIntBit pgTime 1

/-! ### Pins (R237) -/

/-- A rising edge of TIME_IN: stamped and counted; a root device with TIN_DISC steers to edges TIN_PERIOD apart, each
expected TIN_PERIOD after the one before was expected (DESIGN CHOICE, log entry 22). -/
def Device.opTimeIn (d : Device) : Device :=
  let t0 := d.tk
  let now := t0.time
  let d := (d.updTk fun t => { t with tinSplit := now, tinCnt := satInc t.tinCnt }).setIntBit pgTime 3
  if t0.tinDisc && t0.parent == 31 then
    match t0.tinExpect with
    | none => d.updTk fun t => { t with tinExpect := some (now + t.tinPeriod) }
    | some e => (d.servo (e - now).toInt).updTk fun t => { t with tinExpect := some (e + t.tinPeriod) }
  else d.updTk fun t => { t with tinExpect := none }

def execTimeInEdge (s : State) : Host.Outcome State Fault Refusal := .next (s.on Device.opTimeIn)

/-- The edges TOUT_PHASE + k × TOUT_PERIOD that TIME has reached since the last ones were raised. -/
def Timekeeper.outEdges (t : Timekeeper) : List W64 :=
  let p := t.toutPeriod.toNat
  let ph := t.toutPhase.toNat
  let upTo (x : W64) : Nat := if x.toNat < ph then 0 else (x.toNat - ph) / p + 1
  if p < 3200 then []
  else (List.range (upTo t.time - upTo t.outDone)).map fun j => BitVec.ofNat 64 (ph + (upTo t.outDone + j) * p)

/-- TIME_OUT rises when TIME reaches TOUT_PHASE + k × TOUT_PERIOD, once for each k, stamped with that very TIME. Edges that TIME had
passed when it was stepped, or when the registers were written, are not raised (DESIGN CHOICE, log entry 37). -/
def Device.opTimeOut (d : Device) : Device :=
  match d.tk.outEdges with
  | [] => d
  | es => es.foldl (fun d e => d.emit (.timePulse e)) (d.updTk fun t => { t with outDone := t.time })

def execTimeOutPulse (s : State) : Host.Outcome State Fault Refusal := .next (s.on Device.opTimeOut)

/-! ### The exchange (R239 to R241) -/

/-- The port the device steers by. -/
def Timekeeper.source (t : Timekeeper) : Nat := if t.onAlt then t.alt else t.parent

/-- A void or missing exchange on a port (R240, R241): four in a row on the steering port clear TIME_LOCKED and move the
device from TIME_PARENT to TIME_ALT, if one is named. -/
def Device.badExchange (port : Nat) (d : Device) : Device :=
  if port = d.tk.source then
    let run := d.tk.badRun + 1
    let d := d.updTk fun t => { t with badRun := run, goodRun := 0 }
    if run < 4 then d
    else
      (d.setLocked false).updTk fun t =>
        if !t.onAlt && t.alt != 31 then { t with onAlt := true, badRun := 0, backRun := 0 } else t
  else d

/-- Send one TIME_REQ on a port; a port that cannot carry it makes the exchange a missing one. -/
def Device.sendTimeReq (port : Nat) (d : Device) : Device :=
  if (d.port port).active then
    let x := d.tk.nextXid
    let d := d.updTk fun t => { t with nextXid := x + 1, exchs := t.exchs.drop (t.exchs.length - 15) ++ [{ xid := x, port := port, t1 := t.time + 640, sentNow := d.clk.now }] }
    d.sendLocal port { kind := .cell, body := .timeReq x }
  else d.badExchange port

/-- Every TX_PERIOD the device begins an exchange with its parent; on TIME_ALT it also asks TIME_PARENT, so that good
exchanges there can be counted (R239, R240). -/
def Device.opTimeExchange (d : Device) : Device :=
  let t := d.tk
  if t.source ≠ 31 ∧ d.since t.lastExch t.period then
    let d := d.updTk fun t => { t with lastExch := d.clk.now }
    let d := d.sendTimeReq t.source
    if t.onAlt && t.parent != 31 then d.sendTimeReq t.parent else d
  else d

def execTimeExchange (s : State) : Host.Outcome State Fault Refusal := .next (s.on Device.opTimeExchange)

/-- A TIME_REQ received on a port: T2 is the reception stamp less RXL; T3 is written when TIME_RSP is sent. -/
def Device.opTimeReq (i : Nat) (u : XUnit) (d : Device) : Device :=
  match u.kind, u.loc, u.body with
  | .cell, true, .timeReq x =>
    let take (d : Device) : Device := d.sendLocal i { kind := .cell, body := .timeRsp x (d.tk.time - 1280) 0 }
    if (d.port i).active || d.arrived i u then d.fromPool i u (Device.takeOutside i u take) else d
  | _, _, _ => d

def execTimeReq (i : Nat) (u : XUnit) (s : State) : Host.Outcome State Fault Refusal :=
  .next (s.on (Device.when (isPort i) (Device.opTimeReq i u)))

/-- Count a void exchange (R240). -/
def Device.voidExchange (port : Nat) (d : Device) : Device :=
  (d.updTk fun t => { t with voidCnt := satInc t.voidCnt }).badExchange port

/-- A good exchange on the steering port (R239, R241). -/
def Device.goodExchange (theta delay : Int) (d : Device) : Device :=
  let small := decide (theta.natAbs ≤ 16)
  let d := (d.servo theta).updTk fun t => { t with delay := delay, badRun := 0, goodRun := if small then t.goodRun + 1 else 0 }
  if 64 < theta.natAbs then d.setLocked false
  else if 16 ≤ d.tk.goodRun then d.setLocked true
  else d

/-- A TIME_RSP matched to its exchange: void when a block that carried either cell was replayed or more than 2 × TX_PERIOD has
passed; one that was reckoned as missing is counted, and no second time among the four (R240). -/
def Device.timeRsp (i : Nat) (x : W32) (t2 t3 : W64) (d : Device) : Device :=
  match d.tk.exchs.find? fun e => e.xid == x && e.port == i with
  | none => d
  | some e =>
    let d := d.updTk fun t => { t with exchs := t.exchs.filter (· != e) }
    if e.missed then d.updTk fun t => { t with voidCnt := satInc t.voidCnt }
    else if e.replayed || decide (e.sentNow + 2 * d.tk.period < d.clk.now) then d.voidExchange i
    else
      let t4 := d.tk.time - 1280
      let theta := ((t2 - e.t1).toInt - (t4 - t3).toInt) / 2
      let delay := ((t4 - e.t1).toInt - (t3 - t2).toInt) / 2
      if i = d.tk.source then d.goodExchange theta delay
      else
        let run := d.tk.backRun + 1
        d.updTk fun t => if 16 ≤ run then { t with onAlt := false, backRun := 0, badRun := 0, goodRun := 0 } else { t with backRun := run }

/-- A TIME_RSP received on a port (R239 to R241). -/
def Device.opTimeRsp (i : Nat) (u : XUnit) (d : Device) : Device :=
  match u.kind, u.loc, u.body with
  | .cell, true, .timeRsp x t2 t3 =>
    if (d.port i).active || d.arrived i u then d.fromPool i u (Device.takeOutside i u (Device.timeRsp i x t2 t3)) else d
  | _, _, _ => d

def execTimeRsp (i : Nat) (u : XUnit) (s : State) : Host.Outcome State Fault Refusal :=
  .next (s.on (Device.when (isPort i) (Device.opTimeRsp i u)))

/-- The oldest exchange that has been unanswered for more than 2 × TX_PERIOD is reckoned as missing; TIME_VOID_CNT counts it when its
answer arrives after all (R240). -/
def Device.opExchangeVoid (d : Device) : Device :=
  match d.tk.exchs.find? fun e => !e.missed && decide (e.sentNow + 2 * d.tk.period < d.clk.now) with
  | some e =>
    (d.updTk fun t => { t with exchs := t.exchs.map fun x => if x.xid = e.xid then { x with missed := true } else x }).badExchange e.port
  | none => d

def execTimeExchangeVoid (s : State) : Host.Outcome State Fault Refusal := .next (s.on Device.opExchangeVoid)

/-! ### Loss of the reference (R238, R352) -/

/-- No reference edge for 40 ns: REF_LOSS, TIME_VALID clear, a device fault record; in lockstep mode every running partition
is aborted and reset. -/
def Device.opRefLoss (d : Device) : Device :=
  if d.tk.refLoss then d
  else
    let d := (d.updTk fun t => { t with refLoss := true, valid := false }).setIntBit pgTime 2
    let seq := d.flt.seq
    let ks := if d.lockstep then partList.filter d.running else []
    let d := d.raise { code := 0x0401, unit := 2371, action := if d.lockstep then 5 else 0 }
    d.forAll ks fun k d =>
      (d.registerAbort k 1 (seq.toNat % 4096)).beginReset k { code := 0x0401, unit := 2371, action := 5, faultSeq := seq }

def execRefLoss (s : State) : Host.Outcome State Fault Refusal := .next (s.on Device.opRefLoss)

end Sys2Proof.Machine
end

