-- ==== Sys2Proof/Machine/Recovery.lean ====
section
/-! DEFINITION. What follows a fault (chapter 14): event writes of records (R344), the capture (R348), a partition reset (R350),
retest (R353), the spare-remap journal (R360 to R362). -/

namespace Sys2Proof.Machine

/-! ### Event writes of fault records (R344) -/

/-- The ring that a record of partition `k` (8 for none) is told to (R422): the partition's when it is valid, else the device's. -/
def Device.recordRing (d : Device) (k : Nat) : Nat := if k < 8 && (d.part k).evt.valid then k else 8

/-- The group of records that the next event write signals (R344): those written within 1 µs of the oldest one. -/
def Faults.group (f : Faults) : List (Nat × W32 × Nat) :=
  match f.pending with
  | [] => []
  | p :: _ => f.pending.filter fun x => decide (x.2.2 ≤ p.2.2 + us 1)

/-- One event write of a group to a ring, with the highest SEQ of the group's records that are told there; its source page is
that of the record whose SEQ it carries. -/
def Device.signalRing (g : List (Nat × W32 × Nat)) (ring : Nat) (d : Device) : Device :=
  match g.filter fun x => d.recordRing x.1 == ring with
  | [] => d
  | x :: t =>
    let m := t.foldl (fun a y => if a.2.1.toNat < y.2.1.toNat then y else a) x
    d.event (if ring < 8 then some ring else none) (if m.1 < 8 then pgMailboxP m.1 else pgMailbox) 2 m.2.1.toNat

/-- The records written within 1 µs of one another share a single event write, which carries the highest SEQ (R344); records
that R422 tells to different rings need one on each. The write waits until no further record can join it. -/
def Device.opFaultEvent (d : Device) : Device :=
  match d.flt.pending with
  | [] => d
  | p :: _ =>
    if !d.since p.2.2 (us 1) then d
    else
      let g := d.flt.group
      let d := d.updFlt fun f => { f with pending := f.pending.filter fun x => !decide (x.2.2 ≤ p.2.2 + us 1) }
      d.forAll (List.range 9) (Device.signalRing g)

def execFaultEventWrite (s : State) : Host.Outcome State Fault Refusal := .next (s.on Device.opFaultEvent)

/-! ### The capture (R348, Table 14.4) -/

/-- 64 B of a pacer. -/
def Device.capPacer (d : Device) (p : Nat) : List Byte :=
  let x := d.pacer p
  let lc (m : Map (BitVec 24)) : List Byte := ((List.range 8).map fun i => leBytes 3 (Map.get 0 m i).toNat).flatten
  leBytes 2 p ++ leBytes 1 x.state.code ++ leBytes 1 (b2n x.bank) ++ leBytes 2 x.strideIdx ++ leBytes 2 x.stall ++
    leBytes 4 (Cfg.bib x.activeCfg).toNat ++ leBytes 4 (Cfg.bib x.shadowCfg).toNat ++ lc x.lcInit ++ lc x.lcCur

/-- 32 B of a pacer's comparators: SRC, REL and ENABLE in this order from bit 0 (DESIGN CHOICE, log entry 23). -/
def Device.capCmps (d : Device) (p : Nat) : List Byte :=
  ((List.range 4).map fun i =>
    let c : Cmp := Map.get {} (d.pacer p).cmps i
    leBytes 6 c.value.toNat ++ leBytes 1 (c.src % 4 + c.rel % 4 * 4 + b2n c.enable * 16) ++ leBytes 1 c.index).flatten

/-- The completion counters: 512 B. -/
def Device.capCcs (d : Device) (k : Nat) : List Byte :=
  ((List.range 64).map fun i => let c := d.ccOf k i; leBytes 4 c.count.toNat ++ leBytes 2 c.abn.toNat ++ leBytes 2 c.err.toNat).flatten

/-- The serving state: 65,728 B. `none_` stands where there is no request (DESIGN CHOICE, log entry 23). -/
def Device.capServing (d : Device) (k none_ : Nat) : List Byte :=
  let v := (d.part k).serving
  let pools := ((List.range 24).map fun i => leBytes 4 (Map.get 0 v.poolHead i) ++ leBytes 4 (Map.get 0 v.poolTail i)).flatten
  let queues := ((List.range 4096).map fun t =>
    let q := Map.get [] d.starter.queues (4096 * k + t)
    leBytes 4 (q.headD none_) ++ leBytes 4 (q.getLastD none_)).flatten
  let slots := ((List.range 8192).map fun s =>
    let x : Slot := Map.get {} v.slotTab s
    leBytes 4 (x.req.getD none_ % 2 ^ 31 + b2n x.req.isNone * 2 ^ 31)).flatten
  pools ++ queues ++ slots

/-- 128 B of a port, in the order of the table (DESIGN CHOICE, log entry 23). -/
def Device.capPort (d : Device) (i : Nat) : List Byte :=
  let p := d.port i
  let l := p.link
  let mask (f : Window → Bool) : Nat :=
    (List.range 64).foldl (fun a w => if f (p.window d.cyc w) then a + 2 ^ w else a) 0
  fitBytes 128 (leBytes 1 l.state.code ++ leBytes 1 l.txMap.length ++ leBytes 2 l.next.toNat ++ leBytes 2 l.una.toNat ++
    leBytes 2 l.e.toNat ++ leBytes 4 l.limReq.toNat ++ leBytes 4 l.limRsp.toNat ++ leBytes 4 l.limSh.toNat ++
    leBytes 4 l.sentReq.toNat ++ leBytes 4 l.sentRsp.toNat ++ leBytes 4 l.sentSh.toNat ++ leBytes 8 (mask (·.full)) ++
    leBytes 8 (mask (·.complete)))

/-- 136 B for each VALID entry of each relay that has the partition in its user mask (R223, R225). -/
def Device.capRelays (d : Device) (k : Nat) : List Byte :=
  let mine := d.clk.users.filter fun u => u.2.contains (k, d.pcid k)
  (mine.map fun u => ((List.range 16).map fun s =>
    match d.relaySlot u.1 s with
    | (tag, some f) => leBytes 2 u.1 ++ leBytes 1 s ++ leBytes 1 tag ++ leBytes 1 (b2n (d.relay u.1).slipped) ++ leBytes 3 0 ++ leBytes 128 f.toNat
    | (_, none) => []).flatten).flatten

/-- Sections of a capture with their offsets, each on a 64 B boundary, cut at 1 MiB with TRUNC. -/
def capPlace : Nat → List (List Byte) → List (Nat × List Byte × Bool)
  | _, [] => []
  | at_, s :: t =>
    let n := min s.length (1048576 - at_)
    (at_, s.take n, decide (n < s.length)) :: capPlace ((at_ + n + 63) / 64 * 64) t

/-- The capture: a 256 B header and the sections in order. -/
def Device.capture (k : Nat) (seq : W32) (d : Device) : Device :=
  match (d.part k).image with
  | none => d
  | some im =>
    let (none_, d) := d.draw
    let ps := (List.range 1024).filter fun p => (d.pacersOf k).contains p
    let ports := (ps.filter fun p => decide (384 ≤ p)).map (· - 384)
    let secs := capPlace 256 [(ps.map d.capPacer).flatten, (ps.map d.capCmps).flatten, d.capRelays k, d.capCcs k,
      if im.serving then d.capServing k none_ else [], (ports.map d.capPort).flatten]
    let table := (secs.map fun s => leBytes 4 s.1 ++ leBytes 4 (s.2.1.length + b2n s.2.2 * 2 ^ 31)).flatten
    let hdr := leBytes 4 0x5043414E ++ leBytes 4 0 ++ leBytes 8 d.split.toNat ++ leBytes 4 (d.pcid k).toNat ++
      leBytes 4 seq.toNat ++ leBytes 4 (d.bib im.commitPacer).toNat ++ leBytes 4 0 ++ table
    let base := d.physAddr k im.captureBase
    let d := d.writeBytes k base (fitBytes 256 hdr)
    secs.foldl (fun d s => d.writeBytes k (base + s.1) s.2.1) d

/-! ### Partition reset (R350) -/

/-- A unit that this device sends for partition `k`: of the request class, for a response belongs to the put or get it answers, which
completes (R319); and not the marshal's HEAT_ABORT (R326; DEDUCED, log entry 45). -/
def Device.ownUnit (d : Device) (k : Nat) (u : XUnit) : Bool :=
  u.srcPart == k && u.srcId == d.tr.myId && u.cls == 0 &&
  match u.kind, u.body with
  | .cell, .heatAbort .. => false
  | _, _ => true

/-- Discard the partition's units that no link layer has yet, stop its QXFER lists, and end what its units have under way
(R350 step 4, R319 step 3). -/
def Device.discardUnits (k : Nat) (d : Device) : Device :=
  let keep (u : XUnit) : Bool := !d.ownUnit k u
  let mine (o : W16) : Bool := o != 0 && pcidPart o == k
  let ports := d.ports.map fun e =>
    (e.1, { e.2 with planned := e.2.planned.filter keep, resent := e.2.resent.filter keep, egReq := e.2.egReq.filter keep,
                     egRsp := e.2.egRsp.filter keep, intake := if mine e.2.owner then [] else e.2.intake })
  let chans := d.chans.map fun e => if mine e.2.owner then (e.1, { e.2 with inFlight := [] }) else e
  let keys := (d.pacersOf k).map ingressKey
  let d : Device := { d with
    ports := ports, chans := chans,
    net := { flits := d.net.flits.filter (fun f => f.part != k), ingress := d.net.ingress.filter fun e => !keys.contains e.1 } }
  (d.updTr fun t =>
    { t with waiting := t.waiting.filter (fun x => keep x.2), unnumbered := t.unnumbered.filter (fun x => keep x.2), loop := t.loop.filter keep }).updPart k fun p => { p with qlists := [] }

/-- Empty the window slots that partition `k` owns, keeping their OWNER. -/
def Device.emptyWindows (k : Nat) (d : Device) : Device :=
  { d with ports := d.ports.map fun e =>
      (e.1, { e.2 with windows := (e.2.windows.map fun w =>
        if pcidPart w.2.owner == k && w.2.owner != 0 then (w.1, { owner := w.2.owner }) else w) }) }

/-- A pacer at the end of a partition reset: IDLE, BANK_READY clear, comparators disabled; its tables stay. -/
def Pacer.idle (x : Pacer) : Pacer :=
  { x with state := .idle, ready := false, cmps := (x.cmps.map fun c => (c.1, { c.2 with enable := false })).filter fun c => c.2 != {},
           ldesc := none, cmpOld := [], lcOld := [], entered := false, waitOk := none, pendingEnd := none, lapsed := false,
           missed := false, outst := [], stall := 0, commitCyc := none, stuck := false }

/-- Accumulators, vector registers and staging are zeroed, banks return to stream mode; the array keeps its contents. -/
def Tile.partReset (t : Tile) : Tile :=
  { t with compute := 0, modeBusy := [], accs := [], vregs := [], staging := [], pend := [], arr := [], outs := [], uses := [],
           readRow := none, rdBeat := [], wrBeat := [] }

/-- BME stores are zeroed and every slot table entry is EMPTY. -/
def Bme.partReset (b : Bme) : Bme :=
  { b with queries := [], triples := [], scores := [], lines := [], slots := [], scan := none, past := [] }

/-- Step 5 of R350 on tile, BME or channel `p` of the partition, whether or not its image uses the unit's pacer. -/
def Device.resetUnit (p : Nat) (d : Device) : Device :=
  if p < 208 then d.updTile p Tile.partReset
  else if p < 280 then
    (d.updBme (p - 256) Bme.partReset).dropUpsets fun s => match s with
      | .bme c _ _ => c == p - 256
      | _ => false
  else if p < 344 then d.updChan (p - 320) fun c => { c with beats := [], cursors := [], recent := [] }
  else d

/-- Steps 4 and 5 of R350 on the partition's pacers and on every unit that it owns. -/
def Device.resetUnits (k : Nat) (d : Device) : Device :=
  let ps := d.pacersOf k
  let units := (List.range 208).filter (fun t => d.tilePart t == some k) ++ (d.part k).chanList.map (256 + ·) ++ (d.part k).chanList.map (320 + ·)
  let d := (d.discardUnits k).emptyWindows k
  let d := d.forAll ps fun p d => d.updPacer p Pacer.idle
  let d := d.forAll units Device.resetUnit
  d.forAll (d.regionsIn k .run) fun g d => d.setPower g .fill

/-- A host PART_RESET (R350): the reset begins with an abort, or one is under way already. -/
def Device.opPartReset (k : Nat) (capture : Bool) (d : Device) : Device :=
  if (d.part k).run.reset.isSome then d.updPart k fun p => { p with resetResult := 1, resetValid := true }
  else
    let d := d.updPart k fun p => { p with resetResult := 0, resetValid := true }
    (d.registerAbort k 3 0).beginReset k { code := 0, unit := 0, action := 2, capture := capture }

def execPartReset (k : Nat) (capture : Bool) (s : State) : Host.Outcome State Fault Refusal :=
  .next (s.on (Device.when (isPart k) (Device.opPartReset k capture)))

/-- The end of a partition reset (R350): record, capture, drain and clear; a failed structure is retested next (R353). -/
def Device.endReset (k : Nat) (d : Device) : Device :=
  match (d.part k).run.reset with
  | none => d
  | some job =>
    let d := d.opAbortedRecord k
    let d := if job.capture then d.capture k job.faultSeq else d
    let d := (d.resetUnits k).servingEnd k
    let d := d.updClk fun c => { c with staggers := c.staggers.filter fun s => s.part != k }
    let now := d.clk.now
    d.updRun k fun r =>
      { r with phase := .none, reset := none, commit := none, hold := none, resumed := none, nextFrame := none, refills := [], refilling := none,
               resetEnd := some now,
               retest := if job.action = 3 then some job else r.retest }

/-! ### The journal (R360 to R362) -/

/-- Start an update when entries wait and none is running (R361). -/
def Faults.startUpdate (f : Faults) : Faults :=
  if f.updating.isNone && !f.queued.isEmpty then
    { f with updating := some (f.entries ++ f.queued.filter fun e => !f.entries.any fun x => x.tile == e.tile), queued := [] }
  else f

/-- The copy that an update programs: not the one in force. -/
def Faults.target (f : Faults) : Bool :=
  match f.copy with
  | some c => !c.1
  | none => false

/-- Write the target copy. -/
def Faults.program (es : List JEntry) (f : Faults) : Faults :=
  let seq : W32 := match f.copy with | some c => c.2.seq + 1 | none => 1
  let c : JCopy := { valid := true, seq := seq, entries := es }
  if f.target then { f with journal1 := c, updating := none } else { f with journal0 := c, updating := none }

/-- The target copy is not valid after a failed or abandoned update. -/
def Faults.spoil (f : Faults) : Faults :=
  if f.target then { f with journal1 := { f.journal1 with valid := false }, updating := none }
  else { f with journal0 := { f.journal0 with valid := false }, updating := none }

/-- Every pacer of the device is IDLE. -/
def Device.allIdle (d : Device) : Bool := d.pacers.all fun x => x.2.state == .idle

/-- A JCLR request clears this entry. -/
def JEntry.cleared (what : Option Nat) (e : JEntry) : Bool :=
  match what with
  | none => true
  | some t => e.tile == t

/-- The entries a JCLR request leaves. -/
def Device.jclrEntries (d : Device) : List JEntry := d.flt.entries.filter fun e => !e.cleared d.mb.jclrWhat

/-- Settle a JCLR request. -/
def Device.jclrSettle (code : Nat) (d : Device) : Device :=
  d.updMb fun m => { m with jclrResult := code, jclrValid := true, jclrBusy := false, jclrWhat := none }

/-- No pacer runs and no journal update is in progress: a JCLR request waits no longer (R362). -/
def Device.jclrFree (d : Device) : Bool := d.allIdle && d.flt.updating.isNone

/-- The code with which a JCLR request that waits no longer settles without writing (R362). -/
def Device.jclrCode (d : Device) : Option Nat :=
  if d.fuses.lc ≠ 1 ∧ d.fuses.lc ≠ 4 then some 1
  else match d.mb.jclrWhat with
    | some t => if d.flt.entries.any fun e => e.tile == t then none else some 2
    | none => none

/-- A pending JCLR request that waits no longer settles when there is nothing to write (R362). -/
def Device.jclrTry (d : Device) : Device :=
  if d.mb.jclrBusy && d.jclrFree then
    match d.jclrCode with
    | some c => d.jclrSettle c
    | none => d
  else d

/-- A JCLR_GO write (R362), with the fields as they stand (R428). -/
def Device.opJclr (d : Device) : Device :=
  if d.mb.jclrBusy then d.countErr pgMailbox errState
  else
    (d.updMb fun m => { m with jclrValid := false, jclrBusy := true, jclrWhat := if m.jclrAll then none else some m.jclrTile }).jclrTry

/-- The new copy without the named entries stands (R362): a cleared tile is usable from now on. -/
def Device.jclrDone (d : Device) : Device :=
  let gone := d.flt.entries.filter fun e => e.cleared d.mb.jclrWhat
  ((d.updFlt (Faults.program d.jclrEntries)).updFlt fun f =>
    { f with failedTiles := f.failedTiles.filter fun t => !gone.any fun e => e.tile == t }).jclrSettle 0

def execJclrGo (s : State) : Host.Outcome State Fault Refusal := .next (s.on Device.opJclr)

/-- A journal write of the marshal ends (R361): an update under way, or else a JCLR request that waited until every pacer was
IDLE and no update was running (R362). A copy that failed raises a JOURNAL record. -/
def Device.opJournal (ok : Bool) (d : Device) : Device :=
  let fail (d : Device) : Device :=
    let c := b2n d.flt.target
    (d.updFlt Faults.spoil).raise { code := 0x0602, unit := 2370, specific := leBytes 1 c }
  match d.flt.updating with
  | some es =>
    let d := if ok then d.updFlt (Faults.program es) else fail d
    (d.updFlt Faults.startUpdate).jclrTry
  | none =>
    let d := d.jclrTry
    if d.mb.jclrBusy && d.allIdle then
      if ok then d.jclrDone else (fail d).jclrSettle 3
    else d

def execJournalUpdate (ok : Bool) (s : State) : Host.Outcome State Fault Refusal := .next (s.on (Device.opJournal ok))

/-! ### Retest and repair (R353, R354) -/

/-- Retest leaves the tested structure written with zero and valid check bits (R353): a subarray, a store, or a bank pair. -/
def Device.zeroTested (unit code : Nat) (spec : List Byte) (d : Device) : Device :=
  let b (i : Nat) : Nat := (spec.getD i 0).toNat
  if code = 0x0201 then
    let lo := 2048 * (24 * b 1 + b 2)
    (d.updTile unit fun t => { t with mem := t.mem.filter fun w => !(decide (lo ≤ w.1) && decide (w.1 < lo + 2048)) }).dropUpsets
      fun s => match s with
        | .sram t w => t == unit && decide (lo ≤ w) && decide (w < lo + 2048)
        | _ => false
  else if code = 0x0202 then
    (d.updBme (unit - 256) fun x =>
      match b 0 with
      | 0 => { x with queries := [] }
      | 1 => { x with triples := [] }
      | 2 => { x with scores := [] }
      | 3 => { x with lines := [] }
      | 4 => { x with scan := none }
      | _ => { x with slots := [] }).dropUpsets
      fun s => match s with
        | .bme c st _ => c == unit - 256 && st == b 0
        | _ => false
  else if code = 0x0204 then
    (d.updPacer unit fun x =>
      { x with table := x.table.filter fun e => e.1 / 2048 != b 0, descs := x.descs.filter fun e => e.1 / 64 != b 0 }).dropPacerUpsets unit (b 0)
  else d

/-- A tile is found failed (R354, R361): unusable until the next device reset, and journalled in DEPLOYED. -/
def Device.tileFailed (t code : Nat) (sp : W64) (d : Device) : Device :=
  d.updFlt fun f =>
    let f := if f.failedTiles.contains t then f else { f with failedTiles := f.failedTiles ++ [t] }
    if d.fuses.lc = 3 then ({ f with queued := f.queued ++ [{ tile := t, code := code, split := sp }] } : Faults).startUpdate else f

end Sys2Proof.Machine
end

