-- ==== Sys2Proof/Machine/Assign.lean ====
section
/-! DEFINITION. Load requests and their records (R173 to R180), the assignment of regions and groups (R189, R167), teardown
(R319), and the start of a partition (R87, R322, R323, R371 to R373). -/

namespace Sys2Proof.Machine

/-! ### Load result records (R174, R180) -/

/-- The load generation after `g` (R345). -/
def nextGen (g : Nat) : Nat := if (g + 1) % 8192 = 0 then 1 else (g + 1) % 8192

/-- Settle a load request with its record (R174): kept in the result area and in LAST_LOAD, and signalled. -/
def Device.loadSettle (k : Nat) (r : LoadResult) (d : Device) : Device :=
  let gen := if r.code = 0 then (d.part k).gen else nextGen (d.part k).gen
  let r := { r with split := d.split, pcid := BitVec.ofNat 16 (k * 8192 + gen % 8192) }
  let d := (d.updMb fun m => { m with results := m.results ++ [r] }).updPart k fun p => { p with lastLoad := some r }
  (d.setIntBit (pgMailboxP k) 1).event (some k) (pgMailboxP k) 4 (r.pcid.toNat + r.code * 2 ^ 16)

/-- Reject a request by its code in the request checks. -/
def Device.loadReject (k code : Nat) (d : Device) : Device := d.loadSettle k { code := code }

/-- A partition has a request queued or in progress. -/
def Device.loading (d : Device) (k : Nat) : Bool :=
  (d.mb.queue.any fun r => r.part == k) || (match d.mb.placing with | some r => r.part == k | none => false)

/-- Every pacer that an image or an OWNER gives to the partition is IDLE. -/
def Device.pacersIdle (d : Device) (k : Nat) : Bool :=
  (d.pacersOf k).all (fun p => (d.pacer p).state == .idle) &&
    d.pacers.all fun e => !(d.pacerOwner e.1 != 0 && pcidPart (d.pacerOwner e.1) == k) || e.2.state == .idle

/-- The address lies in the partition's DRAM (R149). -/
def Device.inPartDram (d : Device) (k a : Nat) : Bool :=
  match d.place a with
  | .dram c _ => (d.part k).groups.getLsbD (c / 3)
  | _ => false

/-- An I/O pace region is FAILED: the device takes no load (R231). -/
def Device.ioFailed (d : Device) : Bool := allRegions.any fun g => decide (24 ≤ g) && (d.region g).failed

/-- The request checks of R175, R176 and R231, in the order of Table 7.5. -/
def Device.loadCheck (d : Device) (r : LoadReq) : Option Nat :=
  let p := d.part r.part
  if d.ioFailed then some 0x21
  else if 8 ≤ d.mb.queue.length ∨ d.loading r.part then some 0x20
  else if p.regions = 0 ∨ p.groups = 0 ∨ !d.pacersIdle r.part ∨ p.run.reset.isSome ∨ !d.inPartDram r.part r.addr ∨
      r.addr % 64 ≠ 0 then some 0x21
  else if d.sec.lcWait.isSome then some 0x21
  else if d.mb.devMode = some (!r.cadence) then some 0x22
  else if p.shadow.role = 2 ∧ !r.cadence then some 0x22
  else none

/-- A load request joins the queue, or its record says why not (R173). -/
def Device.loadEnqueue (r : LoadReq) (d : Device) : Device :=
  match d.loadCheck r with
  | some code => d.loadReject r.part code
  | none => d.updMb fun m => { m with queue := m.queue ++ [r] }

/-- A self-test that holds back assignments, loads and starts runs (R407): test 0 or 4. -/
def Device.deepTest (d : Device) : Bool :=
  match d.st.running with
  | some r => r.test == 0 || r.test == 4
  | none => false

/-- LOAD_GO (R173): the request is taken with the fields as they stand; a test 0 or 4 makes it wait (R407). -/
def Device.opLoadGo (d : Device) : Device :=
  let m := d.mb
  let r : LoadReq := { addr := m.imageAddr.toNat, part := m.part, cadence := m.mode, strict := m.strict,
                       autoStart := m.autoStart, pwrAlloc := m.pwrAlloc }
  if d.deepTest then d.updSt fun t => { t with waits := t.waits ++ [.load r] } else d.loadEnqueue r

def execLoadGo (s : State) : Host.Outcome State Fault Refusal := .next (s.on Device.opLoadGo)

/-! ### Repair (R354) -/

/-- The repair that REPAIR_MODE asks for: a reload of the image copy with the partition's last choices (R354); a heat
member never starts automatically. -/
def Device.repair (k : Nat) (tested : Option (Nat × Nat)) (d : Device) : Device :=
  let p := d.part k
  match p.image with
  | none => d
  | some im =>
    if p.repairMode = 0 then d
    else
      let r : LoadReq := { addr := im.addr, part := k, cadence := im.cadence, strict := im.strict,
                           autoStart := p.repairMode == 3 && !p.run.heat, pwrAlloc := im.pwrAlloc, reload := true,
                           mapOnly := p.repairMode == 1, retested := tested }
      if 8 ≤ d.mb.queue.length ∨ d.loading k then d.loadReject k 0x20 else d.updMb fun m => { m with queue := m.queue ++ [r] }

/-- The retest of a unit ends (R353, R354). A tile has failed without retest after PORT_CONFLICT. -/
def Device.opRetest (k : Nat) (failed : Bool) (d : Device) : Device :=
  match (d.part k).run.retest with
  | none => d
  | some job =>
    let u := job.unit
    let code := job.code
    let spec := job.specific
    let d := d.updRun k fun r => { r with retest := none }
    if code = 0x0103 then (d.tileFailed u code job.split).repair k none
    else
      let d := d.zeroTested u code spec
      if !failed then
        (d.updFlt fun f => { f with transientUnits := if f.transientUnits.contains u then f.transientUnits else f.transientUnits ++ [u] }).repair k
          (if code = 0x0201 then some (u, 24 * (spec.getD 1 0).toNat + (spec.getD 2 0).toNat) else none)
      else if u < 208 then (d.tileFailed u code job.split).repair k none
      else if u < 384 then
        let g := (if u < 320 then u - 256 else u - 320) / 3
        d.updFlt fun f => { f with failedGroups := if f.failedGroups.contains g then f.failedGroups else f.failedGroups ++ [g] }
      else d.updFlt fun f => { f with failedPorts := if f.failedPorts.contains (u - 384) then f.failedPorts else f.failedPorts ++ [u - 384] }

def execRetestDone (k : Nat) (failed : Bool) (s : State) : Host.Outcome State Fault Refusal :=
  .next (s.on (Device.when (isPart k) (Device.opRetest k failed)))

/-! ### Teardown (R319) -/

/-- The partition's request under placement ends ABANDONED (R176). -/
def Device.abandonPlacing (k : Nat) (d : Device) : Device :=
  match d.mb.placing with
  | some r =>
    if r.part = k then (d.updMb fun m => { m with placing := none, plan := none }).loadSettle k { code := 0x23, phase := 4 } else d
  | none => d

/-- The partition's requests in the load gate end ABANDONED (R176). -/
def Device.abandonLoads (k : Nat) (d : Device) : Device :=
  let n := (d.mb.queue.filter fun r => r.part == k).length
  let d := (d.updMb fun m => { m with queue := m.queue.filter fun r => r.part != k }).abandonPlacing k
  (List.range n).foldl (fun d _ => d.loadReject k 0x23) d

/-- Begin a teardown (R319 steps 1 to 3); during a partition reset it waits for its end (R350). -/
def Device.beginTeardown (k : Nat) (d : Device) : Device :=
  if (d.part k).run.reset.isSome then d.updRun k fun r => { r with teardownWait := true }
  else
    let d := (d.abandonLoads k).registerAbort k 2 0
    let d := d.updPart k fun p => { p with epoch := p.epoch + 1 }
    ((d.discardUnits k).emptyWindows k).updRun k fun r =>
      { r with teardown := true, phase := if r.phase == .aborted then .aborted else .none }

/-- A partition reset ends (R350); a teardown that waited for it begins. -/
def Device.opPartResetDone (k : Nat) (d : Device) : Device :=
  let r := (d.part k).run
  let d := d.when r.reset.isSome (Device.abandonPlacing k)
  let d := d.endReset k
  if r.reset.isSome && r.teardownWait then (d.updRun k fun r => { r with teardownWait := false }).beginTeardown k else d

def execPartitionResetDone (k : Nat) (s : State) : Host.Outcome State Fault Refusal :=
  .next (s.on (Device.when (isPart k) (Device.opPartResetDone k)))

/-- A unit of the partition is placed no more: OWNER cleared (R346). -/
def Device.clearOwners (k : Nat) (d : Device) : Device :=
  let mine (o : W16) : Bool := o != 0 && pcidPart o == k
  { d with
    tiles := d.tiles.map fun e => if mine e.2.owner then (e.1, { e.2 with owner := 0, substituted := false }) else e
    bmes := d.bmes.map fun e => if mine e.2.owner then (e.1, { e.2 with owner := 0 }) else e
    chans := d.chans.map fun e => if mine e.2.owner then (e.1, { e.2 with owner := 0 }) else e
    ports := d.ports.map fun e =>
      (e.1, { e.2 with owner := if mine e.2.owner then 0 else e.2.owner,
                       windows := e.2.windows.filter fun w => !mine w.2.owner })
    clk := { d.clk with users := (d.clk.users.map fun u => (u.1, u.2.filter fun x => x.1 != k)).filter fun u => !u.2.isEmpty } }

/-- The end of a teardown (R319 steps 4 and 5, R210): the run's record, the requests, key, counters, assignment, image and
loans are gone, and the regions are gated. -/
def Device.finishTeardown (k : Nat) (d : Device) : Device :=
  let d := d.opAbortedRecord k
  let d := (d.failActive k 0xC).failQueued k 0xC
  let d := d.resetUnits k
  let d := d.forAll (d.regionsIn k .fill ++ d.regionsIn k .run) fun g d => d.setPower g .gated
  let d := d.clearOwners k
  let d := d.updClk fun c => { c with staggers := c.staggers.filter fun s => s.part != k }
  let d := d.updPart k fun p =>
    { p with regions := 0, groups := 0, key := none, lent := [], image := none, verified := none, roRanges := [], cc := [],
             altReady := false, alts := [], reloadBytes := 0, pwrAlloc := 0,
             run := { p.run with phase := .none, teardown := false, abort := none, refills := [], refilling := none, resetEnd := none } }
  match d.mb.partPending with
  | some (j, rs, gs) =>
    if j = k ∧ rs = 0 ∧ gs = 0 then
      (d.updMb fun m => { m with partPending := none, partResult := 0, partValid := true }).setIntBit pgMailbox 2
    else d
  | none => d

/-- The partition's transactions have drained, within 10 µs of the epoch's change (R319). -/
def Device.opTeardownDrain (k : Nat) (d : Device) : Device :=
  if (d.part k).run.teardown then d.finishTeardown k else d

/-! ### Assignment (R189, R167) -/

/-- Settle a PART_GO request. -/
def Device.partSettle (code : Nat) (d : Device) : Device :=
  (d.updMb fun m => { m with partPending := none, partResult := code, partValid := true }).setIntBit pgMailbox 2

/-- A new key for a partition (R166). -/
def Device.newKey (k : Nat) (d : Device) : Device :=
  let (n, d) := d.makeKey
  d.updPart k fun p => { p with key := some n }

/-- The groups of a request that are not the partition's yet. -/
def Device.joining (d : Device) (k : Nat) (gs : Byte) : List Nat :=
  (List.range 8).filter fun g => gs.getLsbD g && !(d.part k).groups.getLsbD g

/-- The assignment holds: groups that left keep no key, and their lines are unreadable. -/
def Device.assign (k : Nat) (rs : BitVec 24) (gs : Byte) (d : Device) : Device :=
  (d.updPart k fun p => { p with regions := rs, groups := gs }).partSettle 0

/-- The result R189 gives a request, the listed order deciding where several apply (DEDUCED, log entry 24). BLANK and SCRAPPED permit
no partition (Table 16.1), for which R189 names no code: INVALID (DESIGN CHOICE, log entry 24). -/
def Device.partCode (d : Device) (k : Nat) (rs : BitVec 24) (gs : Byte) : Option Nat :=
  let others := partList.filter (· != k)
  let requests := (d.starter.queues.any fun q => q.1 / 4096 == k) || ((d.part k).serving.slotTab.any fun s => s.2.req.isSome) ||
    !(d.mirroredIn k 1).isEmpty || !(d.mirroredIn k 2).isEmpty
  if d.fuses.lc = 0 ∨ d.fuses.lc = 5 then some 3
  else if d.sec.lcWait.isSome || !d.pacersIdle k || requests || ((d.loading k || (d.part k).run.reset.isSome) && rs != 0) then some 1
  else if (others.any fun j => (d.part j).regions &&& rs != 0 || (d.part j).groups &&& gs != 0) ||
      (partList.any fun j => (d.part j).lent.any fun g => rs.getLsbD g) then some 2
  else if (d.fuses.grade176 && (rs.getLsbD 11 || rs.getLsbD 23)) || ((List.range 24).any fun g => rs.getLsbD g && (d.region g).failed) ||
      ((List.range 24).any fun c => gs.getLsbD (c / 3) && ((d.chan c).state == .failed || d.flt.failedGroups.contains (c / 3))) ||
      ((rs == 0) != (gs == 0)) then some 3
  else none

/-- PART_GO (R189): refused while a request is unsettled (R428); otherwise it settles at once, or when a release has drained
or joining groups have their key and zero fill. A key waits while the entropy source fails (R393). -/
def Device.opPartGo (d : Device) : Device :=
  if d.mb.partPending.isSome || d.st.waits.contains .part then d.countErr pgMailbox errState
  else if d.deepTest then
    (d.updMb fun m => { m with partValid := false }).updSt fun t => { t with waits := t.waits ++ [.part] }
  else
    let k := d.mb.paPart
    let rs := d.mb.paRegions
    let gs := d.mb.paGroups
    let d := d.updMb fun m => { m with partValid := false }
    match d.partCode k rs gs with
    | some c => d.partSettle c
    | none =>
      if rs = 0 then (d.updMb fun m => { m with partPending := some (k, rs, gs) }).beginTeardown k
      else if (d.joining k gs).isEmpty then d.assign k rs gs
      else
        let d := d.updMb fun m => { m with partPending := some (k, rs, gs) }
        if (d.part k).key.isSome then d
        else if d.sec.entropyOk then d.newKey k
        else d.updSec fun s => { s with keyWait := s.keyWait ++ [.partition k] }

def execPartGo (s : State) : Host.Outcome State Fault Refusal := .next (s.on Device.opPartGo)

/-- The zero fill of the joining groups ends (R167): every line of their partition areas reads as zero under the partition's
key, and the assignment holds. It waits for channels still in bring-up, which no access reaches (R168); one that has failed meanwhile makes
the request INVALID (DESIGN CHOICE, log entry 24). -/
def Device.opZeroFill (k : Nat) (d : Device) : Device :=
  match d.mb.partPending, (d.part k).key with
  | some (j, rs, gs), some key =>
    if j = k ∧ rs ≠ 0 then
      let cs := ((d.joining k gs).map fun g => [3 * g, 3 * g + 1, 3 * g + 2]).flatten
      if cs.any fun c => (d.chan c).state == .failed then d.partSettle 3
      else if cs.any fun c => (d.chan c).state == .training then d
      else
      let d := d.forAll cs fun c d => d.updChan c fun x =>
        { x with filled := some key, lines := x.lines.filter fun l => decide (x.area ≤ 64 * l.1) }
      let d := d.dropUpsets fun s => match s with
        | .dram c o => cs.contains c && decide (64 * o < (d.chan c).area)
        | _ => false
      d.assign k rs gs
    else d
  | _, _ => d

def execGroupZeroFillDone (k : Nat) (s : State) : Host.Outcome State Fault Refusal :=
  .next (s.on (Device.when (isPart k) (Device.opZeroFill k)))

/-! ### Start (R87, R216, R322, R323, R371 to R373) -/

/-- NPOS meets R204 and Table 8.1 for its SMODE. -/
def Serving.paramsOk (v : Serving) : Bool :=
  decide (1 + max v.headsN v.rabbitN ≤ v.npos) && decide (v.npos ≤ (if v.smode = 1 then 256 else 9))

/-- Length of a compute region's filler ramp in ticks (R372): 50 A/µs up to the first class's PEAK shared by the regions. -/
def Device.rampTicks (d : Device) (k : Nat) : Nat :=
  match (d.part k).image with
  | none => us 1
  | some im =>
    let peak := (im.classes.getD (im.schedule.getD 0 (0, 1)).1 (0, 0)).2
    let n := (d.part k).regionList.length
    let rail := if (d.part k).railRegions 0 = 0 then 1 else 0
    let a : Rat := min 50 ((peak : Rat) / 10 / (n : Rat) * 1000 / (d.pwr.setpoint rail : Rat))
    (a / 50 * 1600).ceil.toNat

/-- Why a start request is refused; none when it is accepted. -/
def Device.startCode (d : Device) (k : Nat) (heat : Bool) : Option Nat :=
  let p := d.part k
  match p.image with
  | none => some 8
  | some im =>
    if p.run.phase != .loaded then some 8
    else if d.clk.opCur < im.opDecl ∨ im.opMin < d.clk.opCur then some 4
    else if heat && decide (p.tH.toNat < d.tk.time.toNat + 1600000) then some 5
    else if heat && !d.tk.locked && d.tk.parent != 31 then some 6
    else if 1050 ≤ d.thr.hotT then some 7
    else if im.serving && !p.serving.paramsOk then some 9
    else none

/-- Settle a start request. -/
def Device.startSettle (k code : Nat) (d : Device) : Device :=
  (d.updPart k fun p => { p with startResult := code, startValid := true }).setIntBit (pgMailboxP k) 3

/-- A start request (R87, R322): accepted, the partition's regions are ungated by staggered start, or the forewarning is
given where they are in FILL after a partition reset (R373). -/
def Device.start (k : Nat) (heat : Bool) (d : Device) : Device :=
  let d := d.updPart k fun p => { p with startValid := false }
  if d.deepTest then d.updSt fun t => { t with waits := t.waits ++ [.start k heat] }
  else match d.startCode k heat with
  | some c => d.startSettle k c
  | none =>
    let d := (d.startSettle k 0).updRun k fun r => { r with phase := .starting, heat := heat, relayed := false, heatNo := (d.part k).heatNo, heatAt := (d.part k).tH }
    let gs := d.regionsIn k .gated
    if gs.isEmpty then
      let t := d.clk.now + us 10
      (d.assertFor (d.part k).poweredList t).updRun k fun r => { r with startAt := t }
    else (d.beginStagger k gs .start).updRun k fun r => { r with startAt := 0 }

def execStartGo (k : Nat) (s : State) : Host.Outcome State Fault Refusal :=
  .next (s.on (Device.when (isPart k) (Device.start k false)))

def execHeatStart (k : Nat) (s : State) : Host.Outcome State Fault Refusal :=
  .next (s.on (Device.when (isPart k) (Device.start k true)))

/-- The staggered start that prepares a partition has ended, ramps included; or the forewarning has been long enough. -/
def Device.prepared (d : Device) (k : Nat) : Bool :=
  (d.regionsIn k .gated).isEmpty &&
  match d.clk.staggers.find? fun s => s.part == k && s.purpose == .start with
  | some s => s.left.isEmpty && decide (s.lastAt + d.rampTicks k ≤ d.clk.now + ns 250)
  | none => decide ((d.part k).run.startAt ≤ d.clk.now)

/-- A pacer at S (R87). -/
def Pacer.begin (c : Nat) (t0 : W64) (x : Pacer) : Pacer :=
  { x with state := .running, bank := false, lcInit := [], lcCur := [], cmps := [], cmpOld := [], lcOld := [], activeCfg := 0,
           heatT0 := t0, strideIdx := 0, next := 0, lastIssue := c, entered := false, waitOk := none, pendingEnd := none,
           lapsed := false, missed := false, outst := [], stall := 0, commitCyc := none, seqPos := 0, digest := 0, stuck := false }

/-- S: the first lap mark after the preparation, and for a heat the first whose split is at or after T_H. -/
def Device.opPartStart (k : Nat) (d : Device) : Device :=
  let p := d.part k
  if p.run.phase == .starting && d.clk.lapCyc == 0 && d.clk.gun == .fired && d.prepared k &&
      (!p.run.heat || decide (p.run.heatAt.toNat ≤ d.tk.time.toNat)) then
    let c := d.cyc
    let t := d.split
    let d := d.updPart k fun p =>
      { p with
        heatSkew := if p.run.heat then t - p.run.heatAt else p.heatSkew
        serving := { p.serving with stepCnt := 0, mirrored := [], mirrorExpect := [] }
        shadow := { p.shadow with run := 0, planLap := 0, digests := [], own := [], peer := [] }
        run := { p.run with phase := .running, startCyc := c, startSplit := t, runSeq := p.run.runSeq + 1, holds := 0, lost := 0,
                            commit := none, abort := none, hold := none, resumed := none, frameNo := 0, lastFrame := c, nextFrame := none,
                            schedPos := 0, schedLaps := 0, refills := [], refilling := none, resetEnd := none } }
    let d := d.forAll (d.pacersOf k) fun q d => d.updPacer q (Pacer.begin c t)
    let d := d.forAll (d.regionsIn k .fill) fun g d => d.setPower g .run
    let d := d.updClk fun c => { c with staggers := c.staggers.filter fun s => s.part != k }
    d.assertedUntil k
  else d

def execPartitionStart (k : Nat) (s : State) : Host.Outcome State Fault Refusal :=
  .next (s.on (Device.when (isPart k) (Device.opPartStart k)))

end Sys2Proof.Machine
end

