-- ==== Sys2Proof/Machine/Boot.lean ====
section
/-! DEFINITION. Reset and boot: the always-on rail, RESET_N, device reset and release (R351, R364, R456), the starting gun
(R231), sag and thermal trip with the crash record (R363 to R366), the boot ROM (R390 to R394). -/

namespace Sys2Proof.Machine

/-! ### Device reset (R351, R234, R384) -/

/-- What outlives a device reset: region A's time, fault store, DSEQ history and flash, the fuses, and the model's own
counters. The nonces are renewed (R387, R399; DESIGN CHOICE, log entry 8). -/
def Device.afterReset (d : Device) : Device :=
  let (a, d) := d.draw
  let (b, d) := d.draw
  { Device.reset with
    clk := { now := d.clk.now, gun := .inReset }
    tk := { d.tk with refLoss := false, valid := true, exchs := [] }
    fuses := d.fuses
    sec := { bootCount := d.sec.bootCount, nextKey := d.sec.nextKey, keys := d.sec.keys,
             drbg := { seeds := d.sec.drbg.seeds }, lcNonce := BitVec.ofNat 128 a,
             dbgNonce := BitVec.ofNat 128 b, straps := d.sec.straps }
    mb := { lastDseq := d.mb.lastDseq }
    flt := { seq := d.flt.seq, onDie := d.flt.onDie, journal0 := d.flt.journal0, journal1 := d.flt.journal1,
             crash := d.flt.crash, crashNext := d.flt.crashNext, inReset := true }
    st := { results := d.st.results, nextEntry := d.st.nextEntry }
    thr := { flowMax := d.thr.flowMax }
    out := d.out
    freeCtr := d.freeCtr }

/-- A crash record that is being programmed when power goes is not whole (R363). -/
def Device.dropCrash (d : Device) : Device :=
  match d.flt.crashBusy with
  | none => d
  | some _ => d.updFlt fun f =>
      { f with crash := Map.set {} f.crash f.crashNext {}, crashNext := (f.crashNext + 1) % 64, crashBusy := none }.eraseNext

/-- A device reset; while a crash record is being programmed it takes effect when programming ends (R456). -/
def Device.opDeviceReset (d : Device) : Device :=
  if d.flt.crashBusy.isSome then d.updFlt fun f => { f with resetDeferred := true } else d.afterReset

def execDeviceReset (s : State) : Host.Outcome State Fault Refusal := .next (s.on Device.opDeviceReset)

/-- Loss of the always-on rail: TIME, the on-die fault store, the DSEQ history and the record numbers are lost too (R364,
R366). -/
def Device.powerLost (d : Device) : Device :=
  let d := d.dropCrash.afterReset
  { d with tk := {}, flt := { d.flt with seq := 0, onDie := [] }, mb := {}, thr := {}, st := {} }

/-- The always-on rail rises (R234): TIME counts from 0, and the device is held in reset. -/
def execAonPowerUp (s : State) : Host.Outcome State Fault Refusal := .next (s.on Device.powerLost)

/-- VDD_AON below its absolute minimum for 0.5 µs (R366). -/
def execAonRailLoss (s : State) : Host.Outcome State Fault Refusal := .next (s.on Device.powerLost)

/-- RESET_N low for `t` ns (R456): below 100 ns ignored, from 10 µs on a device reset; between them the spec leaves it open
(DESIGN CHOICE, log entry 25). A low level while a reset is in progress starts nothing new. -/
def Device.opResetN (t : Nat) (d : Device) : Device :=
  if t < 100 ∨ d.flt.inReset then d
  else if 10000 ≤ t then d.opDeviceReset
  else
    let (f, d) := d.draw
    if f % 2 = 0 then d else d.opDeviceReset

def execResetNLow (ns : Nat) (s : State) : Host.Outcome State Fault Refusal := .next (s.on (Device.opResetN ns))

/-- The device reset is released (R452, R456): the straps are sampled, and the sequencer programs every generator to P4. -/
def Device.opRelease (straps : Byte) (d : Device) : Device :=
  if d.flt.inReset then
    ((d.updFlt fun f => { f with inReset := false }).updSec fun s => { s with straps := straps }).updClk fun c =>
      { c with gun := .lockWait }
  else d

def execResetRelease (straps : Byte) (s : State) : Host.Outcome State Fault Refusal := .next (s.on (Device.opRelease straps))

/-! ### The starting gun (R231) -/

/-- The end of a 40 µs wait for generator lock: regions not locked are reprogrammed once, then FAILED and recorded. -/
def Device.opLockWait (locked : BitVec 31) (d : Device) : Device :=
  let d' := d.forAll allRegions fun g d => d.updRegion g fun r => { r with locked := r.locked || locked.getLsbD g }
  let bad := allRegions.filter fun g => !(d'.region g).locked
  match d.clk.gun with
  | .lockWait => d'.updClk fun c => { c with gun := if bad.isEmpty then .armed else .relock }
  | .relock =>
    (d'.forAll bad fun g d =>
      (d.updRegion g fun r => { r with failed := true }).raise { code := 0x0402, unit := 2336 + g, specific := leBytes 1 g }).updClk
      fun c => { c with gun := .armed }
  | _ => d

def execGeneratorLockWaitEnd (locked : BitVec 31) (s : State) : Host.Outcome State Fault Refusal :=
  .next (s.on (Device.opLockWait locked))

/-- Sixteen reference edges after ARM every region begins cycle 0 of lap 0: GUN_SPLIT takes TIME, every relay holds empty
entries of the cycles before, the boot is counted, and H0 and H1 begin to train (R260). -/
def Device.opGun (d : Device) : Device :=
  match d.clk.gun with
  | .armed =>
    let d := d.updClk fun c => { c with gun := .fired, lap := 0, lapCyc := 0, phase := 0, opCur := 4, relays := [] }
    let d := d.updTk fun t => { t with gunSplit := t.time }
    let d := d.forAll [24, 25] fun i d => d.updLink i fun l => { l with state := .detect, enteredAt := d.clk.now }
    if d.fuses.lc = 0 then d else d.updSec fun s => { s with bootCount := s.bootCount + 1 }
  | _ => d

def execStartingGun (s : State) : Host.Outcome State Fault Refusal := .next (s.on Device.opGun)

/-! ### Sag, trip and crash record (R363 to R366, R382) -/

/-- Begin to program the next crash slot; a journal update under way is abandoned (R363). -/
def Device.beginCrash (code : Nat) (rails : List Nat) (d : Device) : Device :=
  let seq := d.flt.seq.toNat
  let last := ([3, 2, 1].filterMap fun i =>
    if i ≤ seq then some (Map.get {} d.flt.onDie ((seq - i) % 256)) else none)
  let r : CrashRec := { valid := true, bootCount := d.sec.bootCount, split := d.split, code := code, rails := rails,
                        pcids := (partList.filter d.running).map d.pcid, last := last }
  d.updFlt fun f =>
    let f := if f.updating.isSome then f.spoil else f
    { f with crashBusy := some r }

/-- A sag warning (R365): SAG_WARN_N, a record, and one crash record per episode; further warnings of the episode only count
in the record's REPEAT. -/
def Device.opSagWarn (rail : Nat) (mv : List Nat) (d : Device) : Device :=
  let bit' : BitVec 3 := BitVec.ofNat 3 (2 ^ rail)
  let d := d.updFlt fun f => { f with sagPin := true, sagRails := f.sagRails ||| bit', smbAlert := true,
                                      sagAt := if f.sagPin then f.sagAt else d.clk.now }
  if d.flt.sagEpisode then d.repeatRecord d.flt.sagSeq
  else
    let seq := d.flt.seq
    let d := d.raise { code := 0x0501, unit := 2375, specific := leBytes 1 rail }
    (d.updFlt fun f => { f with sagEpisode := true, sagSeq := seq }).beginCrash 0x0501 mv

def execSagWarn (rail mvE mvW mvIo : Nat) (s : State) : Host.Outcome State Fault Refusal :=
  .next (s.on (Device.when (isRail rail) (Device.opSagWarn rail [mvE, mvW, mvIo])))

/-- SAG_WARN_N is released once no rail keeps the condition, after at least 1 µs (R365). -/
def Device.opSagRelease (rail : Nat) (d : Device) : Device :=
  if !d.since d.flt.sagAt (us 1) then d
  else d.updFlt fun f =>
    let r := f.sagRails &&& ~~~(BitVec.ofNat 3 (2 ^ rail))
    { f with sagRails := r, sagPin := r != 0, sagAt := if f.sagPin && r == 0 then d.clk.now else f.sagAt }

def execSagWarnNRelease (rail : Nat) (s : State) : Host.Outcome State Fault Refusal :=
  .next (s.on (Device.when (isRail rail) (Device.opSagRelease rail)))

/-- Every core rail has stayed above 96 % for 1 ms: the episode ends (R365). -/
def execSagEpisodeEnd (s : State) : Host.Outcome State Fault Refusal :=
  .next (s.on fun d => d.updFlt fun f => if f.sagPin || !d.since f.sagAt (ms 1) then f else { f with sagEpisode := false })

/-- Programming of the crash slot ends: the record is whole when the board held the rails (R363); a reset that waited
follows. -/
def Device.opCrashDone (held : Bool) (d : Device) : Device :=
  match d.flt.crashBusy with
  | none => d
  | some r =>
    let d := d.updFlt fun f => Faults.eraseNext
      { f with crash := Map.set {} f.crash f.crashNext (if held then r else {}), crashNext := (f.crashNext + 1) % 64, crashBusy := none }
    if d.flt.resetDeferred then d.afterReset else d

def execCrashRecordDone (railsHeld : Bool) (s : State) : Host.Outcome State Fault Refusal :=
  .next (s.on (Device.opCrashDone railsHeld))

/-- The reset threshold of a rail, or its absolute minimum (R366): the record, and a device reset at once. Table 14.2 numbers the
core rails alone: for VDDQ and VDDA_SD the record's rail is a free value (DESIGN CHOICE, log entry 57). -/
def Device.opSagReset (rail : Nat) (d : Device) : Device :=
  let (n, d) := if rail < 3 then (rail, d) else d.draw
  ((d.raise { code := 0x0502, unit := 2375, action := 4, specific := leBytes 1 n }).dropCrash).afterReset

def execSagReset (rail : Nat) (s : State) : Host.Outcome State Fault Refusal :=
  .next (s.on (Device.when (isSupply rail) (Device.opSagReset rail)))

/-- A junction at 115 °C (R382): the record, the crash record, and a device reset when that is programmed. The rail readings
are measured then: free values (DESIGN CHOICE, log entry 5). -/
def Device.opTrip (sensor : Nat) (d : Device) : Device :=
  let d := d.raise { code := 0x0503, unit := 2376, action := 4, specific := leBytes 1 sensor }
  let (a, d) := d.draw
  let (b, d) := d.draw
  let (c, d) := d.draw
  let d := if d.flt.crashBusy.isSome then d else d.beginCrash 0x0503 [a % 65536, b % 65536, c % 65536]
  d.updFlt fun f => { f with resetDeferred := true }

def execThermalTrip (sensor : Nat) (s : State) : Host.Outcome State Fault Refusal :=
  .next (s.on (Device.when (decide (sensor < 32)) (Device.opTrip sensor)))

/-- The marshal's watchdog was not serviced for 100 ms (Table 14.2): the record and a device reset. -/
def execMarshalWdt (s : State) : Host.Outcome State Fault Refusal :=
  .next (s.on fun d => (d.raise { code := 0x0601, unit := 2370, action := 4 }).opDeviceReset)

/-! ### The boot ROM (R390 to R393) -/

/-- FW_GO (R390), which the boot ROM takes after the starting gun (R231): verification begins; a repeat while it runs is counted, and running firmware is never replaced (R392). -/
def Device.opFwGo (d : Device) : Device :=
  if d.clk.gun ≠ .fired then d
  else if d.sec.bootStatus = 0x01 ∨ d.sec.bootStatus = 0x02 then d.countErr pgMailbox 0x0170
  else d.updSec fun s => { s with bootStatus := 0x01, verifying := true, fwLenGo := s.fwLen }

def execFwGo (s : State) : Host.Outcome State Fault Refusal := .next (s.on Device.opFwGo)

/-- Bytes of the staging area: the request table from its start. -/
def Device.staged (d : Device) (o n : Nat) : List Byte :=
  ((((List.range ((o + n + 31) / 32 - o / 32)).map fun i => leBytes 32 (d.req (o / 32 + i)).toNat).flatten).drop (o % 32)).take n

/-- A field of the firmware header. -/
def Device.fwField (d : Device) (o n : Nat) : Nat := leNat (d.staged o n)

/-- BODY_LEN of the staged image. -/
def Device.fwBodyLen (d : Device) : Nat := d.fwField 0x10 4

/-- Reserved bytes of the firmware header that shall be zero. -/
def Device.fwReserved (d : Device) : Bool :=
  d.fwField 0x0A 2 == 0 && d.fwField 0x0D 3 == 0 && d.fwField 0x18 8 == 0 && d.fwField 0x60 32 == 0 && d.fwField 0x1CB3 845 == 0 &&
  d.fwField 0x06 1 / 16 == 0 && d.fwField 0x07 1 / 4 == 0 && (let m := d.fwField 0x09 1; !bit m 0 && !bit m 5 && !bit m 6 && !bit m 7) &&
  decide (d.fwField 0x08 1 ≤ 64) && decide (d.fwField 0x0C 1 ≤ 3)

/-- The boot checks in the order of Table 16.5: the code of the first that fails, or none. -/
def Device.fwCheck (d : Device) : Option Nat :=
  let len := d.fwBodyLen
  let slot := d.fwField 0x0C 1
  let key := d.staged 0x80 2592
  let lc := d.fuses.lc
  if d.fwField 0 4 ≠ 0x4D574654 ∨ d.fwField 4 2 ≠ 1 ∨ !d.fwReserved ∨ len < 64 ∨ 8388608 < len ∨ len % 64 ≠ 0 ∨
      d.sec.fwLenGo.toNat ≠ 8192 + len then some 0x10
  else if lc = 0 ∨ lc = 5 ∨ !bit (d.fwField 9 1) lc then some 0x11
  else if d.fwField 6 1 % 16 ≠ 0 ∨ !bit (d.fwField 7 1) (b2n d.fuses.stepB0) then some 0x12
  else if sha3_512 key ≠ Map.get 0 d.fuses.vendorHash slot ∨ d.fuses.revoke.getLsbD slot then some 0x13
  else if !Config.mldsaVerify key (d.staged 0 0xAA0) (d.staged 0xAA0 4627) then some 0x14
  else if d.fwField 8 1 < d.fuses.fwSvn then some 0x15
  else if sha3_512 (d.staged 8192 len) ≠ BitVec.ofNat 512 (d.fwField 0x20 64) then some 0x16
  else none

/-- A failed boot check (R391): the ROM waits again, and the code stands until the next image begins to come (Table 16.5; DEDUCED,
log entry 58). -/
def Device.bootFail (code : Nat) (d : Device) : Device :=
  d.updSec fun s => { s with bootStatus := code, verifying := false, bootTries := satInc s.bootTries }

/-- Start the firmware (R391): measurement, identity key, device key, body, empty request table, RUNNING; the journal is read
(R360), and the I/O regions and fabric ports are ungated (R371). -/
def Device.bootRun (d : Device) : Device :=
  let meas := sha3_512 (d.staged 0 0xAA0)
  let svn := d.fwField 8 1
  let slot := d.fwField 0x0C 1
  let entry := d.fwField 0x14 4
  let units := d.fwBodyLen / 32
  let body := (d.starter.table.filter fun e => decide (256 ≤ e.1) && decide (e.1 < 256 + units)).map fun e => (e.1 - 256, e.2)
  let d := d.updSec fun s =>
    { s with bootStatus := 0x02, verifying := false, fwMeas := meas, fwSvn := svn, fwSlot := slot, fwEntry := BitVec.ofNat 32 entry,
             fwBody := body, devPub := d.fuses.idSeed.isSome }
  let (n, d) := d.makeKey
  let d := d.updSec fun s => { s with deviceKey := some n }
  let d := (d.updStarter fun s => { s with table := [], staged := [], queues := [] }).dropUpsets fun s => match s with
    | .reqtab _ _ => true
    | _ => false
  let d := (d.updFlt Faults.eraseNext).updMb fun m => { m with journalLost := !d.flt.journal0.valid && !d.flt.journal1.valid }
  d.beginStagger 8 [24, 25, 26, 27, 28, 29] .start

/-- The verification of a staged image ends (R390, R391); an entropy source that has not passed makes it wait (R393). -/
def Device.opVerifyDone (d : Device) : Device :=
  if d.clk.gun ≠ .fired ∨ d.sec.bootStatus ≠ 0x01 ∨ !d.sec.entropyOk then d
  else match d.fwCheck with
    | some c => d.bootFail c
    | none => d.bootRun

def execFirmwareVerifyDone (s : State) : Host.Outcome State Fault Refusal := .next (s.on Device.opVerifyDone)

/-- An entropy health test fails (R393): the ENT_FAIL event write, whose reading the spec does not give. -/
def Device.opEntFail (d : Device) : Device :=
  let (f, d) := d.draw
  (d.updSec fun s => { s with entropyOk := false }).event none pgSecurity 0x0A (f % 2 ^ 64)

def execEntFail (s : State) : Host.Outcome State Fault Refusal := .next (s.on Device.opEntFail)

end Sys2Proof.Machine
end

