-- ==== Sys2Proof/Machine/Security.lean ====
section
/-! DEFINITION. The security island: fuse requests and life-cycle transitions (R384 to R389, R394), tokens and the unlock
(R387, R398 to R400), keys that waited for entropy (R393), attestation (R395, R396), HOST_SCOPE (R397). -/

namespace Sys2Proof.Machine

/-! ### Fuses (R386) -/

/-- The fuses after a burn whose read-back fails: of the bits that were to be burnt, those that `x` names read burnt, and the other
fields are all old or all new. -/
def Fuses.partly (x : Nat) (old new : Fuses) : Fuses :=
  { (if x % 2 = 1 then new else old) with
    row := old.row ||| (new.row &&& BitVec.ofNat 32 (x / 2)),
    scrapPair := old.scrapPair ||| (new.scrapPair &&& BitVec.ofNat 2 (x / 2)),
    revoke := old.revoke ||| (new.revoke &&& BitVec.ofNat 4 (x / 2)),
    svnBits := old.svnBits ||| (new.svnBits &&& BitVec.ofNat 64 (x / 2)) }

/-- Burn fuses. After a read-back that fails the state read back stands (R386): which bits read burnt is a free value. -/
def Device.burn (ok : Bool) (f : Fuses → Fuses) (d : Device) : Device :=
  if ok then { d with fuses := f d.fuses }
  else
    let (x, d) := d.draw
    { d with fuses := d.fuses.partly x (f d.fuses) }

/-- One more step of the life-cycle row, the lowest that is not burnt, both of its bits (R385). -/
def Fuses.step (f : Fuses) : Fuses :=
  { f with row := f.row ||| BitVec.ofNat 32 (3 * 4 ^ ((List.range 16).find? fun i => !f.burnt i).getD 16) }

/-- The SCRAP pair (R385). -/
def Fuses.scrapped (f : Fuses) : Fuses := { f with scrapPair := 3 }

/-- The lowest `n` thermometer bits of FW_SVN (R394). -/
def Fuses.svn (n : Nat) (f : Fuses) : Fuses := { f with svnBits := f.svnBits ||| BitVec.ofNat 64 (2 ^ n - 1) }

/-- Settle an LC_REQ or SVN_REQ (R388, R394). -/
def Device.lcResult (code : Nat) (d : Device) : Device :=
  (d.updSec fun s => { s with lcResult := code, lcValid := true }).setIntBit pgSecurity 1

/-- Settle an LC_REQ; LC_NONCE is renewed after every one (R387). -/
def Device.lcSettle (code : Nat) (d : Device) : Device :=
  let (x, d) := d.draw
  (d.updSec fun s => { s with lcNonce := BitVec.ofNat 128 x }).lcResult code

/-! ### Tokens (R387, R389, R399, Table 16.8) -/

/-- A field of a token. -/
def tokenField (b : List Byte) (o n : Nat) : Nat := leNat ((b.drop o).take n)
/-- The public key of a token. -/
def tokenKey (b : List Byte) : List Byte := (b.drop 0x1253).take 2592

/-- A token is accepted: MAGIC and VERSION, key hash, SERIAL, NONCE and signature. Reserved bits are not looked at (R14). -/
def Device.tokenOk (magic : Nat) (nonce : BitVec 128) (hash : BitVec 512) (b : List Byte) (d : Device) : Bool :=
  decide (tokenField b 0 4 = magic) && decide (tokenField b 4 2 = 1) && decide (tokenField b 8 8 = d.fuses.serial.toNat) &&
  decide (tokenField b 0x10 16 = nonce.toNat) && decide (sha3_512 (tokenKey b) = hash) &&
  Config.mldsaVerify (tokenKey b) (b.take 64) ((b.drop 0x40).take 4627)

/-- A return or scrap token (R387): SCOPE is zero, the key is vendor slot 0's. -/
def Device.lcTokenOk (magic : Nat) (b : List Byte) (d : Device) : Bool :=
  d.tokenOk magic d.sec.lcNonce (Map.get 0 d.fuses.vendorHash 0) b && decide (tokenField b 6 2 = 0)

/-- The token at a local address, as the island reads it. -/
def Device.tokenAt (a : W64) (d : Device) : List Byte × Device := d.localRead (a.toNat % 2 ^ 48) 7283

/-! ### Teardown of everything (R388, R400) -/

/-- A partition holds an assignment. -/
def Part.assigned (p : Part) : Bool := p.regions != 0 || p.groups != 0

/-- A PART_ASSIGN that waits for a key or a zero fill ends BUSY, and what was made for it goes: a key of a partition that holds no
assignment yet, a wait for one (R388, Table 16.2; DESIGN CHOICE, log entry 58). -/
def Device.dropAssign (d : Device) : Device :=
  match d.mb.partPending with
  | some (k, rs, _) =>
    if rs = 0 then d
    else
      let d := (d.partSettle 1).updSec fun s => { s with keyWait := s.keyWait.filter (· != .partition k) }
      if (d.part k).assigned then d else d.updPart k fun p => { p with key := none }
  | none => d

/-- Tear down every partition (R319). -/
def Device.tearAll (d : Device) : Device :=
  d.dropAssign.forAll partList fun k d => if (d.part k).assigned && !(d.part k).run.teardown then d.beginTeardown k else d

/-- The last partition has been released. -/
def Device.allReleased (d : Device) : Bool :=
  partList.all fun k => !(d.part k).assigned && !(d.part k).run.teardown && !(d.part k).run.teardownWait

/-- What waited for the teardown goes on (R386, R388, R398, R400). -/
def Device.lcFinish (d : Device) : Device :=
  if !d.allReleased then d
  else
    let ok := d.sec.lcFuseOk
    let code := if ok then 0 else 5
    let idle (d : Device) : Device := d.updSec fun s => { s with lcWait := none }
    match d.sec.lcWait with
    | none => d
    | some .returned => ((idle d).burn ok Fuses.step).lcSettle code
    | some .scrapped =>
      let d := ((idle d).burn ok Fuses.scrapped).lcSettle code
      if d.fuses.scrap then d.opDeviceReset else d
    | some .jtag =>
      let d := (idle d).burn ok Fuses.scrapped
      if d.fuses.scrap then d.opDeviceReset else d
    | some (.unlock sc) =>
      let (x, d) := (idle d).draw
      (d.updSec fun s =>
        { s with deviceKey := none, debug := true, scope := s.scope ||| sc, unlocked := true, granted := s.granted ||| sc, dbgResult := 0, dbgValid := true,
                 dbgNonce := BitVec.ofNat 128 x }).setIntBit pgSecurity 3

/-- Start what needs every partition released; with none assigned it goes on at once. -/
def Device.lcTear (w : LcWait) (d : Device) : Device :=
  ((d.updSec fun s => { s with lcWait := some w }).tearAll).lcFinish

/-- The partition's transactions have drained (R319); an unlock that waited for the last partition is completed. -/
def Device.opDrainDone (k : Nat) (d : Device) : Device :=
  let d := d.opTeardownDrain k
  match d.sec.lcWait with
  | some (.unlock _) => d.lcFinish
  | some .jtag => d.lcFinish
  | _ => d

def execTeardownDrainDone (k : Nat) (s : State) : Host.Outcome State Fault Refusal :=
  .next (s.on (Device.when (isPart k) (Device.opDrainDone k)))

/-- A transition that waits settles once the last partition has been released (R388). -/
def execLcReqSettle (s : State) : Host.Outcome State Fault Refusal := .next (s.on Device.lcFinish)

/-! ### LC_REQ (R386, R388) -/

/-- Another LC_REQ, an unlock, a verification or a fuse operation is in progress (R388). -/
def Device.lcBusy (d : Device) : Bool :=
  d.sec.lcWait.isSome || d.sec.bootStatus == 1 || d.sec.keyWait.any fun w => match w with
    | .seed _ _ => true
    | _ => false

/-- An LC_REQ write: BUSY, or the transition that `f` makes from the present state. -/
def Device.lcReq (fuseOk : Bool) (f : Device → Device) (d : Device) : Device :=
  if d.lcBusy then d.lcSettle 3
  else f (d.updSec fun s => { s with lcValid := false, lcFuseOk := fuseOk })

/-- ID_SEED is generated and burnt with the two key hashes (R386, R391). -/
def Device.provision (drill debug : BitVec 512) (d : Device) : Device :=
  let (x, d) := d.random 32
  let ok := d.sec.lcFuseOk
  (d.burn ok fun f =>
    { f.step with idSeed := some (BitVec.ofNat 256 x), drillHash := drill, debugHash := debug }).lcSettle (if ok then 0 else 5)

/-- LC_REQ to PROVISIONED; without entropy the seed waits (R393). -/
def Device.opLcProvisioned (drill debug : BitVec 512) (fuseOk : Bool) (d : Device) : Device :=
  d.lcReq fuseOk fun d =>
    if d.fuses.lc ≠ 1 then d.lcSettle 2
    else if d.sec.entropyOk then d.provision drill debug
    else d.updSec fun s => { s with keyWait := s.keyWait ++ [.seed drill debug] }

def execLcReqProvisioned (drill debug : BitVec 512) (fuseOk : Bool) (s : State) : Host.Outcome State Fault Refusal :=
  .next (s.on (Device.opLcProvisioned drill debug fuseOk))

/-- LC_REQ to DEPLOYED: debug is locked at once; EXHAUSTED when step 9 would be burnt (R385). -/
def Device.opLcDeployed (fuseOk : Bool) (d : Device) : Device :=
  d.lcReq fuseOk fun d =>
    if d.fuses.lc ≠ 2 ∧ d.fuses.lc ≠ 4 then d.lcSettle 2
    else if 8 ≤ d.fuses.steps then d.lcSettle 4
    else
      let d := d.burn fuseOk Fuses.step
      let d := if d.fuses.lc = 3 then d.updSec fun s => { s with debug := false, scope := 0 } else d
      d.lcSettle (if fuseOk then 0 else 5)

def execLcReqDeployed (fuseOk : Bool) (s : State) : Host.Outcome State Fault Refusal :=
  .next (s.on (Device.opLcDeployed fuseOk))

/-- LC_REQ to RETURNED with a return token. -/
def Device.opLcReturned (fuseOk : Bool) (d : Device) : Device :=
  d.lcReq fuseOk fun d =>
    if d.fuses.lc ≠ 3 then d.lcSettle 2
    else
      let (b, d) := d.tokenAt d.sec.lcToken
      if d.lcTokenOk 0x54524E52 b then d.lcTear .returned else d.lcSettle 1

def execLcReqReturned (fuseOk : Bool) (s : State) : Host.Outcome State Fault Refusal :=
  .next (s.on (Device.opLcReturned fuseOk))

/-- LC_REQ to SCRAPPED, with a scrap token in DEPLOYED. -/
def Device.opLcScrapped (fuseOk : Bool) (d : Device) : Device :=
  d.lcReq fuseOk fun d =>
    if d.fuses.lc = 5 then d.lcSettle 2
    else if d.fuses.lc = 3 then
      let (b, d) := d.tokenAt d.sec.lcToken
      if d.lcTokenOk 0x50415253 b then d.lcTear .scrapped else d.lcSettle 1
    else d.lcTear .scrapped

def execLcReqScrapped (fuseOk : Bool) (s : State) : Host.Outcome State Fault Refusal :=
  .next (s.on (Device.opLcScrapped fuseOk))

/-- LC_REQ to MANUFACTURE is in no row that goes through LC_REQ (Table 16.2). -/
def Device.opLcManufacture (d : Device) : Device := d.lcReq true (Device.lcSettle 2)

/-- LC_REQ target 7: a revocation token names slot j in SCOPE [3:0] and the signing slot k in [5:4] (R389). -/
def Device.opLcRevoke (fuseOk : Bool) (d : Device) : Device :=
  d.lcReq fuseOk fun d =>
    let (b, d) := d.tokenAt d.sec.lcToken
    let j := tokenField b 6 2 % 16
    let k := tokenField b 6 2 / 16 % 4
    if d.fuses.lc = 5 then d.lcSettle 2
    else if k = j ∨ d.fuses.revoke.getLsbD k ∨ !d.tokenOk 0x564B4552 d.sec.lcNonce (Map.get 0 d.fuses.vendorHash k) b then d.lcSettle 1
    else if j = 0 ∨ 4 ≤ j then d.lcSettle 2
    else
      (d.burn fuseOk fun f => { f with revoke := f.revoke ||| BitVec.ofNat 4 (2 ^ j) }).lcSettle (if fuseOk then 0 else 5)

def execLcReqRevoke (fuseOk : Bool) (s : State) : Host.Outcome State Fault Refusal :=
  .next (s.on (Device.opLcRevoke fuseOk))

/-- SVN_REQ (R394): the lowest `n` thermometer bits; the result stands in LC_RESULT. -/
def Device.opSvn (n : Nat) (fuseOk : Bool) (d : Device) : Device :=
  if d.lcBusy then d.lcResult 3
  else
    let d := d.updSec fun s => { s with lcValid := false }
    if d.sec.bootStatus ≠ 2 ∨ d.sec.fwSvn < n then d.lcResult 2
    else if n ≤ d.fuses.fwSvn then d.lcResult 0
    else (d.burn fuseOk (Fuses.svn n)).lcResult (if fuseOk then 0 else 5)

def execSvnReq (n : Nat) (fuseOk : Bool) (s : State) : Host.Outcome State Fault Refusal := .next (s.on (Device.opSvn n fuseOk))

/-! ### JTAG (R386, R398) -/

/-- The instruction groups of Table 16.7. -/
inductive JtagGroup where
  | identify | boundary | registers | debugger | scanDump | scrap
  deriving DecidableEq, Repr

/-- A life-cycle state permits a group (Table 16.7): everything but in DEPLOYED, where the SCOPE of an unlock decides, and in SCRAPPED. -/
def Device.jtagScope (bit' : Nat) (d : Device) : Bool :=
  d.fuses.lc != 5 && (d.fuses.lc != 3 || (d.sec.debug && d.sec.scope.getLsbD bit'))

/-- The groups that JTAG may use now (R398, Table 16.7). -/
def Device.jtagPermits (d : Device) : JtagGroup → Bool
  | .identify => true
  | .boundary => d.flt.inReset && d.jtagScope 3
  | .registers => d.jtagScope 0
  | .debugger => d.jtagScope 1
  | .scanDump => d.jtagScope 2
  | .scrap => d.fuses.lc != 5 && (d.fuses.lc != 3 || d.sec.jtagToken)

/-- DBG_NONCE as JTAG reads it at IDCODE level, in every state (R399). -/
def Device.jtagNonce (d : Device) : Option (BitVec 128) := if d.jtagPermits .identify then some d.sec.dbgNonce else none

/-- The fuse instruction, which acts only in BLANK. -/
def Device.opManufacture (f : MfgFuses) (fuseOk : Bool) (d : Device) : Device :=
  if d.fuses.lc = 0 then
    d.burn fuseOk fun x =>
      { x.step with
        serial := f.serial, grade176 := f.grade176, tileFuses := f.tileFuses,
        vendorHash := ((List.range 4).zip f.vendorHash).foldl (fun m e => Map.set 0 m e.1 e.2) [] }
  else d

def execJtagFuseManufacture (f : MfgFuses) (fuseOk : Bool) (s : State) : Host.Outcome State Fault Refusal :=
  .next (s.on (Device.opManufacture f fuseOk))

/-- The SCRAP instruction: in DEPLOYED only once a valid scrap token has been shifted into TOKEN since the last reset. -/
def Device.opJtagScrap (token : List Byte) (fuseOk : Bool) (d : Device) : Device :=
  let d := if d.lcTokenOk 0x50415253 token then d.updSec fun s => { s with jtagToken := true } else d
  if !d.jtagPermits .scrap ∨ d.sec.lcWait.isSome then d
  else (d.updSec fun s => { s with lcFuseOk := fuseOk }).lcTear .jtag

def execJtagScrap (token : List Byte) (fuseOk : Bool) (s : State) : Host.Outcome State Fault Refusal :=
  .next (s.on (Device.opJtagScrap token fuseOk))

/-! ### Unlock (R399, R400) -/

/-- Settle an unlock presentation; DBG_NONCE is renewed after every one. -/
def Device.dbgSettle (code : Nat) (d : Device) : Device :=
  let (x, d) := d.draw
  (d.updSec fun s => { s with dbgResult := code, dbgValid := true, dbgNonce := BitVec.ofNat 128 x }).setIntBit pgSecurity 3

/-- A token that is not accepted counts in ERR_CNT; the spec gives no code for it: a free value. -/
def Device.dbgRefuse (code : Nat) (d : Device) : Device :=
  let (x, d) := d.draw
  (d.countErr pgSecurity (x % 65536)).dbgSettle code

/-- An unlock token, from TOKEN or from the address that DBG_TOKEN_ADDR names. -/
def Device.opUnlock (viaJtag : Option (List Byte)) (hi : W32) (d : Device) : Device :=
  let (b, d) := match viaJtag with
    | some b => (b, d)
    | none =>
      let a := BitVec.ofNat 64 (d.sec.dbgToken.toNat % 2 ^ 32 + hi.toNat * 2 ^ 32)
      (d.updSec fun s => { s with dbgToken := a, dbgValid := false }).tokenAt a
  let sc := BitVec.ofNat 4 (tokenField b 6 2)
  -- SCRAPPED leaves JTAG no TOKEN register (Table 16.1)
  if viaJtag.isSome ∧ d.fuses.lc = 5 then d
  else if d.lcBusy then d.dbgRefuse 2
  else if !d.tokenOk 0x4B4C4255 d.sec.dbgNonce d.fuses.debugHash b then d.dbgRefuse 1
  else if d.fuses.lc ≠ 3 then d.dbgSettle 0
  else if d.sec.debug then (d.updSec fun s => { s with scope := s.scope ||| sc, granted := s.granted ||| sc }).dbgSettle 0
  else d.lcTear (.unlock sc)

def execDbgTokenPresent (viaJtag : Option (List Byte)) (hi : W32) (s : State) : Host.Outcome State Fault Refusal :=
  .next (s.on (Device.opUnlock viaJtag hi))

/-! ### Entropy (R393) -/

/-- Serve a key request that waited. -/
def Device.serveKey (w : KeyWait) (d : Device) : Device :=
  match w with
  | .partition k => if (d.part k).key.isSome then d else d.newKey k
  | .device => let (n, d) := d.makeKey; d.updSec fun s => { s with deviceKey := some n }
  | .seed drill debug => d.provision drill debug

/-- The health tests pass again: the key requests that waited are served in order. -/
def Device.opEntropyPass (d : Device) : Device :=
  let ws := d.sec.keyWait
  ws.foldl (fun d w => d.serveKey w) (d.updSec fun s => { s with entropyOk := true, keyWait := [] })

def execEntropyHealthPass (s : State) : Host.Outcome State Fault Refusal := .next (s.on Device.opEntropyPass)

/-! ### Attestation (R395, R396) -/

/-- ATT_GO: a queue of 4, a fifth request is refused with BUSY. -/
def Device.opAttGo (d : Device) : Device :=
  if 4 ≤ d.sec.attQueue.length then
    (d.updSec fun s => { s with attResult := 1, attValid := true }).setIntBit pgSecurity 2
  else d.updSec fun s =>
    { s with attValid := false,
             attQueue := s.attQueue ++ [{ nonce := s.attNonce, dest := s.attDest, part := s.attPart, epoch := s.attEpoch }] }

def execAttGo (s : State) : Host.Outcome State Fault Refusal := .next (s.on Device.opAttGo)

/-- PSTATE of Table 16.6. -/
def Part.pstate (p : Part) : Nat :=
  if !p.assigned then 0
  else match p.run.phase with
    | .none => 1
    | .loaded => 2 | .starting => 2
    | .running => 3
    | .completed => 4 | .aborted => 4

/-- A partition's part of the report (Table 16.6). -/
def Device.attPart (d : Device) (k : Nat) : List Byte :=
  let p := d.part k
  leBytes 2 (d.pcid k).toNat ++ leBytes 1 p.pstate ++ leBytes 1 (b2n (p.shadow.role == 2) + 2 * b2n p.run.heat) ++
    leBytes 2 p.epoch.toNat ++ leBytes 1 p.groups.toNat ++ leBytes 1 0 ++ leBytes 4 p.regions.toNat ++ leBytes 4 p.heatNo.toNat ++
    (match p.image with
     | some im => leBytes 8 im.redSig.toNat ++ leBytes 8 im.modelId.toNat ++ leBytes 64 im.measurement.toNat
     | none => leBytes 80 0) ++ leBytes 32 0

/-- The identity key's public key, in the states from PROVISIONED onward (R395). -/
def Device.devPubKey (d : Device) : Option (List Byte) := d.fuses.idSeed.map Config.mldsaPub

/-- Bytes 0x000 to 0x4EF of a report (Table 16.6). Without an identity key its fingerprint is not stated: `fp`. -/
def Device.attBody (q : AttReq) (fp : BitVec 512) (d : Device) : List Byte :=
  leBytes 4 0x54544147 ++ leBytes 2 1 ++ leBytes 1 0 ++ leBytes 1 (b2n d.fuses.stepB0 + 2 * b2n d.fuses.grade176) ++
    leBytes 8 d.fuses.serial.toNat ++ leBytes 64 q.nonce.toNat ++
    leBytes 8 (d.tk.time.toNat % 2 ^ 63 + 2 ^ 63 * b2n (!d.tk.valid)) ++ leBytes 1 d.fuses.lc ++
    leBytes 1 (b2n d.sec.unlocked + 2 * d.sec.granted.toNat) ++
    leBytes 1 (match d.mb.devMode with | none => 0 | some false => 1 | some true => 2) ++ leBytes 1 d.fuses.fwSvn ++
    leBytes 1 d.sec.fwSvn ++ leBytes 1 d.sec.fwSlot ++ leBytes 2 0 ++ leBytes 4 d.sec.bootCount.toNat ++ leBytes 12 0 ++
    leBytes 64 d.sec.fwMeas.toNat ++ leBytes 64 fp.toNat ++ (partList.map d.attPart).flatten

/-- The whole report: the signature stands over bytes 0x000 to 0x4EF. Before ID_SEED is burnt the spec gives no key: free. -/
def Device.attReport (q : AttReq) (d : Device) : List Byte × Device :=
  match d.fuses.idSeed with
  | some seed =>
    let body := d.attBody q (sha3_512 (Config.mldsaPub seed))
    (body ++ fitBytes 4627 (Config.mldsaSign seed body), d)
  | none =>
    let (x, d) := d.draw
    let (y, d) := d.draw
    (d.attBody q (BitVec.ofNat 512 x) ++ leBytes 4627 y, d)

/-- The last PUT of a report, as it is known until it has been handed over. -/
def attLast (q : AttReq) (epoch : W16) (cc : Nat) (bs : List Byte) : XUnit :=
  { kind := .put, dstPart := q.part, dstId := BitVec.ofNat 16 ((q.dest + 4096).toNat / 2 ^ 48), dstEpoch := q.epoch,
    addr := (q.dest + 4096).toNat % 2 ^ 48, srcEpoch := epoch, len := (bs.drop 4096).length, dstCc := cc, payload := bs.drop 4096 }

/-- The marshal serves the oldest request between two load-gate requests: snapshot, signature, PUTs of at most 4 KiB. The result follows
the hand-over of the last of them to a link layer; a report to this device itself needs no link. The spec names no DST_CC for them: a
free value. -/
def Device.opAttest (d : Device) : Device :=
  if d.sec.bootStatus ≠ 2 ∨ d.mb.placing.isSome then d
  else match d.sec.attQueue with
    | [] => d
    | q :: rest =>
      let (bs, d) := (d.updSec fun s => { s with attQueue := rest }).attReport q
      let (c, d) := d.draw
      let here := d.tr.myId != 0xFFFF && (q.dest + 4096).toNat / 2 ^ 48 == d.tr.myId.toNat
      let d := if here then d else d.updSec fun s => { s with attOut := s.attOut ++ [attLast q (d.part 0).epoch (c % 64) bs] }
      let d := d.sendPut 0 q.dest q.part q.epoch (c % 64) (bs.take 4096)
      let d := d.sendPut 0 (q.dest + 4096) q.part q.epoch (c % 64) (bs.drop 4096)
      if here then d.attSettle else d

def execAttestSnapshot (s : State) : Host.Outcome State Fault Refusal := .next (s.on Device.opAttest)

/-! ### HOST_SCOPE (R397) -/

/-- One scope of HOST_SCOPE. -/
def Security.setScope (h : Nat) (v : BitVec 9) (s : Security) : Security :=
  if h = 24 then { s with scopeH0 := v } else { s with scopeH1 := v }

/-- A write of HOST_SCOPE: only by a unit that carries DEVICE; any other is denied and changes nothing. Once both ports lack DEVICE no unit
carries it. -/
def Device.scopeWrite (device : Bool) (vs : List (Nat × BitVec 9)) (d : Device) : Device :=
  if device && (d.sec.scopeH0.getLsbD 8 || d.sec.scopeH1.getLsbD 8) then
    d.updSec fun s => vs.foldl (fun s x => s.setScope x.1 x.2) s
  else d

def Device.opHostScope (h : Nat) (v : BitVec 9) (device : Bool) (d : Device) : Device := d.scopeWrite device [(h, v)]

def execHostScopeWrite (h : Nat) (v : BitVec 9) (device : Bool) (s : State) : Host.Outcome State Fault Refusal :=
  .next (s.on (Device.when (h == 24 || h == 25) (Device.opHostScope h v device)))

end Sys2Proof.Machine
end

