-- ==== Sys2Proof/Machine/SelfTest.lean ====
section
/-! DEFINITION. The self-test engine (chapter 17): authorisations (R402), requests (R411), what a test may be run on (R406,
R407), its conditions (R403), its end (R408, R410) and its record (R412). -/

namespace Sys2Proof.Machine

/-! ### Authorisation (R402) -/

/-- The result of a presented self-test authorisation. -/
def Device.stCheck (b : List Byte) (d : Device) : Nat :=
  if tokenField b 0 4 ≠ 0x54534553 ∨ tokenField b 4 2 ≠ 1 ∨ sha3_512 (tokenKey b) ≠ d.fuses.drillHash ∨
      Config.mldsaVerify (tokenKey b) (b.take 64) ((b.drop 0x40).take 4627) = false then 1
  else if tokenField b 8 8 ≠ d.fuses.serial.toNat then 2
  else if d.sec.bootCount.toNat < tokenField b 0x10 4 ∨ tokenField b 0x14 4 < d.sec.bootCount.toNat then 3
  else if d.fuses.lc ≠ 3 then 4
  else 0

/-- A write of ST_TOKEN_ADDR HI presents the authorisation at that address. -/
def Device.opStToken (hi : W32) (d : Device) : Device :=
  let a := BitVec.ofNat 64 (d.st.tokenAddr.toNat % 2 ^ 32 + hi.toNat * 2 ^ 32)
  let (b, d) := (d.updSt fun t => { t with tokenAddr := a }).tokenAt a
  let r := d.stCheck b
  d.updSt fun t =>
    { t with tokenResult := r, tokenValid := true,
             auth := if r = 0 then some (tokenField b 6 2) else t.auth,
             runsLeft := if r = 0 then BitVec.ofNat 32 (tokenField b 0x18 4) else t.runsLeft }

def execStTokenPresent (hi : W32) (s : State) : Host.Outcome State Fault Refusal := .next (s.on (Device.opStToken hi))

/-! ### Requests and records (R411, R412) -/

/-- FLAGS of a record: the conditions that failed (Table 17.5). -/
def condFlags (c : StCond) : Nat := 2 * b2n (!c.vddOk) + 4 * b2n (!c.refOk) + 8 * b2n (!c.tempOk)

/-- Settle a request with its record: the next of 64 entries, INT_RAW[1] and an event write. -/
def Device.stSettle (r : StReq) (result flags : Nat) (o : StOutcome) (d : Device) : Device :=
  let x : StRecord := { split := d.split, reqId := r.id, test := r.test, result := result, target := r.target,
                        duration := o.durationUs, coverage := o.coverage, lc := d.fuses.lc, flags := BitVec.ofNat 8 flags,
                        fails := o.fails, first := o.first, measure := fitBytes 28 o.measure }
  let d := d.updSt fun t => { t with results := Map.set {} t.results t.nextEntry x, nextEntry := (t.nextEntry + 1) % 64 }
  (d.setIntBit pgSelftest 1).event none pgSelftest 6 r.id.toNat

/-- A record of a request that was refused: nothing ran. -/
def Device.stRefuse (r : StReq) (result flags : Nat) (d : Device) : Device :=
  d.stSettle r result flags { pass := false, durationUs := 0, coverage := 0 }

/-- A field row of Table 17.3. -/
def fieldTest (j : Nat) : Bool := j != 0 && j != 4

/-- The state permits the test (R401, R411). -/
def Device.stState (d : Device) (j : Nat) : Bool :=
  match d.fuses.lc with
  | 1 => true
  | 4 => true
  | 3 => fieldTest j && (match d.st.auth with | some m => bit m j | none => false) && d.st.runsLeft != 0
  | _ => false

/-- Port and lane mask of an SD_NEAR target. -/
def stPort (tg : Nat) : Nat := tg % 256
def stLanes (tg : Nat) : BitVec 5 := BitVec.ofNat 5 (tg / 256)

/-- A target that the test has (Table 17.3). -/
def stTarget (j tg : Nat) : Bool :=
  match j with
  | 0 => decide (tg < 31) | 10 => decide (tg < 31) | 11 => decide (tg < 31)
  | 1 => decide (tg < 208) | 2 => decide (tg < 208)
  | 3 => decide (tg < 24) | 8 => decide (tg < 24) | 9 => decide (tg < 24)
  | 5 => isPort tg | 7 => isPort tg
  | 6 => isPort (stPort tg) && decide (tg < 2 ^ 13)
  | _ => true

/-- ST_GO: a new REQ_ID, and a place in the queue of 8. -/
def Device.opStGo (d : Device) : Device :=
  let r : StReq := { id := d.st.lastReq + 1, test := d.st.test, target := d.st.target }
  let d := d.updSt fun t => { t with lastReq := r.id }
  if 8 ≤ d.st.queue.length then d.stRefuse r 0x13 0
  else if !d.stState r.test then d.stRefuse r 0x12 0
  else if !stTarget r.test r.target.toNat then d.stRefuse r 0x14 0
  else d.updSt fun t => { t with queue := t.queue ++ [r] }

def execStGo (s : State) : Host.Outcome State Fault Refusal := .next (s.on Device.opStGo)

/-! ### What may be tested now (R406, R407) -/

/-- A withdrawable tile: an unsubstituted spare, or a tile of a region in no partition that none has been lent. -/
def Device.stTileFree (d : Device) (t : Nat) : Bool :=
  (!activePosition d.fuses.grade176 t && !(d.tile t).substituted) || ((d.regionPart (tileRegion t)).isNone && (d.tile t).owner == 0)

/-- A withdrawable BME or channel. -/
def Device.stChanFree (d : Device) (c : Nat) : Bool :=
  match d.chanPart c with
  | none => true
  | some k => d.pacersIdle k && !d.loading k

/-- A withdrawable port, or lanes of an ACTIVE port that are not in service. -/
def Device.stPortFree (d : Device) (i : Nat) (lanes : Option (BitVec 5)) : Bool :=
  let l := (d.port i).link
  l.state == .disabled ||
  match lanes with
  | some m => l.state == .active && (List.range 5).all fun x => !m.getLsbD x || (!l.txMap.contains x && !l.rxMap.contains x)
  | none => false

/-- The device runs nothing and no partition is assigned (R407). -/
def Device.stBare (d : Device) : Bool :=
  partList.all (fun k => !(d.part k).assigned) &&
    d.pacers.all fun p => !p.2.state.active && p.2.state != .loaded

/-- A lockstep partition runs a plan (R406). -/
def Device.lockstepRunning (d : Device) : Bool := d.lockstep && !d.quiet

/-- A request may start when it is at the head of the queue (R406, R407). -/
def Device.stFree (d : Device) (j tg : Nat) : Bool :=
  match j with
  | 0 => d.stBare | 4 => d.stBare
  | 1 => d.stTileFree tg | 2 => d.stTileFree tg
  | 3 => d.stChanFree tg | 8 => d.stChanFree tg | 9 => d.stChanFree tg
  | 5 => d.stPortFree tg none | 7 => d.stPortFree tg none
  | 6 => d.stPortFree (stPort tg) (some (stLanes tg))
  | 10 => !d.clk.opPend
  | 11 => (d.regionPart tg).isNone && !d.lockstepRunning
  | _ => true

/-- The generators that a test clocks (R404: cycle counts are in the tested unit's region clock). The request table's is S0's (DEDUCED,
log entry 60). -/
def stClocks (j tg : Nat) : List Nat :=
  match j with
  | 0 => [tg] | 10 => [tg] | 11 => [tg]
  | 1 => [tileRegion tg] | 2 => [tileRegion tg]
  | 3 => [chanRegion tg] | 8 => [chanRegion tg] | 9 => [chanRegion tg]
  | 4 => [30]
  | 5 => [portRegion tg] | 7 => [portRegion tg]
  | 6 => [portRegion (stPort tg)]
  | _ => []

/-- Every junction sensor reads from 10 °C to 95 °C, as far as they have been sampled (R403). -/
def Thermal.testable (t : Thermal) : Bool :=
  t.sampledAt.isNone || (List.range 32).all fun g => decide (100 ≤ Map.get 0 t.sensors g) && decide (Map.get 0 t.sensors g ≤ 950)

/-- Conditions of R403 as the engine finds them for test `j` of target `tg`: a core rail in a sag, which is more than 2 % below its
setpoint (R365), a lost reference, a generator that is not locked, and a sensor out of range fail them too. -/
def Device.stCond (j tg : Nat) (c : StCond) (d : Device) : StCond :=
  { c with vddOk := c.vddOk && d.flt.sagRails == 0,
           refOk := c.refOk && !d.tk.refLoss && (stClocks j tg).all fun g => (d.region g).locked && !(d.region g).failed,
           tempOk := c.tempOk && d.thr.testable }
def condOk (c : StCond) : Bool := c.vddOk && c.refOk && c.tempOk

/-- The request at the head of the queue is for test `j`: it starts, or is refused. -/
def Device.stBegin (j : Nat) (c : StCond) (d : Device) : Device :=
  match d.st.running, d.st.queue with
  | none, r :: rest =>
    if r.test ≠ j then d
    else
      let d := d.updSt fun t => { t with queue := rest }
      let c := d.stCond j r.target.toNat c
      if !d.stState j then d.stRefuse r 0x12 0
      else if !d.stFree j r.target.toNat then d.stRefuse r 0x10 0
      else if !(condOk c) then d.stRefuse r 0x11 (condFlags c)
      else d.updSt fun t =>
        { t with running := some r, checkedAt := d.clk.now, runsLeft := if d.fuses.lc = 3 then t.runsLeft - 1 else t.runsLeft }
  | _, _ => d

def execLscanRegion (cond : StCond) (s : State) : Host.Outcome State Fault Refusal := .next (s.on (Device.stBegin 0 cond))
def execLscanTile (cond : StCond) (s : State) : Host.Outcome State Fault Refusal := .next (s.on (Device.stBegin 1 cond))
def execTileMem (cond : StCond) (s : State) : Host.Outcome State Fault Refusal := .next (s.on (Device.stBegin 2 cond))
def execBmeMem (cond : StCond) (s : State) : Host.Outcome State Fault Refusal := .next (s.on (Device.stBegin 3 cond))
def execReqtabMem (cond : StCond) (s : State) : Host.Outcome State Fault Refusal := .next (s.on (Device.stBegin 4 cond))
def execPortMem (cond : StCond) (s : State) : Host.Outcome State Fault Refusal := .next (s.on (Device.stBegin 5 cond))
def execSdNear (cond : StCond) (s : State) : Host.Outcome State Fault Refusal := .next (s.on (Device.stBegin 6 cond))
def execSdFar (cond : StCond) (s : State) : Host.Outcome State Fault Refusal := .next (s.on (Device.stBegin 7 cond))
def execDdrLoop (cond : StCond) (s : State) : Host.Outcome State Fault Refusal := .next (s.on (Device.stBegin 8 cond))
def execDdrMargin (cond : StCond) (s : State) : Host.Outcome State Fault Refusal := .next (s.on (Device.stBegin 9 cond))
def execGenLock (cond : StCond) (s : State) : Host.Outcome State Fault Refusal := .next (s.on (Device.stBegin 10 cond))
def execDroopCal (cond : StCond) (s : State) : Host.Outcome State Fault Refusal := .next (s.on (Device.stBegin 11 cond))
def execTempXchk (cond : StCond) (s : State) : Host.Outcome State Fault Refusal := .next (s.on (Device.stBegin 12 cond))
def execAdcRef (cond : StCond) (s : State) : Host.Outcome State Fault Refusal := .next (s.on (Device.stBegin 13 cond))

/-! ### The end of a test (R403, R408, R410) -/

/-- How a test leaves its unit (R410): tiles in the state of R67, tested memories zeroed with valid check bits. -/
def Device.stLeave (r : StReq) (d : Device) : Device :=
  let tg := r.target.toNat
  match r.test with
  | 1 => d.tileReset tg
  | 2 => d.tileReset tg
  | 3 => (d.updBme tg fun x => { x with queries := [], triples := [], scores := [], lines := [], slots := [], scan := none, past := [] }).dropUpsets
      fun s => match s with
        | .bme c _ _ => c == tg
        | _ => false
  | 4 => (d.updStarter fun s => { s with table := [], staged := [], queues := [] }).dropUpsets fun s => match s with
      | .reqtab _ _ => true
      | _ => false
  | 5 => d.updPort tg fun p =>
      { p with planned := [], resent := [], egReq := [], egRsp := [], txReq := [], txRsp := [],
               windows := (p.windows.map fun w => (w.1, { owner := w.2.owner : Window })).filter fun w => w.2 != {},
               link := { p.link with replayBuf := [], pool := [] } }
  | _ => d

/-- Serve the requests that a test 0 or 4 held back (R407). -/
def Device.stRelease (d : Device) : Device :=
  let ws := d.st.waits
  ws.foldl (fun d w => match w with
    | .part => d.opPartGo
    | .load r => d.loadEnqueue r
    | .start k heat => d.start k heat) (d.updSt fun t => { t with waits := [] })

/-- End the running test with a result. -/
def Device.stEnd (result flags : Nat) (o : StOutcome) (d : Device) : Device :=
  match d.st.running with
  | none => d
  | some r => (((d.updSt fun t => { t with running := none }).stLeave r).stSettle r result flags o).stRelease

/-- A check of the conditions every 20 µs: a failure ends the test without a verdict. -/
def Device.opStCheck (c : StCond) (o : StOutcome) (d : Device) : Device :=
  match d.st.running with
  | none => d
  | some r =>
    if !d.since d.st.checkedAt (us 20) then d
    else
    let c := d.stCond r.test r.target.toNat c
    if condOk c then d.updSt fun t => { t with checkedAt := d.clk.now } else d.stEnd 2 (condFlags c) o

def execStConditionCheck (cond : StCond) (o : StOutcome) (s : State) : Host.Outcome State Fault Refusal :=
  .next (s.on (Device.opStCheck cond o))

/-- The device takes a withdrawable target back (R408). Tests 0 and 4 have none. -/
def Device.opStPreempt (o : StOutcome) (d : Device) : Device := if d.deepTest then d else d.stEnd 3 0 o

def execStPreempt (o : StOutcome) (s : State) : Host.Outcome State Fault Refusal := .next (s.on (Device.opStPreempt o))

/-- A field of MEASURE. -/
def stField (o : StOutcome) (at_ n : Nat) : Nat := leNat ((o.measure.drop at_).take n)

/-- What an outcome shows of the pass condition of a test (Tables 17.3 and 17.4): no failure, the coverage of a scan, the bit errors and eyes
of the lanes tested, the margins of a channel. MEASURE holds a lane's eye at 4 × its number and the six margins in 2 B each in the order of
the channel page (DEDUCED, log entry 60). -/
def stMeets (j tg : Nat) (o : StOutcome) : Bool :=
  let eyes (ls : List Nat) : Bool := decide (o.fails ≤ 10 * ls.length) && eyesOk (ls.map fun l => (stField o (4 * l) 2, stField o (4 * l + 2) 2))
  match j with
  | 0 => o.fails == 0 && decide (9500 ≤ o.coverage)
  | 1 => o.fails == 0 && decide (9500 ≤ o.coverage)
  | 6 => eyes ((List.range 5).filter fun l => (stLanes tg).getLsbD l)
  | 7 => eyes (List.range 5)
  | 9 => marginsOk { marginRd := BitVec.ofNat 32 (stField o 0 4), marginWr := BitVec.ofNat 32 (stField o 4 4), marginCa := BitVec.ofNat 32 (stField o 8 4) }
  | _ => o.fails == 0

/-- A test passes when its engine finds so and its outcome shows the condition met (R404). -/
def stVerdict (j tg : Nat) (o : StOutcome) : Bool := o.pass && stMeets j tg o

/-- A test ends with its verdict; a tile that fails in DEPLOYED is journalled, with a CODE that the spec does not name
(a free value); a spare lane that fails is unusable (R287). -/
def Device.opStEnd (o : StOutcome) (d : Device) : Device :=
  match d.st.running with
  | none => d
  | some r =>
    let pass := stVerdict r.test r.target.toNat o
    let j : Bool := !pass && d.fuses.lc == 3 && (r.test == 1 || r.test == 2)
    let lanes := ~~~(stLanes r.target.toNat)
    let spare : Bool := !pass && r.test == 6 && (d.port (stPort r.target.toNat)).link.state == .active
    let d := d.stEnd (b2n (!pass)) (b2n j) o
    let d := if spare then d.updLink (stPort r.target.toNat) fun l =>
        { l with rxUsable := l.rxUsable &&& lanes, txUsable := l.txUsable &&& lanes } else d
    if j then
      let (x, d) := d.draw
      d.tileFailed r.target.toNat (x % 65536) d.split
    else d

def execStTestEnd (o : StOutcome) (s : State) : Host.Outcome State Fault Refusal := .next (s.on (Device.opStEnd o))

end Sys2Proof.Machine
end

