-- ==== Sys2Proof/Machine/Sideband.lean ====
section
/-! DEFINITION. The SMBus sideband (R453, Table 20.6): served in every life-cycle state, before firmware and during a device
reset. A transaction with a bad PEC byte is ignored. -/

namespace Sys2Proof.Machine

/-- A 16-bit field that needs running firmware (R453). -/
def Device.fwWord (d : Device) (v : Int) : List Byte :=
  leBytes 2 (if d.sec.bootStatus = 2 then (v % 65536).toNat else 0xFFFF)

/-- STATUS. -/
def Device.sbStatus (d : Device) : List Byte :=
  leBytes 1 d.fuses.lc ++ leBytes 1 d.sec.bootStatus ++
    leBytes 1 (b2n d.tk.refLoss + 2 * b2n d.tk.valid + 4 * b2n d.flt.sagPin + 8 * b2n d.flt.inReset) ++ leBytes 1 0 ++
    d.fwWord d.thr.hotT ++ d.fwWord d.pwr.pkgPwr

def execSidebandStatus (pecOk : Bool) (s : State) : Host.Outcome State Fault Refusal :=
  .next (s.on (Device.when pecOk fun d => d.emit (.sideband d.sbStatus)))

def execSidebandSerial (pecOk : Bool) (s : State) : Host.Outcome State Fault Refusal :=
  .next (s.on (Device.when pecOk fun d => d.emit (.sideband (leBytes 6 d.fuses.serial.toNat))))

/-- A reading in tenths of a degree as whole degrees; the spec does not say how a fraction is rounded: `up` is free. -/
def wholeDegrees (t : Int) (up : Bool) : Int := if t % 10 = 0 ∨ !up then t / 10 else t / 10 + 1

/-- TEMPS: sensor g in byte g. -/
def Device.opTemps (d : Device) : Device :=
  let (x, d) := d.draw
  let one (g : Nat) : Byte :=
    if d.sec.bootStatus = 2 then BitVec.ofInt 8 (wholeDegrees (Map.get 0 d.thr.sensors g) (bit x g)) else 0xFF
  d.emit (.sideband ((List.range 32).map one))

def execSidebandTemps (pecOk : Bool) (s : State) : Host.Outcome State Fault Refusal :=
  .next (s.on (Device.when pecOk Device.opTemps))

/-- RAILS: six readings that only the board decides: free values. -/
def Device.opRails (d : Device) : Device :=
  let (x, d) := d.draw
  d.emit (.sideband (leBytes 12 x))

def execSidebandRails (pecOk : Bool) (s : State) : Host.Outcome State Fault Refusal :=
  .next (s.on (Device.when pecOk Device.opRails))

/-- DEV_RESET: 0x5AA5 starts a device reset as RESET_N does; any other value is ignored. -/
def Device.opDevReset (v : W16) (d : Device) : Device := if v = 0x5AA5 ∧ !d.flt.inReset then d.opDeviceReset else d

def execDevReset (pecOk : Bool) (v : W16) (s : State) : Host.Outcome State Fault Refusal :=
  .next (s.on (Device.when pecOk (Device.opDevReset v)))

/-- FLOW_MAX: 1 holds FLOW_PWM at 100 %, 0 releases it. -/
def Device.opFlowMax (v : Byte) (d : Device) : Device :=
  if v = 1 then d.updThr fun t => { t with flowMax := true }
  else if v = 0 then d.updThr fun t => { t with flowMax := false }
  else d

def execFlowMax (pecOk : Bool) (v : Byte) (s : State) : Host.Outcome State Fault Refusal :=
  .next (s.on (Device.when pecOk (Device.opFlowMax v)))

/-- An SMBus alert response releases SMB_ALERT_N; the device answers with its address (R452, R453). -/
def Device.opAlertResponse (d : Device) : Device :=
  if d.flt.smbAlert then
    (d.updFlt fun f => { f with smbAlert := false }).emit (.sideband [BitVec.ofNat 8 (2 * (0x58 + d.sec.straps.toNat % 8))])
  else d.emit .nack

def execSmbusAlertResponse (s : State) : Host.Outcome State Fault Refusal := .next (s.on Device.opAlertResponse)

end Sys2Proof.Machine
end

