-- ==== Sys2Proof/Machine/RegRead.lean ====
section
/-! DEFINITION. What a read of a register page gives: the common header (Table 18.2, Table 19.1) and the registers of each page
type (chapter 19). A register that is not listed reads zero (R13, R14, R416). -/

namespace Sys2Proof.Machine

/-- A page's registers: offset and value. -/
abbrev Regs := List (Nat × Nat)

/-- A LO/HI pair (R16, R426). -/
def pair (o v : Nat) : Regs := [(o, v % 2 ^ 32), (o + 4, v / 2 ^ 32)]

/-- The low `n` bits of an integer in two's complement. -/
def twos (n : Nat) (x : Int) : Nat := (x % (2 ^ n : Nat)).toNat

/-! ### The common header -/

/-- The unit of a page is FAILED (R146, R231, R354). -/
def Device.pageFailed (d : Device) (n : Nat) : Bool :=
  let unit (p : Nat) : Bool :=
    if p < 208 then d.flt.failedTiles.contains p
    else if p < 344 then (d.chan (p % 64)).state == .failed || d.flt.failedGroups.contains (p % 64 / 3)
    else d.flt.failedPorts.contains (p - 384)
  match pageType n with
  | 0x10 => unit (n - 0x1000)
  | 0x0F => unit (n - 0x400)
  | 0x0D => unit (256 + (n - 0xA0))
  | 0x0C => unit (320 + (n - 0x80))
  | 0x0E => unit (384 + (n - 0xC0))
  | 0x0B => (d.region (n - 0x40)).failed
  | _ => false

/-- STATE of a page, in the places of PG_STAT (Table 19.1). -/
def Device.pageState (d : Device) (n : Nat) : Nat :=
  match pageType n with
  | 0x10 => let t := d.tile (n - 0x1000); b2n t.gated * 2 ^ 8 + b2n t.substituted * 2 ^ 9
  | 0x0F => let x := d.pacer (n - 0x400); (d.shownState (n - 0x400)).code * 2 ^ 8 + b2n x.bank * 2 ^ 12 + b2n x.ready * 2 ^ 13
  | 0x0D => b2n (d.chanPart (n - 0xA0)).isSome * 2 ^ 8
  | 0x0C => (match (d.chan (n - 0x80)).state with | .training => 0 | .available => 1 | .failed => 2) * 2 ^ 8
  | 0x0E => (d.port (n - 0xC0)).link.state.code * 2 ^ 8
  | 0x0B =>
    let g := n - 0x40
    let r := d.region g
    (if r.failed then 3
     else if 24 ≤ g then (if r.power == .run || g == 30 then 2 else 0)
     else match r.power with | .gated => 0 | .fill => 1 | .run => 2) * 2 ^ 8
  | _ => 0

/-- CAP of a page (Table 19.1). -/
def Device.pageCap (d : Device) (n : Nat) : Nat :=
  match pageType n with
  | 0x10 => b2n (!activePosition d.fuses.grade176 (n - 0x1000))
  | 0x0F => pacerKind (n - 0x400)
  | 0x0C => 7
  | 0x0E => b2n (decide (24 ≤ n - 0xC0))
  | 0x0B => b2n (decide (n - 0x40 < 24))
  | _ => 0

/-- The write-back of the line a channel scrubbed last waits for admission (R158, R165). -/
def Chan.scrubWaits (x : Chan) : Bool :=
  let n := capBytes x.cap / 64
  x.asked.any fun t => t.2.2 && t.2.1 == (x.scrubAt + n - 1) % n

/-- QUIESCE is set and the unit has nothing of its own in flight (R418). -/
def Device.quiesced (d : Device) (n : Nat) : Bool :=
  (d.page n).quiesce && (pageType n != 0x0C || !(d.chan (n - 0x80)).scrubWaits) &&
  (pageType n != 0x0E || (let p := d.port (n - 0xC0); p.txReq.isEmpty && p.txRsp.isEmpty && p.inFlight.isEmpty))

/-- ENABLE in effect: 1 on every type but the port (R429). -/
def Device.pageEnabled (d : Device) (n : Nat) : Bool := pageType n != 0x0E || (d.port (n - 0xC0)).enable

/-- The array clear of a tile reset is in progress. -/
def Device.pageClearing (d : Device) (n : Nat) : Bool := pageType n == 0x10 && d.clearing (n - 0x1000)

/-- The common header of a populated page. -/
def Device.headerRegs (d : Device) (n : Nat) : Regs :=
  let h := d.page n
  [(0x00, pageType n + pageInstance n * 2 ^ 8), (0x04, 0x00010100), (0x08, d.pageCap n),
   (0x0C, (if pageType n = 0x0E then b2n (d.port (n - 0xC0)).enable else 0) + 4 * b2n h.quiesce),
   (0x10, b2n (d.pageEnabled n) + 2 * b2n (h.inReset || d.pageClearing n) + 4 * b2n (d.quiesced n) + 8 * b2n (d.pageFailed n) + d.pageState n),
   (0x14, h.intRaw.toNat), (0x18, h.intEn.toNat), (0x1C, h.intStat.toNat), (0x24, h.errCnt.toNat), (0x28, h.errFirst.toNat),
   (0x2C, h.errBib.toNat)]

/-! ### Compute and memory units (R431 to R434) -/

def Device.tileRegs (d : Device) (t : Nat) : Regs :=
  let x := d.tile t
  let (nx, ny) := tileNode t
  [(0x40, x.owner.toNat), (0x48, x.sfuPad), (0x50, x.sramCe.toNat), (0x54, x.cvtNan.toNat), (0x58, x.accLoss.toNat),
   (0x5C, x.accClamp.toNat), (0x60, x.accFlagBib.toNat), (0x64, nx + ny * 2 ^ 5)]

/-- A comparator as the pacer page shows it (Table 19.4). -/
def cmpRegs (m : Nat) (c : Cmp) : Regs :=
  [(0xC0 + 8 * m, c.value.toNat % 2 ^ 32),
   (0xC4 + 8 * m, c.value.toNat / 2 ^ 32 + c.src * 2 ^ 16 + c.index * 2 ^ 18 + c.rel * 2 ^ 24 + b2n c.enable * 2 ^ 26)]

def Device.pacerRegs (d : Device) (p : Nat) : Regs :=
  let x := d.pacer p
  [(0x40, (d.pacerOwner p).toNat), (0x50, x.strideIdx), (0x54, (Cfg.bib x.activeCfg).toNat), (0x58, (Cfg.bib x.shadowCfg).toNat),
   (0x5C, x.stall), (0xAC, x.abortResult + b2n x.abortValid * 2 ^ 31), (0xB0, x.traceDrop.toNat)] ++
    pair 0xA0 x.heatT0.toNat ++ ((List.range 8).map fun i => (0x60 + 4 * i, (Map.get 0 x.lcInit i).toNat)) ++
    ((List.range 8).map fun i => (0x80 + 4 * i, (Map.get 0 x.lcCur i).toNat)) ++
    ((List.range 4).map fun m => cmpRegs m (Map.get {} x.cmps m)).flatten

def Device.bmeRegs (d : Device) (c : Nat) : Regs :=
  let x := d.bme c
  [(0x40, x.owner.toNat), (0x48, x.retPad), (0x50, x.badPage.toNat), (0x54, x.overrun.toNat),
   (0x58, match x.scan with | some s => s.slot + 2 ^ 13 + s.cursor * 2 ^ 14 | none => 0)]

def Device.chanRegs (d : Device) (c : Nat) : Regs :=
  let x := d.chan c
  [(0x40, x.owner.toNat), (0x48, x.drlPad), (0x50, x.cls + x.speed * 2 ^ 2 + x.cap * 2 ^ 4 + b2n x.ranks * 2 ^ 7 + x.failStep * 2 ^ 8),
   (0x54, x.marginRd.toNat), (0x58, x.marginWr.toNat), (0x5C, x.marginCa.toNat), (0x60, x.ceCnt.toNat), (0x64, x.selfRef.toNat),
   (0x68, x.forcedRef.toNat), (0x6C, x.enqWait.toNat), (0x70, x.scrubPeriod)] ++
    (List.range 10).map fun j => (0x80 + 4 * j, (Map.get 0 x.devCe j).toNat)

/-! ### Ports and transport (R435, R436) -/

/-- The mask of window slots with a property. -/
def windowMask (ws : Map Window) (f : Window → Bool) : Nat := ws.foldl (fun a w => if f w.2 then a + 2 ^ w.1 else a) 0

/-- Counters of a port at the offsets of Table 19.8. -/
def cntRegs (c : PortCnt) (ws : Map Window) : Regs :=
  pair 0x100 c.frameGood.toNat ++ pair 0x108 c.frameCorr.toNat ++
    ((List.range 5).map fun l => pair (0x118 + 8 * l) (Map.get 0 c.symCorr l).toNat).flatten ++ pair 0x150 c.blockReplayed.toNat ++
    [(0x110, c.frameBad.toNat), (0x140, c.gapDiscard.toNat), (0x144, c.dupDiscard.toNat), (0x148, c.replayNak.toNat),
     (0x14C, c.replayTimer.toNat), (0x158, c.rbFull.toNat), (0x15C, c.creditStall.toNat), (0x160, c.kaMiss.toNat),
     (0x164, c.linkDown.toNat), (0x168, c.laneRepl.toNat), (0x16C, c.widthChg.toNat), (0x170, c.chgCollide.toNat),
     (0x174, c.chgEqualId.toNat), (0x178, c.chgFail.toNat), (0x198, c.pvFirst.toNat), (0x1A0, c.planDiscard.toNat),
     (0x1A4, c.planMisroute.toNat), (0x1A8, c.winMismatch.toNat), (0x1AC, c.planLost.toNat), (0x1B0, c.badUnit.toNat)] ++
    ((List.range 6).map fun k =>
      (0x180 + 4 * k, (Map.get 0 c.pv (2 * k + 1)).toNat + (Map.get 0 c.pv (2 * k + 2)).toNat * 2 ^ 16)) ++
    pair 0x1B8 (windowMask ws Window.full) ++ pair 0x1C0 (windowMask ws Window.complete)

def Device.portRegs (d : Device) (i : Nat) : Regs :=
  let p := d.port i
  let l := p.link
  let up : Bool := l.state.frames
  [(0x40, p.owner.toNat),
   (0x50, l.state.code + (if up then l.txMap.length else 0) * 2 ^ 4 + (laneMask l.txMap ||| laneMask l.rxMap).toNat * 2 ^ 7 +
      l.downCause * 2 ^ 12 + l.mapEpoch.toNat * 2 ^ 16),
   (0x54, b2n p.autoRetry + p.fecLimit * 2 + p.replayTo * 2 ^ 5 + p.linkDownTo * 2 ^ 12 + b2n p.precodeEn * 2 ^ 20),
   (0x60, p.laneErrThr), (0x64, p.resvReq + p.resvRsp * 2 ^ 16), (0x68, 40000), (0x6C, 80000),
   (0x70, p.peerGen.toNat + p.peerDev.toNat * 2 ^ 8 + b2n p.peerHost * 2 ^ 24), (0x74, p.markReq + p.markRsp * 2 ^ 8),
   (0x80, p.exr.mode + p.exr.pat * 2 ^ 3 + p.exr.cls * 2 ^ 6 + p.exr.injKind * 2 ^ 8 + p.exr.injLane * 2 ^ 11),
   (0x84, p.exr.burst + p.exr.gap * 2 ^ 16)] ++
    pair 0x58 (d.portId i).toNat ++ pair 0x78 p.peerId.toNat ++ pair 0x88 p.exr.err.toNat ++ cntRegs p.cnt ((List.range 64).map fun w => (w, p.window d.cyc w))

def Device.transportRegs (d : Device) : Regs :=
  let t := d.tr
  [(0x50, t.myId.toNat), (0x54, t.routeIdx), (0x58, (Map.get 0 t.routes t.routeIdx).toNat), (0x5C, t.lifetime), (0x60, t.echoGap),
   (0x64, t.rMax + t.rMin * 2 ^ 8 + t.rStep * 2 ^ 16), (0x68, t.recover), (0x80, t.noRoute.toNat), (0x84, t.ageDiscard.toNat),
   (0x88, t.streamFull.toNat), (0x8C, t.dupUnit.toNat), (0x90, t.staleSeq.toNat), (0x94, t.streamWait.toNat)]

def Device.transportPartRegs (d : Device) (k : Nat) : Regs :=
  let p := d.part k
  let s := p.shadow
  [(0x50, p.epoch.toNat), (0x58, p.epochDiscard.toNat), (0x5C, p.heatDiscard.toNat), (0x60, s.role),
   (0x64, s.peerDev.toNat + s.peerPart * 2 ^ 16), (0x68, s.epoch.toNat), (0x6C, s.qual), (0x70, b2n s.qualified),
   (0x74, s.matches_.toNat), (0x78, s.misses.toNat), (0x7C, s.firstLap.toNat), (0x80, s.firstBib.toNat), (0x84, s.drop.toNat),
   (0x88, s.suppress.toNat)] ++
    pair 0x90 s.base.toNat ++ ((List.range 16).map fun j => (0xC0 + 4 * j, (Map.get 0 p.heatFan j).toNat)) ++
    ((List.range 64).map fun n =>
      let c := Map.get {} p.cc n
      [(0x100 + 8 * n, c.count.toNat), (0x104 + 8 * n, c.abn.toNat + c.err.toNat * 2 ^ 16)]).flatten

/-! ### Serving (R437, R438) -/

/-- The starter page (R437). TEN_DATA0 to TEN_DATA3 read as the tenant's entry that TEN_INDEX names, also while writes of TEN_DATA0 to
TEN_DATA2 wait for that of TEN_DATA3 (DESIGN CHOICE, log entry 47). -/
def Device.starterRegs (d : Device) : Regs :=
  let s := d.starter
  let t := d.tenant s.tenIndex
  let x := twos 32 t.budget + t.rate * 2 ^ 32 + t.quantum * 2 ^ 56 + t.cap * 2 ^ 64 + b2n t.rabbit * 2 ^ 96
  [(0x58, s.cancelResult + s.resReq * 2 ^ 4 + b2n s.cancelValid * 2 ^ 31), (0x60, s.tenIndex)] ++
    (List.range 4).map fun j => (0x64 + 4 * j, bits x (32 * j) 32)

def Device.starterPartRegs (d : Device) (k : Nat) : Regs :=
  let v := (d.part k).serving
  [(0x50, v.smode + v.npos * 2 ^ 2 + v.headsN * 2 ^ 11 + v.rabbitN * 2 ^ 14), (0x54, v.rbThresh), (0x58, v.rbMin + v.rbMax * 2 ^ 16),
   (0x5C, v.rbRearm), (0x60, v.appendTl), (0x64, v.pageLen), (0x80, v.recLen), (0x84, v.recCc), (0x88, v.slots + v.nch * 2 ^ 16),
   (0x8C, v.recPart + v.recEpoch.toNat * 2 ^ 16)] ++
    pair 0x68 v.inBase.toNat ++ pair 0x70 v.outBase.toNat ++ pair 0x78 v.recDest.toNat ++ pair 0x90 v.stepCnt.toNat ++
    ((List.range 16).map fun j => (0xC0 + 4 * j, (Map.get 0 v.followers j).toNat)) ++
    ((List.range 24).map fun c =>
      pair (0x200 + 16 * c) (Map.get 0 v.poolBase c) ++
        [(0x208 + 16 * c, Map.get 16 v.poolLen c), (0x20C + 16 * c, Map.get 0 v.poolHead c + Map.get 0 v.poolTail c * 2 ^ 16)]).flatten

def Device.reqtabRegs (d : Device) : Regs :=
  let n (st : Nat) : Nat := (d.starter.table.filter fun e => ReqEntry.state e.2 == st).length
  [(0x50, d.starter.ceCnt.toNat), (0x54, n 1), (0x58, n 2)]

/-! ### Time, clocks, power and heat (R439 to R441) -/

def Device.timeRegs (d : Device) : Regs :=
  let t := d.tk
  pair 0x50 t.time.toNat ++ pair 0x70 t.gunSplit.toNat ++ pair 0x78 t.tinSplit.toNat ++ pair 0x88 t.tinPeriod.toNat ++
    pair 0x90 t.toutPhase.toNat ++ pair 0x98 t.toutPeriod.toNat ++
    [(0x58, t.fracLatch.toNat), (0x5C, twos 32 t.rateAdj),
     (0x68, b2n t.valid + 2 * b2n t.refLoss + 4 * b2n t.locked + 8 * b2n t.onAlt),
     (0x6C, t.parent + t.alt * 2 ^ 5 + t.txPeriod * 2 ^ 10 + b2n t.tinDisc * 2 ^ 13), (0x80, t.tinCnt.toNat), (0xA0, t.voidCnt.toNat)]

def Device.clockRegs (d : Device) : Regs :=
  let c := d.clk
  [(0x50, c.opCur), (0x60, c.opNext), (0x64, b2n c.opPend), (0x70, c.opFailCnt.toNat), (0x74, b2n c.cycStamp)] ++
    pair 0x58 (c.lap % 2 ^ 48) ++ pair 0x68 (c.opLap / 2 ^ 32 * 2 ^ 32 + c.opLapLo.toNat)

def Device.regionRegs (d : Device) (g : Nat) : Regs :=
  let r := d.region g
  [(0x50, r.droopThr), (0x54, r.stretchCnt.toNat), (0x58, r.runLimitCnt.toNat), (0x5C, r.slipCnt.toNat), (0x60, r.delay % 2 ^ 32),
   (0x64, b2n r.path + 2 * b2n r.idleLocked)]

def Device.powerRegs (d : Device) : Regs :=
  let p := d.pwr
  [(0x50, p.cap), (0x54, p.govMax), (0x58, p.govLevel), (0x5C, p.govCnt.toNat), (0x60, p.fastLimit + p.slowLimit * 2 ^ 4),
   (0x64, twos 8 p.avsOffset), (0x68, p.rll), (0x6C, p.vrSettle), (0x70, p.lsfStep), (0x74, p.pkgPwr), (0x78, p.setE), (0x7C, p.setW),
   (0x80, p.setIo), (0x84, p.pl2Used d.clk.now)]

def Device.thermalRegs (d : Device) : Regs :=
  let t := d.thr
  [(0x50, t.throttle), (0x54, t.margin), (0x58, t.flowDmin), (0x5C, t.flowLead), (0x60, t.qMax), (0x64, t.coolCp), (0x68, t.dtTgt),
   (0x6C, t.coolInMax), (0x70, t.i3cInlet + t.i3cOutlet * 2 ^ 8), (0x74, t.flowDuty), (0x78, twos 16 t.tInlet),
   (0x7C, twos 16 t.tOutlet), (0x80, t.hotIdx + twos 16 t.hotT * 2 ^ 8), (0x84, t.sensIdx),
   (0x88, twos 16 (Map.get 0 t.sensors t.sensIdx)), (0x8C, t.rthJi)]

/-! ### Security and self-test (R442, R443) -/

/-- HASH_DATA: the selected word of a key hash. -/
def Device.hashData (d : Device) : Nat :=
  let h : BitVec 512 :=
    if d.sec.hashSel < 4 then Map.get 0 d.fuses.vendorHash d.sec.hashSel
    else if d.sec.hashSel = 4 then d.fuses.drillHash else d.fuses.debugHash
  bits h.toNat (32 * d.sec.hashWord) 32

/-- DEV_PUB_DATA: a word of the identity key's public half, in every state from PROVISIONED onward (R395). -/
def Device.devPubData (d : Device) : Nat :=
  match d.devPubKey with
  | some k => if 2 ≤ d.fuses.lc then leNat ((k.drop (4 * d.sec.devPubIdx)).take 4) else 0
  | none => 0

/-- Words of a wide value from an offset on. -/
def wordsAt (o n v : Nat) : Regs := (List.range n).map fun j => (o + 4 * j, bits v (32 * j) 32)

def Device.securityRegs (d : Device) : Regs :=
  let s := d.sec
  [(0x50, d.fuses.lc + b2n s.debug * 2 ^ 3 + s.scope.toNat * 2 ^ 4), (0x60, s.lcResult + b2n s.lcValid * 2 ^ 31), (0x64, d.fuses.fwSvn),
   (0x84, d.fuses.revoke.toNat), (0x88, s.hashSel + s.hashWord * 2 ^ 3), (0x8C, d.hashData), (0x90, s.devPubIdx), (0x94, d.devPubData),
   (0xEC, s.attResult + b2n s.attValid * 2 ^ 31), (0xF0, s.scopeH0.toNat), (0xF4, s.scopeH1.toNat),
   (0xF8, s.attPart + s.attEpoch.toNat * 2 ^ 16), (0x118, s.dbgResult + b2n s.dbgValid * 2 ^ 31)] ++
    pair 0x58 s.lcToken.toNat ++ pair 0x68 d.fuses.serial.toNat ++ wordsAt 0x70 4 s.lcNonce.toNat ++ wordsAt 0xA0 16 s.attNonce.toNat ++
    pair 0xE0 s.attDest.toNat ++ wordsAt 0x100 4 s.dbgNonce.toNat ++ pair 0x110 s.dbgToken.toNat

/-- The bytes of a self-test record (Table 17.5). -/
def StRecord.bytes (r : StRecord) : List Byte :=
  leBytes 8 r.split.toNat ++ leBytes 4 r.reqId.toNat ++ leBytes 1 r.test ++ leBytes 1 r.result ++ leBytes 2 r.target.toNat ++
    leBytes 4 r.duration ++ leBytes 2 r.coverage ++ leBytes 1 r.lc ++ leBytes 1 r.flags.toNat ++ leBytes 4 r.fails ++
    leBytes 8 r.first.toNat ++ fitBytes 28 r.measure

def Device.selftestRegs (d : Device) : Regs :=
  let t := d.st
  let x := StRecord.bytes (Map.get {} t.results (t.resIdx % 64))
  [(0x58, t.tokenResult + b2n t.tokenValid * 2 ^ 31), (0x5C, t.runsLeft.toNat), (0x60, t.test), (0x64, t.target.toNat),
   (0x6C, t.lastReq.toNat), (0x70, t.resIdx), (0x74, leNat ((x.drop (4 * (t.resIdx / 64))).take 4)),
   (0x78, t.queue.length + b2n t.running.isSome * 2 ^ 8 + (match t.running with | some r => r.test | none => 0) * 2 ^ 12 +
     t.nextEntry * 2 ^ 16)] ++ pair 0x50 t.tokenAddr.toNat

/-! ### The marshal mailbox (R444) -/

/-- The event ring fields (R422). -/
def evtRegs (e : EvtRing) : Regs :=
  pair 0xC0 e.base.toNat ++
    [(0xC8, e.len), (0xCC, e.cc + b2n e.valid * 2 ^ 8), (0xD0, e.part + e.epoch.toNat * 2 ^ 16)]

def Device.mailboxRegs (d : Device) : Regs :=
  let m := d.mb
  pair 0x50 m.imageAddr.toNat ++ pair 0x80 m.drillAddr.toNat ++ pair 0x90 m.drillTarget.toNat ++ evtRegs m.evt ++
    [(0x58, m.part + b2n m.mode * 2 ^ 3 + b2n m.strict * 2 ^ 4 + b2n m.autoStart * 2 ^ 5 + m.pwrAlloc * 2 ^ 16),
     (0x60, m.paRegions.toNat), (0x64, m.paGroups.toNat + m.paPart * 2 ^ 8), (0x6C, m.partResult + b2n m.partValid * 2 ^ 31),
     (0x70, d.sec.fwLen.toNat), (0x78, d.sec.bootStatus), (0x7C, d.sec.bootTries.toNat), (0x88, m.drillResult + b2n m.drillValid * 2 ^ 31),
     (0x98, m.drillCnt.toNat), (0x9C, m.drillVoid.toNat), (0xA0, m.ringMiss.toNat), (0xA4, b2n m.journalLost),
     (0xA8, m.jclrTile + b2n m.jclrAll * 2 ^ 8), (0xB0, m.jclrResult + b2n m.jclrValid * 2 ^ 31)]

/-- The bytes of a load result record (Table 7.7). -/
def LoadResult.bytes (r : LoadResult) : List Byte :=
  leBytes 8 r.split.toNat ++ leBytes 4 0xFFFFFFFF ++ leBytes 2 r.pcid.toNat ++ leBytes 1 r.code ++ leBytes 1 r.phase ++
    leBytes 2 r.cond ++ leBytes 2 r.unit ++ leBytes 2 r.stride ++ leBytes 1 r.seq ++ leBytes 1 0 ++ leBytes 8 r.cycle ++
    leBytes 4 r.failBib.toNat ++ leBytes 2 r.physUnit ++ leBytes 1 r.trans ++ leBytes 1 r.subs ++ leBytes 2 r.lateRoutes ++
    leBytes 2 0 ++ leBytes 4 r.verifyUs.toNat ++ leBytes 8 r.mapAddr.toNat ++ leBytes 8 0

def Device.mailboxPartRegs (d : Device) (k : Nat) : Regs :=
  let p := d.part k
  pair 0x60 p.tH.toNat ++ pair 0x68 p.heatSkew.toNat ++ evtRegs p.evt ++
    [(0x54, p.startResult + b2n p.startValid * 2 ^ 31), (0x58, p.heatNo.toNat), (0x74, p.resetResult + b2n p.resetValid * 2 ^ 31),
     (0x78, p.stallLaps), (0x7C, p.repairMode), (0x80, b2n p.altReady), (0x84, p.reloadBytes.toNat), (0x88, p.frameLate.toNat),
     (0x8C, p.overAlloc.toNat), (0x90, p.pwrAlloc)] ++
    (match p.lastLoad with
     | some r => wordsAt 0x100 16 (leNat (LoadResult.bytes r))
     | none => [])

/-! ### Reading -/

/-- The registers of a page beyond the header. -/
def Device.typeRegs (d : Device) (n : Nat) : Regs :=
  let i := pageInstance n
  match pageType n with
  | 0x01 => if n = 0 then d.mailboxRegs else d.mailboxPartRegs (n - 1)
  | 0x02 => d.securityRegs
  | 0x03 => d.selftestRegs
  | 0x04 => d.timeRegs
  | 0x05 => d.clockRegs
  | 0x06 => d.powerRegs
  | 0x07 => d.thermalRegs
  | 0x08 => if n = 0x10 then d.transportRegs else d.transportPartRegs (n - 0x11)
  | 0x09 => if n = 0x20 then d.starterRegs else d.starterPartRegs (n - 0x21)
  | 0x0A => d.reqtabRegs
  | 0x0B => d.regionRegs i
  | 0x0C => d.chanRegs i
  | 0x0D => d.bmeRegs i
  | 0x0E => d.portRegs i
  | 0x0F => d.pacerRegs i
  | 0x10 => d.tileRegs i
  | _ => []

/-- What a 32-bit register reads as; PG_ID of a reserved slot reads TYPE 0 (R413). -/
def Device.reg (d : Device) (n off : Nat) : Nat :=
  if pageType n = 0 then 0
  else
    match (if off < 0x40 then d.headerRegs n else d.typeRegs n).find? fun r => r.1 == off with
    | some r => r.2 % 2 ^ 32
    | none => 0

/-- An 8-byte GET of a page (R415, R16): the register at the offset and the next one. A read of TIME LO latches the fraction
(R439). -/
def Device.readPage (n off : Nat) (d : Device) : List Byte × Device :=
  let hi := d.reg n (off + 4)
  let bs := leBytes 4 (d.reg n off) ++ leBytes 4 hi
  let d := d.updPage n fun h => { h with hiLatch := BitVec.ofNat 32 hi }
  (bs, if n = pgTime ∧ off = 0x50 then d.updTk fun t => { t with fracLatch := t.frac } else d)

end Sys2Proof.Machine
end

