-- ==== Sys2Proof/Machine/RegWrite.lean ====
section
/-! DEFINITION. What a write of a register does (chapters 18 and 19): the header's commands, every writable field with its range
and window, and the GO registers. A field that a write may not take keeps its value and the write is counted (R15, R418, R419). -/

namespace Sys2Proof.Machine

/-! ### Fields -/

/-- Take a field when `ok` holds, and otherwise count the write. -/
def Device.take (n : Nat) (ok : Bool) (code : Nat) (f : Device → Device) (d : Device) : Device :=
  if ok then f d else d.countErr n code

/-- The low or high half of a 64-bit value replaced. -/
def withLo (v : W32) (x : W64) : W64 := BitVec.ofNat 64 (x.toNat / 2 ^ 32 * 2 ^ 32 + v.toNat)
def withHi (v : W32) (x : W64) : W64 := BitVec.ofNat 64 (x.toNat % 2 ^ 32 + v.toNat * 2 ^ 32)

/-- A field of a written value. -/
def fld (v : W32) (lo w : Nat) : Nat := bits v.toNat lo w
/-- A bit of a written value. -/
def flag (v : W32) (i : Nat) : Bool := v.getLsbD i

/-- `lo ≤ x ≤ hi`. -/
def within (lo hi x : Nat) : Bool := decide (lo ≤ x) && decide (x ≤ hi)

/-- No pacer of the partition is running a plan (R303, R436). -/
def Device.partQuiet (d : Device) (k : Nat) : Bool := (d.pacersOf k).all fun p => !(d.pacer p).state.active

/-! ### The common header (R418 to R423) -/

/-- ERR_CLR (R420). -/
def Device.opErrClr (n : Nat) (d : Device) : Device := d.updPage n fun h => { h with errCnt := 0, errFirst := 0, errBib := 0 }

def execErrClr (slot : Nat) (s : State) : Host.Outcome State Fault Refusal :=
  .next (s.on (Device.when (isPage slot) (Device.opErrClr slot)))

/-- A W1C write of INT_RAW; bits that the hardware sets in the same cycle stay set (R421). -/
def Device.opIntW1c (n : Nat) (v hw : W32) (d : Device) : Device :=
  (d.updPage n fun h => { h with intRaw := (h.intRaw &&& ~~~v) ||| hw }).intCheck n

def execIntRawW1c (slot : Nat) (v hwSet : W32) (s : State) : Host.Outcome State Fault Refusal :=
  .next (s.on (Device.when (isPage slot) (Device.opIntW1c slot v hwSet)))

def execIntSet (slot : Nat) (v : W32) (s : State) : Host.Outcome State Fault Refusal :=
  .next (s.on (Device.when (isPage slot) (Device.setInt slot v)))

/-- CNT_CLR (R425, R426): every counter of the page that it clears. -/
def Device.opCntClr (n : Nat) (d : Device) : Device :=
  let i := pageInstance n
  match pageType n with
  | 0x01 =>
    if n = 0 then d.updMb fun m => { m with drillCnt := 0, drillVoid := 0, ringMiss := 0 }
    else d.updPart (n - 1) fun p => { p with frameLate := 0, overAlloc := 0 }
  | 0x04 => d.updTk fun t => { t with voidCnt := 0 }
  | 0x05 => d.updClk fun c => { c with opFailCnt := 0 }
  | 0x06 => d.updPwr fun p => { p with govCnt := 0 }
  | 0x08 =>
    if n = 0x10 then d.updTr fun t =>
      { t with noRoute := 0, ageDiscard := 0, streamFull := 0, dupUnit := 0, staleSeq := 0, streamWait := 0 }
    else d.updPart (n - 0x11) fun p =>
      { p with epochDiscard := 0, heatDiscard := 0, shadow := { p.shadow with matches_ := 0, misses := 0, drop := 0, suppress := 0 } }
  | 0x0A => d.updStarter fun s => { s with ceCnt := 0 }
  | 0x0B => d.updRegion i fun r => { r with stretchCnt := 0, runLimitCnt := 0, slipCnt := 0 }
  | 0x0C => d.updChan i fun c => { c with ceCnt := 0, selfRef := 0, forcedRef := 0, enqWait := 0, devCe := [] }
  | 0x0D => d.updBme i fun b => { b with badPage := 0, overrun := 0 }
  | 0x0E => d.updPort i fun p => { p with cnt := {} }
  | 0x0F => d.updPacer i fun x => { x with traceDrop := 0 }
  | 0x10 => d.updTile i fun t => { t with sramCe := 0, cvtNan := 0, accLoss := 0, accClamp := 0, accFlagBib := 0 }
  | _ => d

def execCntClr (slot : Nat) (s : State) : Host.Outcome State Fault Refusal :=
  .next (s.on (Device.when (isPage slot) (Device.opCntClr slot)))

/-- PG_CTRL (R418): ERR_CLR first, then QUIESCE, ENABLE and RESET_REQ where the page's type has them. -/
def Device.writeCtrl (n : Nat) (v : W32) (d : Device) : Device :=
  let d := if flag v 3 then d.opErrClr n else d
  match pageType n with
  | 0x0C => d.updPage n fun h => { h with quiesce := flag v 2 }
  | 0x0E =>
    let i := n - 0xC0
    if flag v 0 != (d.port i).enable && (d.port i).link.state == .exercise then d.countErr n errState
    else
      let d := d.updPage n fun h => { h with quiesce := flag v 2 }
      let d := if flag v 0 != (d.port i).enable then d.opPortEnable i (flag v 0) else d
      if flag v 1 && !(d.page n).inReset then d.portReset i 9 else d
  | 0x10 => if flag v 1 then d.opTileReset (n - 0x1000) else d
  | _ => d

/-- A write of the common header. -/
def Device.writeHeader (n off : Nat) (v : W32) (d : Device) : Device :=
  match off with
  | 0x0C => d.writeCtrl n v
  | 0x14 => d.opIntW1c n v 0
  | 0x18 => (d.updPage n fun h => { h with intEn := v }).intCheck n
  | 0x20 => d.setInt n v
  | _ => d

/-! ### Units (R431 to R435) -/

def Device.writeChan (c off : Nat) (v : W32) (d : Device) : Device :=
  if off = 0x70 then d.take (pgChan c) (within 1 65535 (fld v 0 16)) errRange fun d => d.updChan c fun x => { x with scrubPeriod := fld v 0 16 }
  else d

def Device.writeRegion (g off : Nat) (v : W32) (d : Device) : Device :=
  if off = 0x50 then d.take (pgRegion g) (within 4 16 (fld v 0 5)) errRange fun d => d.updRegion g fun r => { r with droopThr := fld v 0 5 }
  else d

def Device.writePacer (p off : Nat) (v : W32) (d : Device) : Device := if off = 0xA8 ∧ flag v 0 then d.opAbort p else d

/-- 0x054 of a port page. -/
def Device.writePortCtl (i : Nat) (v : W32) (d : Device) : Device :=
  let n := pgPort i
  let off := (d.port i).link.state == .disabled
  let d := d.updPort i fun p => { p with autoRetry := flag v 0 }
  let d := d.take n (within 8 15 (fld v 1 4)) errRange fun d => d.updPort i fun p => { p with fecLimit := fld v 1 4 }
  let d := d.take n (within 1 64 (fld v 5 7)) errRange fun d => d.updPort i fun p => { p with replayTo := fld v 5 7 }
  let d := d.take n (within 2 255 (fld v 12 8)) errRange fun d => d.updPort i fun p => { p with linkDownTo := fld v 12 8 }
  if flag v 20 = (d.port i).precodeEn then d
  else d.take n off errState fun d => d.updPort i fun p => { p with precodeEn := flag v 20 }

/-- Encodings that Table 19.7 defines for EXR_PAT: three payloads under TRAFFIC, six patterns otherwise. -/
def exrPats (mode : Nat) : Nat := if mode = 3 then 3 else 6

/-- 0x080 of a port page: the exerciser's fields, then EXR_GO. A reserved encoding leaves its own field unchanged (R15), and EXR_GO acts on
the fields as they then stand; EXR_PAT is judged by the mode after the write (DESIGN CHOICE, log entry 47). -/
def Device.writeExr (i : Nat) (v : W32) (d : Device) : Device :=
  let n := pgPort i
  let d := d.take n (decide (fld v 0 3 ≤ 5)) errReserved fun d => d.updExr i fun e => { e with mode := fld v 0 3 }
  let d := d.take n (decide (fld v 3 3 < exrPats (d.port i).exr.mode)) errReserved fun d => d.updExr i fun e => { e with pat := fld v 3 3 }
  let d := d.updExr i fun e => { e with cls := fld v 6 1 }
  let d := d.take n (decide (fld v 8 3 ≤ 4)) errReserved fun d => d.updExr i fun e => { e with injKind := fld v 8 3 }
  let d := d.take n (decide (fld v 11 5 ≤ 4)) errReserved fun d => d.updExr i fun e => { e with injLane := fld v 11 5 }
  if flag v 31 then d.exrGo i else d

def Device.writePort (i off : Nat) (v : W32) (d : Device) : Device :=
  let n := pgPort i
  let disabled := (d.port i).link.state == .disabled
  let setId (f : W64 → W64) (d : Device) : Device := let x := d.portId i; d.updPort i fun p => { p with portIdSet := some (f x) }
  match off with
  | 0x54 => d.writePortCtl i v
  | 0x58 => d.take n disabled errState (setId (withLo v))
  | 0x5C => d.take n disabled errState (setId (withHi v))
  | 0x60 => d.take n (within 16 65535 (fld v 0 16)) errRange fun d => d.updPort i fun p => { p with laneErrThr := fld v 0 16 }
  | 0x64 =>
    if disabled then
      let d := d.take n (within 128 1024 (fld v 0 11)) errRange fun d => d.updPort i fun p => { p with resvReq := fld v 0 11 }
      d.take n (within 128 1024 (fld v 16 11)) errRange fun d => d.updPort i fun p => { p with resvRsp := fld v 16 11 }
    else d.countErr n errState
  | 0x74 =>
    let d := d.take n (within 1 192 (fld v 0 8)) errRange fun d => d.updPort i fun p => { p with markReq := fld v 0 8 }
    d.take n (within 1 64 (fld v 8 8)) errRange fun d => d.updPort i fun p => { p with markRsp := fld v 8 8 }
  | 0x80 => d.writeExr i v
  | 0x84 =>
    let d := d.take n (within 1 65535 (fld v 0 16)) errRange fun d => d.updExr i fun e => { e with burst := fld v 0 16 }
    d.updExr i fun e => { e with gap := fld v 16 16 }
  | _ => d

/-! ### Transport (R295, R296, R303, R328, R436) -/

/-- MY_ID (R328): while no pacer runs a plan; both stream tables are cleared. -/
def Device.opMyId (v : W16) (d : Device) : Device :=
  d.take pgTransport d.quiet errState fun d => d.updTr fun t => { t with myId := v, src := [], dst := [] }

def execMyIdWrite (v : W16) (s : State) : Host.Outcome State Fault Refusal := .next (s.on (Device.opMyId v))

/-- ROUTE_DATA (R296, Table 12.1): a port code that Table 12.1 does not define leaves its field unchanged (R15), and each such field
counts one in ERR_CNT (DESIGN CHOICE, log entry 47); units that wait are looked up again. -/
def Device.opRouteData (v : W16) (d : Device) : Device :=
  let old := (Map.get 0 d.tr.routes d.tr.routeIdx).toNat
  let x := v.toNat
  let okP := isPort (bits x 0 5)
  let okA := isPort (bits x 5 5)
  let e := (if okP then bits x 0 5 else bits old 0 5) + (if okA then bits x 5 5 else bits old 5 5) * 2 ^ 5 + bits x 14 2 * 2 ^ 14
  let d := if okP then d else d.countErr pgTransport errReserved
  let d := if okA then d else d.countErr pgTransport errReserved
  ((d.updTr fun t => { t with routes := Map.set 0 t.routes t.routeIdx (BitVec.ofNat 16 e) }).rerouteAll).admitWaiting

def execRouteDataWrite (v : W16) (s : State) : Host.Outcome State Fault Refusal := .next (s.on (Device.opRouteData v))

def Device.writeTransport (off : Nat) (v : W32) (d : Device) : Device :=
  let n := pgTransport
  match off with
  | 0x50 => d.opMyId (BitVec.ofNat 16 v.toNat)
  | 0x54 => d.updTr fun t => { t with routeIdx := fld v 0 16 }
  | 0x58 => d.opRouteData (BitVec.ofNat 16 v.toNat)
  | 0x5C => d.take n (within 25 4095 (fld v 0 12)) errRange fun d => d.updTr fun t => { t with lifetime := fld v 0 12 }
  | 0x60 => d.take n (within 1 64 (fld v 0 7)) errRange fun d => d.updTr fun t => { t with echoGap := fld v 0 7 }
  | 0x64 =>
    let a := fld v 0 7
    let b := fld v 8 7
    let d := d.take n (within 1 99 a && within 1 99 b && decide (b ≤ a)) errRange fun d => d.updTr fun t => { t with rMax := a, rMin := b }
    d.take n (within 1 99 (fld v 16 7)) errRange fun d => d.updTr fun t => { t with rStep := fld v 16 7 }
  | 0x68 => d.take n (within 1 255 (fld v 0 8)) errRange fun d => d.updTr fun t => { t with recover := fld v 0 8 }
  | _ => d

/-- CC_CLR (R303). -/
def Device.opCcClr (k : Nat) (d : Device) : Device :=
  d.take (pgTransportP k) (d.partQuiet k) errState fun d => d.updPart k fun p => { p with cc := [] }

def execCcClr (k : Nat) (s : State) : Host.Outcome State Fault Refusal := .next (s.on (Device.when (isPart k) (Device.opCcClr k)))

/-- A device, partition and VALID field of a table of 16 (HEAT_FAN, FOLLOWERS). -/
def fanEntry (v : W32) : W32 := BitVec.ofNat 32 (fld v 0 20)

def Device.writeTransportPart (k off : Nat) (v : W32) (d : Device) : Device :=
  let n := pgTransportP k
  let idle := d.pacersIdle k
  let set (ok : Bool) (code : Nat) (f : Shadow → Shadow) (d : Device) : Device := d.take n ok code fun d => d.updShadow k f
  match off with
  | 0x54 => if flag v 0 then d.opCcClr k else d
  | 0x60 => if idle then set (decide (fld v 0 2 ≤ 2)) errReserved (fun s => { s with role := fld v 0 2 }) d else d.countErr n errState
  | 0x64 => set idle errState (fun s => { s with peerDev := BitVec.ofNat 16 (fld v 0 16), peerPart := fld v 16 3 }) d
  | 0x68 => set idle errState (fun s => { s with epoch := BitVec.ofNat 16 (fld v 0 16) }) d
  | 0x6C => set (within 1 65535 (fld v 0 16)) errRange (fun s => { s with qual := fld v 0 16 }) d
  | 0x90 => set idle errState (fun s => { s with base := withLo v s.base }) d
  | 0x94 => set idle errState (fun s => { s with base := withHi v s.base }) d
  | _ =>
    if 0xC0 ≤ off ∧ off < 0x100 then
      d.take n (d.partQuiet k) errState fun d => d.updPart k fun p => { p with heatFan := Map.set 0 p.heatFan ((off - 0xC0) / 4) (fanEntry v) }
    else d

/-! ### Serving (R190, R437) -/

def Device.writeStarter (off : Nat) (v : W32) (d : Device) : Device :=
  match off with
  | 0x50 => d.updStarter fun s => { s with cancelReq := fld v 0 20 }
  | 0x54 => d.opCancelReq (BitVec.ofNat 16 v.toNat)
  | 0x60 => d.updStarter fun s => { s with tenIndex := fld v 0 12 }
  | 0x64 => d.updStarter fun s => { s with tenData0 := v }
  | 0x68 => d.updStarter fun s => { s with tenData1 := v }
  | 0x6C => d.updStarter fun s => { s with tenData2 := v }
  | 0x70 => d.opTenData3 v
  | _ => d

/-- SMODE, NPOS, HEADS_N and RABBIT_N. -/
def Device.writeSmode (k : Nat) (v : W32) (d : Device) : Device :=
  let n := pgStarterP k
  let d := d.take n (decide (fld v 0 2 ≤ 2)) errReserved fun d => d.updServing k fun s => { s with smode := fld v 0 2 }
  let d := d.take n (within 1 256 (fld v 2 9)) errRange fun d => d.updServing k fun s => { s with npos := fld v 2 9 }
  let d := d.take n (decide (fld v 11 3 ≤ 4)) errRange fun d => d.updServing k fun s => { s with headsN := fld v 11 3 }
  d.take n (decide (fld v 14 4 ≤ 8)) errRange fun d => d.updServing k fun s => { s with rabbitN := fld v 14 4 }

/-- The pool registers of virtual channel `c`. -/
def Device.writePool (k c o : Nat) (idle : Bool) (v : W32) (d : Device) : Device :=
  let n := pgStarterP k
  let base : W64 := BitVec.ofNat 64 (Map.get 0 (d.part k).serving.poolBase c)
  let len : Nat := Map.get 16 (d.part k).serving.poolLen c
  match o with
  | 0 => if idle then d.take n (decide (v.toNat % 64 = 0)) errRange fun d => d.updServing k fun s =>
      { s with poolBase := Map.set 0 s.poolBase c (withLo v base).toNat } else d.countErr n errState
  | 4 => if idle then d.updServing k fun s => { s with poolBase := Map.set 0 s.poolBase c (withHi (BitVec.ofNat 32 (fld v 0 16)) base).toNat }
      else d.countErr n errState
  | 8 => if idle then d.take n (within 16 65536 (fld v 0 17)) errRange fun d => d.updServing k fun s =>
      { s with poolLen := Map.set 16 s.poolLen c (fld v 0 17) } else d.countErr n errState
  | 12 => d.take n (decide (fld v 16 16 < len)) errRange fun d => d.updServing k fun s =>
      { s with poolTail := Map.set 0 s.poolTail c (fld v 16 16) }
  | _ => d

/-- RB_THRESH_MIN and RB_THRESH_MAX; RB_THRESH is kept within them. -/
def Device.writeRbBounds (k : Nat) (v : W32) (d : Device) : Device :=
  let lo := fld v 0 9
  let hi := fld v 16 9
  d.take (pgStarterP k) (decide (lo ≤ hi) && decide (hi ≤ 256)) errRange fun d => d.updServing k fun s =>
    { s with rbMin := lo, rbMax := hi, rbThresh := min hi (max lo s.rbThresh) }

/-- A write of a serving parameter (R190): while the pacers are IDLE, but for the ones a plan lets move; the marshal moves RB_THRESH within
its bounds at any time. -/
def Device.writeStarterPart (src : Src) (k off : Nat) (v : W32) (d : Device) : Device :=
  let n := pgStarterP k
  let idle := d.pacersIdle k
  let set (ok : Bool) (code : Nat) (f : Serving → Serving) (d : Device) : Device := d.take n ok code fun d => d.updServing k f
  let s := (d.part k).serving
  let aligned := decide (v.toNat % 64 = 0)
  if off = 0x58 then d.writeRbBounds k v
  else if off = 0x5C then set (within 1 255 (fld v 0 8)) errRange (fun s => { s with rbRearm := fld v 0 8 }) d
  else if 0x200 ≤ off ∧ off < 0x380 then d.writePool k ((off - 0x200) / 16) ((off - 0x200) % 16) idle v
  else
    let known : Bool := [0x50, 0x54, 0x60, 0x64, 0x68, 0x6C, 0x70, 0x74, 0x78, 0x7C, 0x80, 0x84, 0x8C].contains off ||
      (decide (0xC0 ≤ off) && decide (off < 0x100))
    if !known then d
    else if !idle && !(off == 0x54 && src == .marshal) then d.countErr n errState
    else match off with
    | 0x50 => d.writeSmode k v
    | 0x54 => set (within s.rbMin s.rbMax (fld v 0 9)) errRange (fun s => { s with rbThresh := fld v 0 9 }) d
    | 0x60 => set true 0 (fun s => { s with appendTl := fld v 0 16 }) d
    | 0x64 => set (within 1 65535 (fld v 0 16)) errRange (fun s => { s with pageLen := fld v 0 16 }) d
    | 0x68 => set aligned errRange (fun s => { s with inBase := withLo v s.inBase }) d
    | 0x6C => set true 0 (fun s => { s with inBase := withHi v s.inBase }) d
    | 0x70 => set aligned errRange (fun s => { s with outBase := withLo v s.outBase }) d
    | 0x74 => set true 0 (fun s => { s with outBase := withHi v s.outBase }) d
    | 0x78 => set true 0 (fun s => { s with recDest := withLo v s.recDest }) d
    | 0x7C => set true 0 (fun s => { s with recDest := withHi v s.recDest }) d
    | 0x80 => set (within 65536 (2 ^ 30) v.toNat) errRange (fun s => { s with recLen := v.toNat }) d
    | 0x84 => set (decide (fld v 0 6 ≤ 62)) errRange (fun s => { s with recCc := fld v 0 6 }) d
    | 0x8C => set true 0 (fun s => { s with recPart := fld v 0 3, recEpoch := BitVec.ofNat 16 (fld v 16 16) }) d
    | _ => set true 0 (fun s => { s with followers := Map.set 0 s.followers ((off - 0xC0) / 4) (fanEntry v) }) d

/-! ### Time and clocks (R235, R237, R239, R253, R439, R440) -/

/-- TIME_PARENT, TIME_ALT, TX_PERIOD and TIN_DISC. -/
def Device.writeTimeCtl (v : W32) (d : Device) : Device :=
  let n := pgTime
  let ok (x : Nat) : Bool := isPort x || x == 31
  let d := d.take n (ok (fld v 0 5)) errReserved fun d => d.updTk fun t => { t with parent := fld v 0 5 }
  let d := d.take n (ok (fld v 5 5)) errReserved fun d => d.updTk fun t => { t with alt := fld v 5 5 }
  let d := d.take n (decide (fld v 10 3 ≤ 6)) errReserved fun d => d.updTk fun t => { t with txPeriod := fld v 10 3 }
  d.updTk fun t => { t with tinDisc := flag v 13 }

def Device.writeTime (off : Nat) (v : W32) (d : Device) : Device :=
  match off with
  | 0x5C => d.opRateAdj v
  | 0x60 => d.updTk fun t => { t with setLo := v }
  | 0x64 => d.opTimeSet v
  | 0x6C => d.writeTimeCtl v
  | 0x88 => d.updTk fun t => { t with tinPeriod := withLo v t.tinPeriod }
  | 0x8C => d.updTk fun t => { t with tinPeriod := withHi v t.tinPeriod }
  | 0x90 => d.updTk fun t => { t with toutPhase := withLo v t.toutPhase, outDone := t.time }
  | 0x94 => d.updTk fun t => { t with toutPhase := withHi v t.toutPhase, outDone := t.time }
  | 0x98 => d.updTk fun t => { t with toutPeriod := withLo v t.toutPeriod, outDone := t.time }
  | 0x9C =>
    let x := withHi v d.tk.toutPeriod
    d.take pgTime (x == 0 || decide (3200 ≤ x.toNat)) errRange fun d => d.updTk fun t => { t with toutPeriod := x, outDone := t.time }
  | _ => d

/-- OP_NEXT and OP_LAP accept writes from the marshal only (R440), and none while a change is pending (R217). -/
def Device.writeClock (src : Src) (off : Nat) (v : W32) (d : Device) : Device :=
  let marshal : Bool := match src with | .marshal => true | _ => false
  match off with
  | 0x60 =>
    if marshal && !d.clk.opPend then
      d.take pgClock (decide (fld v 0 3 ≤ 4)) errReserved fun d => d.updClk fun c => { c with opNext := fld v 0 3 }
    else d.countErr pgClock errState
  | 0x68 => d.take pgClock (marshal && !d.clk.opPend) errState fun d => d.updClk fun c => { c with opLapLo := v }
  | 0x6C => d.opOpLap src v
  | 0x74 => d.take pgClock d.quiet errState fun d => d.updClk fun c => { c with cycStamp := flag v 0 }
  | _ => d

/-! ### Power and heat (R383, R441) -/

def Device.writePower (off : Nat) (v : W32) (d : Device) : Device :=
  let set (ok : Bool) (f : Power → Power) (d : Device) : Device := d.take pgPower ok errRange fun d => d.updPwr f
  match off with
  | 0x50 =>
    -- a lower cap is applied at once (R383)
    let e := set (within 300 1500 (fld v 0 11)) (fun p => { p with cap := fld v 0 11 }) d
    if e.pwr.cap < d.pwr.cap then e.governNow e.pwr.pkgPwr else e
  | 0x54 => (set (decide (fld v 0 4 ≤ 8)) (fun p => { p with govMax := fld v 0 4 }) d).govern
  | 0x60 =>
    let a := fld v 0 3
    let b := fld v 4 3
    set (decide (a ≤ b) && decide (b ≤ 4)) (fun p => { p with fastLimit := a, slowLimit := b }) d
  | 0x64 =>
    let x := signedField 8 v.toNat
    set (decide (-20 ≤ x) && decide (x ≤ 20)) (fun p => { p with avsOffset := x }) d
  | 0x68 => set (decide (fld v 0 6 ≤ 50)) (fun p => { p with rll := fld v 0 6 }) d
  | 0x6C => set (within 1 100 (fld v 0 7)) (fun p => { p with vrSettle := fld v 0 7 }) d
  | 0x70 => set (within 10 500 (fld v 0 9)) (fun p => { p with lsfStep := fld v 0 9 }) d
  | _ => d

def Device.writeThermal (off : Nat) (v : W32) (d : Device) : Device :=
  let set (ok : Bool) (f : Thermal → Thermal) (d : Device) : Device := d.take pgThermal ok errRange fun d => d.updThr f
  match off with
  | 0x50 => set (within 85 100 (fld v 0 7)) (fun t => { t with throttle := fld v 0 7 }) d
  | 0x54 => set (within 0 15 (fld v 0 4)) (fun t => { t with margin := fld v 0 4 }) d
  | 0x58 => set (within 0 1000 (fld v 0 10)) (fun t => { t with flowDmin := fld v 0 10 }) d
  | 0x5C => set (within 1 30 (fld v 0 5)) (fun t => { t with flowLead := fld v 0 5 }) d
  | 0x60 => set (within 1 500 (fld v 0 9)) (fun t => { t with qMax := fld v 0 9 }) d
  | 0x64 => set (within 1000 5000 (fld v 0 13)) (fun t => { t with coolCp := fld v 0 13 }) d
  | 0x68 => set (within 2 20 (fld v 0 5)) (fun t => { t with dtTgt := fld v 0 5 }) d
  | 0x6C => set (within 15 60 (fld v 0 6)) (fun t => { t with coolInMax := fld v 0 6 }) d
  | 0x70 => d.updThr fun t => { t with i3cInlet := fld v 0 7, i3cOutlet := fld v 8 7 }
  | 0x84 => d.updThr fun t => { t with sensIdx := fld v 0 5 }
  | _ => d

/-! ### Security and self-test (R442, R443) -/

/-- LC_REQ (R442). The key hashes that a request to PROVISIONED brings and the read-back of a burn come with no register:
free values. -/
def Device.writeLcReq (target : Nat) (d : Device) : Device :=
  let (x, d) := d.draw
  let (a, d) := d.draw
  let (b, d) := d.draw
  let ok : Bool := x % 2 == 0
  match target with
  | 1 => d.opLcManufacture
  | 2 => d.opLcProvisioned (BitVec.ofNat 512 a) (BitVec.ofNat 512 b) ok
  | 3 => d.opLcDeployed ok
  | 4 => d.opLcReturned ok
  | 5 => d.opLcScrapped ok
  | 7 => d.opLcRevoke ok
  | _ => d.countErr pgSecurity errReserved

/-- SVN_REQ from a register write: the read-back of the burn is a free value. -/
def Device.writeSvn (n : Nat) (d : Device) : Device :=
  let (x, d) := d.draw
  d.opSvn n (x % 2 == 0)

/-- The scope that a word holds (Table 19.14). -/
def scopeField (v : W32) : BitVec 9 := BitVec.ofNat 9 v.toNat

/-- The write comes with DEVICE (R397). -/
def Device.carriesDevice (d : Device) (src : Src) : Bool :=
  match src with
  | .host h => scopeDevice (d.hostScope h)
  | _ => false

def Device.writeSecurity (src : Src) (off : Nat) (v : W32) (d : Device) : Device :=
  match off with
  | 0x54 => d.writeLcReq (fld v 0 3)
  | 0x58 => d.updSec fun s => { s with lcToken := withLo v s.lcToken }
  | 0x5C => d.updSec fun s => { s with lcToken := withHi v s.lcToken }
  | 0x80 => d.writeSvn (fld v 0 7)
  | 0x88 =>
    -- one IDX register: a HASH_SEL beyond the window leaves HASH_WORD too (R427)
    d.take pgSecurity (decide (fld v 0 3 ≤ 5)) errRange fun d => d.updSec fun s => { s with hashSel := fld v 0 3, hashWord := fld v 3 4 }
  | 0x90 => d.take pgSecurity (decide (fld v 0 10 ≤ 647)) errRange fun d => d.updSec fun s => { s with devPubIdx := fld v 0 10 }
  | 0xE0 => d.updSec fun s => { s with attDest := withLo v s.attDest }
  | 0xE4 => d.updSec fun s => { s with attDest := withHi v s.attDest }
  | 0xE8 => if flag v 0 then d.opAttGo else d
  | 0xF0 => d.opHostScope 24 (scopeField v) (d.carriesDevice src)
  | 0xF4 => d.opHostScope 25 (scopeField v) (d.carriesDevice src)
  | 0xF8 => d.updSec fun s => { s with attPart := fld v 0 3, attEpoch := BitVec.ofNat 16 (fld v 16 16) }
  | 0x110 => d.updSec fun s => { s with dbgToken := withLo v s.dbgToken }
  | 0x114 => d.opUnlock none v
  | _ =>
    if 0xA0 ≤ off ∧ off < 0xE0 then
      let j := 8 * (off - 0xA0)
      d.updSec fun s => { s with attNonce := (s.attNonce &&& ~~~(BitVec.ofNat 512 (0xFFFFFFFF <<< j))) ||| BitVec.ofNat 512 (v.toNat <<< j) }
    else d

def Device.writeSelftest (off : Nat) (v : W32) (d : Device) : Device :=
  match off with
  | 0x50 => d.updSt fun t => { t with tokenAddr := withLo v t.tokenAddr }
  | 0x54 => d.opStToken v
  | 0x60 => d.take pgSelftest (decide (fld v 0 4 ≤ 13)) errReserved fun d => d.updSt fun t => { t with test := fld v 0 4 }
  | 0x64 => d.updSt fun t => { t with target := BitVec.ofNat 16 (fld v 0 16) }
  | 0x68 => if flag v 0 then d.opStGo else d
  | 0x70 => d.updSt fun t => { t with resIdx := fld v 0 10 }
  | _ => d

/-! ### The marshal mailbox (R444) -/

/-- A write of the event ring's registers (R422). -/
def EvtRing.write (off : Nat) (v : W32) (e : EvtRing) : EvtRing :=
  match off with
  | 0xC0 => { e with base := withLo v e.base }
  | 0xC4 => { e with base := withHi v e.base }
  | 0xC8 => if within 16 65536 (fld v 0 17) then { e with len := fld v 0 17 } else e
  | 0xCC => { e with cc := fld v 0 6, valid := flag v 8 }
  | 0xD0 => { e with part := fld v 0 3, epoch := BitVec.ofNat 16 (fld v 16 16) }
  | _ => e

/-- EVT_LEN outside its range is counted. -/
def evtBad (off : Nat) (v : W32) : Bool := off == 0xC8 && !within 16 65536 (fld v 0 17)

/-- DRILL_KIND and DRILL_N (R339). The register does not say which of its two effects LINK_ACK takes: a free value. -/
def Device.writeDrill (v : W32) (d : Device) : Device :=
  let n := fld v 16 16
  match fld v 0 3 with
  | 0 => d.opLinkSym n
  | 1 => let (x, d) := d.draw; d.opLinkAck n (x % 2 == 0)
  | 2 => d.opKaHold n
  | 3 => d.opLaneLoss
  | 4 => d.eccDrill 4 (2 ^ (n % 64))
  | 5 => d.eccDrill 5 5
  | 6 => d.opEccDevice n
  | _ => d.opPacerStuck

def Device.writeMailbox (off : Nat) (v : W32) (d : Device) : Device :=
  match off with
  | 0x50 => d.updMb fun m => { m with imageAddr := withLo v m.imageAddr }
  | 0x54 => d.updMb fun m => { m with imageAddr := withHi v m.imageAddr }
  | 0x58 => d.updMb fun m =>
      { m with part := fld v 0 3, mode := flag v 3, strict := flag v 4, autoStart := flag v 5, pwrAlloc := fld v 16 11 }
  | 0x5C => if flag v 0 then d.opLoadGo else d
  | 0x60 => d.updMb fun m => { m with paRegions := BitVec.ofNat 24 v.toNat }
  | 0x64 => d.updMb fun m => { m with paGroups := BitVec.ofNat 8 v.toNat, paPart := fld v 8 3 }
  | 0x68 => if flag v 0 then d.opPartGo else d
  | 0x70 => d.updSec fun s => { s with fwLen := v }
  | 0x74 => if flag v 0 then d.opFwGo else d
  | 0x80 => d.updMb fun m => { m with drillAddr := withLo v m.drillAddr }
  | 0x84 => d.opDrillAddr v
  | 0x8C => d.writeDrill v
  | 0x90 => d.updMb fun m => { m with drillTarget := withLo v m.drillTarget }
  | 0x94 => d.updMb fun m => { m with drillTarget := withHi v m.drillTarget }
  | 0xA8 => d.updMb fun m => { m with jclrTile := fld v 0 8, jclrAll := flag v 8 }
  | 0xAC => if flag v 0 then d.opJclr else d
  | _ => if evtBad off v then d.countErr pgMailbox errRange else d.updMb fun m => { m with evt := m.evt.write off v }

def Device.writeMailboxPart (k off : Nat) (v : W32) (d : Device) : Device :=
  let n := pgMailboxP k
  match off with
  | 0x50 =>
    if !flag v 0 then d
    else if d.st.waits.any fun w => match w with | .start j _ => j == k | _ => false then d.countErr n errState
    else d.start k (flag v 1)
  | 0x58 => d.updPart k fun p => { p with heatNo := v }
  | 0x60 => d.updPart k fun p => { p with tH := withLo v p.tH }
  | 0x64 => d.updPart k fun p => { p with tH := withHi v p.tH }
  | 0x70 => if flag v 0 then d.opPartReset k (flag v 1) else d
  | 0x78 => d.take n (within 18 65535 (fld v 0 16)) errRange fun d => d.updPart k fun p => { p with stallLaps := fld v 0 16 }
  | 0x7C =>
    let ok : Bool := decide (fld v 0 2 ≤ (d.part k).repairMode) || d.pacersIdle k
    d.take n ok errState fun d => d.updPart k fun p => { p with repairMode := fld v 0 2 }
  | _ => if evtBad off v then d.countErr n errRange else d.updPart k fun p => { p with evt := p.evt.write off v }

/-! ### The write -/

/-- A 32-bit write of a register of a populated page. -/
def Device.writeReg (src : Src) (n off : Nat) (v : W32) (d : Device) : Device :=
  let i := pageInstance n
  if pageType n = 0 then d
  else if off < 0x40 then d.writeHeader n off v
  else if off = 0x44 then (if flag v 0 then d.opCntClr n else d)
  else match pageType n with
  | 0x01 => if n = 0 then d.writeMailbox off v else d.writeMailboxPart (n - 1) off v
  | 0x02 => d.writeSecurity src off v
  | 0x03 => d.writeSelftest off v
  | 0x04 => d.writeTime off v
  | 0x05 => d.writeClock src off v
  | 0x06 => d.writePower off v
  | 0x07 => d.writeThermal off v
  | 0x08 => if n = 0x10 then d.writeTransport off v else d.writeTransportPart (n - 0x11) off v
  | 0x09 => if n = 0x20 then d.writeStarter off v else d.writeStarterPart src (n - 0x21) off v
  | 0x0B => d.writeRegion i off v
  | 0x0C => d.writeChan i off v
  | 0x0E => d.writePort i off v
  | 0x0F => d.writePacer i off v
  | _ => d

/-- The two words of an 8-byte write. The two scopes of HOST_SCOPE change together: what one word does to the sender's own scope binds the
units after this one (R397). -/
def Device.writePair (src : Src) (n off : Nat) (lo hi : W32) (d : Device) : Device :=
  if n = pgSecurity ∧ off = 0xF0 then d.scopeWrite (d.carriesDevice src) [(24, scopeField lo), (25, scopeField hi)]
  else (d.writeReg src n off lo).writeReg src n (off + 4) hi

/-- A host-mode unit may write a page (R397, R414): the bit of the page's partition, or DEVICE; HOST_SCOPE needs DEVICE. -/
def Device.mayWrite (d : Device) (h n : Nat) : Bool :=
  let sc := d.hostScope h
  scopeDevice sc ||
  match d.pagePart n with
  | some k => scopeHas sc k
  | none => false

/-- Register access through JTAG (Table 16.7). -/
def Device.jtagOpen (d : Device) : Bool := d.jtagPermits .registers

/-- The pages that host software may write while no firmware runs (chapter 16, Boot). -/
def bootPage (n : Nat) : Bool := n == pgMailbox || n == pgSecurity

/-- A path may write a page at all: of the ports, only one in host mode (R22, R320). -/
def Device.mayReach (d : Device) (src : Src) (n : Nat) : Bool :=
  match src with
  | .marshal => true
  | .jtag => d.jtagOpen
  | .host h => d.hostMode h && d.mayWrite h n && (d.sec.bootStatus == 2 || bootPage n)

/-- Slot and offset of a register page address (R413). -/
def pageSlot (addr : Nat) : Nat := (addr - 0x0F0000000000) / 4096
def pageOff (addr : Nat) : Nat := addr % 4096

/-- A register as JTAG reads it (Table 16.7). -/
def Device.jtagRead (addr : Nat) (d : Device) : Option W32 :=
  if d.jtagOpen then some (BitVec.ofNat 32 (d.reg (pageSlot addr) (pageOff addr))) else none

/-- A register write that arrives on a path; a write that the path may not make touches no register. -/
def Device.opRegisterWrite (src : Src) (addr : Nat) (v : W32) (d : Device) : Device :=
  if d.mayReach src (pageSlot addr) then d.writeReg src (pageSlot addr) (pageOff addr) v else d

def execRegisterWrite (src : Src) (addr : Nat) (v : W32) (s : State) : Host.Outcome State Fault Refusal :=
  .next (s.on (Device.when (decide (0x0F0000000000 ≤ addr) && addr % 4 == 0) (Device.opRegisterWrite src addr v)))

end Sys2Proof.Machine
end

