-- ==== Sys2Proof/Machine/Transport.lean ====
section
/-! DEFINITION. Received stream units (chapter 12): forwarding (R297), the checks at the destination in the order of R462, puts,
gets and their responses (R303 to R305), cells (R208, R212, R313, R326, R333, R336), and the upkeep of streams (R301, R302,
R314, R315). -/

namespace Sys2Proof.Machine

/-! ### Arrival and forwarding (R295 to R297, R320) -/

/-- Take an arrived unit out of the port or the loop. -/
def Device.takeUnit (i : Nat) (u : XUnit) (d : Device) : Device :=
  if i = 31 then d.updTr fun t => { t with loop := t.loop.erase u } else d.takeRx i u

/-- A unit for another device (R297, R301): staleness, the route, and room in the egress queue; without room it stays where it
is (R312). An unassigned device forwards nothing (R295). -/
def Device.forward (i : Nat) (u : XUnit) (d : Device) : Device :=
  if d.tr.myId = 0xFFFF then d.takeUnit i u
  else if d.stale u then (d.takeUnit i u).updTr fun t => { t with ageDiscard := satInc t.ageDiscard }
  else
    let go (j : Nat) : Device := if (d.port j).fits u then (d.takeUnit i u).updPort j (·.enqueue u) else d
    match d.routeOf u.dstId with
    | .out j => go j
    | .wait j => go j
    | .none => ((d.takeUnit i u).noRoute).reply i 5 false [] u

/-! ### The stream check (R302, R313) -/

/-- What the stream check finds: a unit accepted, with an echo due or not; discarded with STREAM_FULL; discarded. -/
inductive StreamVerdict where
  | accept (echo : Bool)
  | full
  | drop
  deriving DecidableEq, Repr

/-- Index of the destination entry of a unit's stream. -/
def Transport.dstIdx (t : Transport) (u : XUnit) : Option Nat :=
  (t.dst.find? fun e => match e.2 with
    | some s => s.srcId == u.srcId && s.dstId == u.dstId && s.dstPart == u.dstPart && s.cls == u.cls
    | none => false).map (·.1)

/-- Write a destination entry, with the echo of a marked unit (R313): at most one per ECHO_GAP. -/
def Device.putDst (j : Nat) (s : DstStream) (u : XUnit) (d : Device) : StreamVerdict × Device :=
  let now := d.clk.now
  let echo : Bool := u.ce && (match s.lastEcho with | some t => d.since t (us d.tr.echoGap) | none => true)
  let s := { s with lastUse := now, lastEcho := if echo then some now else s.lastEcho }
  (.accept echo, d.updTr fun t => { t with dst := Map.set none t.dst j (some s) })

/-- The check of R302. -/
def Device.streamCheck (u : XUnit) (d : Device) : StreamVerdict × Device :=
  match d.tr.dstIdx u with
  | none =>
    if d.tr.dst.length < 16384 then
      d.putDst (freeIndex 0 d.tr.dst) { srcId := u.srcId, dstId := u.dstId, dstPart := u.dstPart, cls := u.cls, h := u.seq, seen := 1 } u
    else (.full, d.updTr fun t => { t with streamFull := satInc t.streamFull })
  | some j =>
    match Map.get none d.tr.dst j with
    | none => (.drop, d)
    | some s =>
      let a := (u.seq - s.h).toNat
      let b := (s.h - u.seq).toNat
      if 1 ≤ a ∧ a < 2 ^ 31 then
        d.putDst j { s with h := u.seq, seen := if 1024 ≤ a then 1 else (s.seen <<< a) ||| 1 } u
      else if b ≤ 1023 ∧ !s.seen.getLsbD b then d.putDst j { s with seen := s.seen ||| BitVec.ofNat 1024 (2 ^ b) } u
      else
        let d := d.updTr fun t => { t with dst := Map.set none t.dst j (some { s with lastUse := d.clk.now }) }
        (.drop, d.updTr fun t =>
          if b ≤ 1023 ∨ u.resend then { t with dupUnit := satInc t.dupUnit } else { t with staleSeq := satInc t.staleSeq })

/-- Tell the source of a marked unit by a CNP cell (R313). -/
def Device.sendCnp (i : Nat) (u : XUnit) (d : Device) : Device := d.answer i u { kind := .cell, body := .cnp u.seq u.cls }

/-- Deliver a stream unit that has been read: to another device, or past staleness, the epoch check and the stream check, in order,
to `f` with the echo that is due (R301, R302, R318, R462). A unit with MIR set is discarded and counted unless it goes to a shadow
partition (R298, R332), and so is one that is no PUT (DESIGN CHOICE, log entry 54). -/
def Device.deliverRead (i : Nat) (u : XUnit) (f : Bool → Device → Device) (d : Device) : Device :=
  if !d.forUs i u then d.forward i u
  else
    let d := d.takeUnit i u
    if d.stale u then d.updTr fun t => { t with ageDiscard := satInc t.ageDiscard }
    else if u.dstEpoch ≠ (d.part u.dstPart).epoch then
      (d.updPart u.dstPart fun p => { p with epochDiscard := satInc p.epochDiscard }).reply i 1 false [] u
    else
      match d.streamCheck u with
      | (.accept echo, d) =>
        if u.mir && (!d.isShadow u.dstPart || u.kind != .put) then d.countErr (pgTransportP u.dstPart) errAccess else
        let acks := u.kind == .put && u.ackReq
        f (echo && acks) (if echo && !acks then d.sendCnp i u else d)
      | (.full, d) => d.reply i 6 false [] u
      | (.drop, d) => d

/-- Deliver a stream unit that has arrived on way `i`, once its words have been read (R269). A LOCAL unit is in no stream, goes no
further, and only TIME cells are taken from a neighbour (R239, R298, R320): any other is discarded. -/
def Device.deliver (i : Nat) (u : XUnit) (f : Bool → Device → Device) (d : Device) : Device :=
  if !d.arrived i u || u.planned then d
  else d.fromPool i u (if u.loc then Device.takeUnit i u else Device.deliverRead i u f)

/-! ### What a put or get may reach (R304, R397, R415, chapter 16 Boot) -/

/-- The host-mode port a unit arrived on. -/
def Device.hostOf (d : Device) (i : Nat) : Option Nat := d.viaOf i

/-- While the boot ROM waits, the units it takes from a host-mode peer. -/
def Device.bootTakes (write : Bool) (a n : Nat) (d : Device) : Bool :=
  match d.place a with
  | .reqtab o => write && decide (o + n ≤ stagingBytes) && d.sec.bootStatus != 1
  | .page s o => n == 8 && a % 8 == 0 && pageType s != 0 && (bootPage s || (!write && decide (o < 0x40)))
  | _ => false

/-- A discovery read of PG_ID in a reserved slot is answered with zeros (R413). -/
def Device.discovery (a n : Nat) (d : Device) : Bool :=
  match d.place a with
  | .page s o => pageType s == 0 && o == 0 && n == 8
  | _ => false

/-- DENIED for a register page: only host-mode units reach one, and a write needs the page's bit or DEVICE (R397). -/
def Device.pageDenied (d : Device) (host : Option Nat) (write : Bool) (s : Nat) : Bool :=
  match host with
  | none => true
  | some h => write && !d.mayWrite h s

/-- Status of a put before it writes (R462): 0 when every check passes. -/
def Device.putStatus (i : Nat) (u : XUnit) (d : Device) : Nat :=
  let host := d.hostOf i
  let bs := u.payload
  if d.sec.bootStatus ≠ 2 then
    (if host.isSome && d.bootTakes true u.addr u.len &&
        (match d.place u.addr with | .page s _ => !d.pageDenied host true s | _ => true) then 0 else 3)
  else if !d.inRange u.dstPart u.addr u.len then 2
  else
    let denied : Bool := match d.place u.addr with
      | .page s _ => d.pageDenied host true s
      | _ => d.writeDenied host u.srcId i u.dstPart u.addr bs
    if denied then 3
    else if u.dstCc = 63 ∧ d.servingPart u.dstPart then 4
    else 0

/-- Status of a get before it reads. -/
def Device.getStatus (i : Nat) (u : XUnit) (d : Device) : Nat :=
  let host := d.hostOf i
  if d.sec.bootStatus ≠ 2 then (if host.isSome && d.bootTakes false u.addr u.len then 0 else 3)
  else if host.isSome && d.discovery u.addr u.len then (if u.dstCc = 63 ∧ d.servingPart u.dstPart then 4 else 0)
  else if !d.inRange u.dstPart u.addr u.len then 2
  else
    let denied : Bool := match d.place u.addr with
      | .page s _ => d.pageDenied host false s
      | _ => d.readDenied host u.dstPart u.addr u.len
    if denied then 3
    else if u.dstCc = 63 ∧ d.servingPart u.dstPart then 4
    else 0

/-- What a refused unit counts on the page of its target (R304, R177, R64). -/
def Device.countRefused (i status : Nat) (write : Bool) (u : XUnit) (d : Device) : Device :=
  if status = 2 then d.countHoles u.addr u.len
  else if status = 3 then d.countDenied u.srcId i u.dstPart u.addr u.len (if write then some u.payload else none)
  else d

/-- A number among the failing statuses that the spec leaves open (DESIGN CHOICE, log entry 5). -/
def failStatus (x : Nat) : Nat := 1 + x % 6

/-! ### PUT (R305, R332) -/

/-- Write what a put that has passed its checks carries. -/
def Device.putWrite (i : Nat) (u : XUnit) (d : Device) : Bool × Device :=
  match d.place u.addr with
  | .page s o =>
    match d.hostOf i with
    | none => (true, d)
    | some h =>
      let lo := BitVec.ofNat 32 (leNat (u.payload.take 4))
      let hi := BitVec.ofNat 32 (leNat ((u.payload.drop 4).take 4))
      (true, d.writePair (.host h) s o lo hi)
  | .reqtab o =>
    if d.sec.bootStatus ≠ 2 then (true, d.writeStaging o u.payload)
    else d.accessWrite u.srcId i u.dstPart u.addr u.payload
  | _ => d.accessWrite u.srcId i u.dstPart u.addr u.payload

/-- A mirrored unit with a target of its own at a shadow (Table 13.2): a window slot of a port, or slot table entries. -/
def Device.mirrorTarget (u : XUnit) (d : Device) : Device :=
  let t := bits u.addr 40 8
  if t = 1 then d.fillWindow (bits u.addr 0 5) u.wslot u.payload
  else if t = 2 then
    let c := bits u.addr 0 5
    let first := bits u.addr 5 13
    let es := chunks 16 u.payload.length u.payload
    ((List.range es.length).zip es).foldl (fun d x =>
      let f (o n : Nat) : Nat := leNat ((x.2.drop o).take n)
      d.writeSlotEntry c (first + x.1)
        { listAddr := BitVec.ofNat 48 (f 0 6), pages := f 8 2, qpos := BitVec.ofNat 31 (f 12 4 % 2 ^ 31), empty := bit (f 12 4) 31 }) d
  else d

/-- A shadow keeps the source and SEQ of every put it accepts, until it has found the mirrored units of a boundary among them (R333). -/
def Device.countMirror (u : XUnit) (d : Device) : Device :=
  let k := u.dstPart
  if d.isShadow k then (d.updServing k fun v => { v with mirrored := v.mirrored ++ [(u.srcId, u.seq)] }).shadowCheck k else d

/-- A primary passes a delivered put on to its shadow (Table 13.2). -/
def Device.mirrorDelivered (u : XUnit) (d : Device) : Device :=
  let page : Bool := match d.place u.addr with | .page _ _ => true | _ => false
  if (d.part u.dstPart).shadow.role = 1 ∧ !page then d.mirrorPut u.dstPart u.addr false u.dstCc 0 u.payload else d

/-- A put that has passed the epoch and stream checks. -/
def Device.acceptPut (i : Nat) (u : XUnit) (echo : Bool) (d : Device) : Device :=
  let k := u.dstPart
  if u.mir then
    if u.dstCc = 63 ∧ d.servingPart k then d.reply i 4 echo [] u
    else ((d.mirrorTarget u).updCc k u.dstCc Cc.bump).countMirror u
  else
    let st := d.putStatus i u
    if st ≠ 0 then (d.countRefused i st true u).reply i st echo [] u
    else
      match d.putWrite i u with
      | (true, d) => (((d.updCc k u.dstCc Cc.bump).countMirror u).mirrorDelivered u).reply i 0 echo [] u
      | (false, d) =>
        let (x, d) := d.draw
        d.reply i (failStatus x) echo [] u

/-- PUT: received on a port, or looped. -/
def Device.opPut (i : Nat) (u : XUnit) (d : Device) : Device :=
  if u.kind = .put then d.deliver i u (Device.acceptPut i u) else d

def execPut (i : Nat) (u : XUnit) (s : State) : Host.Outcome State Fault Refusal :=
  .next (s.on (Device.when (isWay i) (Device.opPut i u)))

/-! ### GET and GETRSP -/

/-- Read what a get that has passed its checks asks for. -/
def Device.getRead (u : XUnit) (d : Device) : Option (List Byte) × Device :=
  match d.place u.addr with
  | .page s o =>
    if pageType s = 0 then (some (leBytes 8 0), d.countErr pgMailbox errAccess)
    else let (bs, d) := d.readPage s o; (some bs, d)
  | _ => d.accessRead u.dstPart u.addr u.len

/-- A get that has passed the epoch and stream checks. The bytes and the status of a range with an uncorrectable line are not
stated: free values. -/
def Device.acceptGet (i : Nat) (u : XUnit) (d : Device) : Device :=
  let st := d.getStatus i u
  if st ≠ 0 then (d.countRefused i st false u).reply i st false [] u
  else
    match d.getRead u with
    | (some bs, d) => (d.updCc u.dstPart u.dstCc Cc.bump).reply i 0 false bs u
    | (none, d) =>
      let (x, d) := d.draw
      let (y, d) := d.draw
      d.reply i (x % 7) false (leBytes u.len y) u

/-- GET. -/
def Device.opGet (i : Nat) (u : XUnit) (d : Device) : Device :=
  if u.kind = .get then d.deliver i u fun _ d => d.acceptGet i u else d

def execGet (i : Nat) (u : XUnit) (s : State) : Host.Outcome State Fault Refusal :=
  .next (s.on (Device.when (isWay i) (Device.opGet i u)))

/-- A GETRSP at the requester (R462): the payload of an OK status is written, or counted where it cannot be; the counter takes
the status. One that names the starter's counter writes nothing and is counted (R198; DESIGN CHOICE, log entry 54). -/
def Device.acceptGetrsp (i : Nat) (u : XUnit) (d : Device) : Device :=
  let k := u.dstPart
  let page : Bool := match d.place u.addr with | .page _ _ => true | _ => false
  if u.status ≠ 0 then d.updCc k u.dstCc (Cc.settle u.status)
  else if page || !d.inRange k u.addr u.len then
    ((d.countRefused i 2 true u).countErr pgTransport errAccess).updCc k u.dstCc (Cc.settle 2)
  else if d.writeDenied none u.srcId i k u.addr u.payload then
    ((d.countRefused i 3 true u).countErr pgTransport errAccess).updCc k u.dstCc (Cc.settle 3)
  else if u.dstCc = 63 ∧ d.servingPart k then d.countErr pgTransport errAccess
  else
    match d.accessWrite u.srcId i k u.addr u.payload with
    | (true, d) => (d.updCc k u.dstCc Cc.bump).mirrorDelivered u
    | (false, d) => d.updCc k u.dstCc (Cc.settle 2)

/-- GETRSP. -/
def Device.opGetrsp (i : Nat) (u : XUnit) (d : Device) : Device :=
  if u.kind = .getrsp then d.deliver i u fun _ d => d.acceptGetrsp i u else d

def execGetrsp (i : Nat) (u : XUnit) (s : State) : Host.Outcome State Fault Refusal :=
  .next (s.on (Device.when (isWay i) (Device.opGetrsp i u)))

/-! ### Cells -/

/-- Deliver a cell to `f`. -/
def Device.deliverCell (i : Nat) (u : XUnit) (f : Device → Device) (d : Device) : Device :=
  if u.kind = .cell then d.deliver i u fun _ d => f d else d

/-- An echo lowers the rate of the stream it names (R314). -/
def Device.slowStream (src : W16) (part cls : Nat) (d : Device) : Device :=
  match d.tr.srcIdx { kind := if cls = 0 then .put else .getrsp, dstId := src, dstPart := part } with
  | none => d
  | some j =>
    match Map.get none d.tr.src j with
    | none => d
    | some s =>
      let now := d.clk.now
      let s := { s with bucket := s.level now, bucketAt := now, rate := max (s.rate * 3 / 4) (d.tr.rMin : Rat), quietFrom := now }
      d.updTr fun t => { t with src := Map.set none t.src j (some s) }

/-- ACK (Table 12.5): the source's counter takes the status; ECHO lowers the stream's rate. -/
def Device.opAck (i : Nat) (u : XUnit) (d : Device) : Device :=
  match u.body with
  | .ack _ status echo cc => d.deliverCell i u fun d =>
      let d := d.updCc u.dstPart cc (Cc.settle status)
      if echo then d.slowStream u.srcId u.srcPart 0 else d
  | _ => d

def execAck (i : Nat) (u : XUnit) (s : State) : Host.Outcome State Fault Refusal :=
  .next (s.on (Device.when (isWay i) (Device.opAck i u)))

/-- CNP (R313, R314). -/
def Device.opCnp (i : Nat) (u : XUnit) (d : Device) : Device :=
  match u.body with
  | .cnp _ cls => d.deliverCell i u fun d => d.slowStream u.srcId u.srcPart cls
  | _ => d

def execCnp (i : Nat) (u : XUnit) (s : State) : Host.Outcome State Fault Refusal :=
  .next (s.on (Device.when (isWay i) (Device.opCnp i u)))

/-- CANCEL (R208): the starter registers it, and its result goes back to the cell's source. -/
def Device.opCancelCell (i : Nat) (u : XUnit) (d : Device) : Device :=
  match u.body with
  | .cancel r tag => d.deliverCell i u fun d => d.registerCancel r tag (some (i, u))
  | _ => d

def execCancel (i : Nat) (u : XUnit) (s : State) : Host.Outcome State Fault Refusal :=
  .next (s.on (Device.when (isWay i) (Device.opCancelCell i u)))

/-- CANCEL_RESULT: the block sends no CANCEL of its own, so one that arrives is taken and changes nothing further. -/
def Device.opCancelResult (i : Nat) (u : XUnit) (d : Device) : Device :=
  match u.body with
  | .cancelResult _ _ _ => d.deliverCell i u id
  | _ => d

def execCancelResult (i : Nat) (u : XUnit) (s : State) : Host.Outcome State Fault Refusal :=
  .next (s.on (Device.when (isWay i) (Device.opCancelResult i u)))

/-- SLOT_SET (R212), taken by the starter of DST_PART. -/
def Device.opSlotSet (i : Nat) (u : XUnit) (d : Device) : Device :=
  match u.body with
  | .slotSet _ slot r qpos occ st nin step => d.deliverCell i u (Device.applySlotSet u.dstPart slot r qpos occ st nin step)
  | _ => d

def execSlotSet (i : Nat) (u : XUnit) (s : State) : Host.Outcome State Fault Refusal :=
  .next (s.on (Device.when (isWay i) (Device.opSlotSet i u)))

/-- STEP_DONE (R212). -/
def Device.opStepDone (i : Nat) (u : XUnit) (d : Device) : Device :=
  match u.body with
  | .stepDone _ count step => d.deliverCell i u (Device.applyStepDone u.dstPart count step)
  | _ => d

def execStepDone (i : Nat) (u : XUnit) (s : State) : Host.Outcome State Fault Refusal :=
  .next (s.on (Device.when (isWay i) (Device.opStepDone i u)))

/-- HEAT_ABORT at the marshal (R326): a cell that is not of the partition's heat is counted; a member that runs aborts with cause 0x04, and
one that has not begun is not running (R113); both pass the cell on once; later cells cause nothing further. -/
def Device.takeHeatAbort (k : Nat) (no : W32) (pcid : W16) (cause : Byte) (d : Device) : Device :=
  let r := (d.part k).run
  if !r.heat ∨ no ≠ r.heatNo then d.updPart k fun p => { p with heatDiscard := satInc p.heatDiscard }
  else if (r.phase == .running || r.phase == .starting) && r.abort.isNone && !r.relayed then
    ((d.updRun k fun r => { r with relayed := true }).registerAbort k 4 0).heatFanout k no pcid cause
  else d

def Device.opHeatAbort (i : Nat) (u : XUnit) (d : Device) : Device :=
  match u.body with
  | .heatAbort no pcid cause => d.deliverCell i u (Device.takeHeatAbort u.dstPart no pcid cause)
  | _ => d

def execHeatAbort (i : Nat) (u : XUnit) (s : State) : Host.Outcome State Fault Refusal :=
  .next (s.on (Device.when (isWay i) (Device.opHeatAbort i u)))

/-- MIRROR_DONE at a shadow's starter (R333). -/
def Device.opMirrorDone (i : Nat) (u : XUnit) (d : Device) : Device :=
  match u.body with
  | .mirrorDone step count => d.deliverCell i u (Device.applyMirrorDone u.dstPart step count u.srcId u.seq)
  | _ => d

def execMirrorDone (i : Nat) (u : XUnit) (s : State) : Host.Outcome State Fault Refusal :=
  .next (s.on (Device.when (isWay i) (Device.opMirrorDone i u)))

/-! ### The photo finish (R335, R336) -/

/-- Compare the two digests of a plan lap at whose end the commit pacer's bib was `b` (R336). -/
def Device.comparePf (k lap : Nat) (own peer : W64) (b : W32) (d : Device) : Device :=
  if own = peer then
    let was := (d.part k).shadow.qualified
    let d := d.updShadow k fun s =>
      { s with matches_ := satInc s.matches_, run := s.run + 1, qualified := s.qualified || decide (s.qual ≤ s.run + 1) }
    if !was && (d.part k).shadow.qualified then d.setIntBit (pgTransportP k) 2 else d
  else
    (d.updShadow k fun s =>
      { s with misses := satInc s.misses, run := 0, qualified := false,
               firstLap := if s.firstLap = 0xFFFFFFFF then BitVec.ofNat 32 lap else s.firstLap,
               firstBib := if s.firstLap = 0xFFFFFFFF then b else s.firstBib }).setIntBit (pgTransportP k) 1

/-- A digest that has arrived, against the shadow's own, or held until that is there; without room it is dropped. -/
def Device.takeDigestCell (k : Nat) (no lap : W32) (ld : W64) (d : Device) : Device :=
  let p := d.part k
  let s := p.shadow
  if s.role ≠ 2 ∨ no ≠ p.run.heatNo then d
  else match s.own.find? fun x => x.1 == lap.toNat with
    | some x => (d.updShadow k fun s => { s with own := s.own.erase x }).comparePf k lap.toNat x.2.1 ld x.2.2
    | none =>
      if 256 ≤ s.own.length + s.peer.length then d.updShadow k fun s => { s with drop := satInc s.drop }
      else d.updShadow k fun s => { s with peer := s.peer ++ [(lap.toNat, ld)] }

/-- PF_DIGEST at the marshal of the shadow. -/
def Device.opPfDigest (i : Nat) (u : XUnit) (d : Device) : Device :=
  match u.body with
  | .pfDigest no lap ld => d.deliverCell i u (Device.takeDigestCell u.dstPart no lap ld)
  | _ => d

def execPfDigest (i : Nat) (u : XUnit) (s : State) : Host.Outcome State Fault Refusal :=
  .next (s.on (Device.when (isWay i) (Device.opPfDigest i u)))

/-- The current plan lap of a primary or shadow has ended (R335): holds are excluded. -/
def Device.planLapOver (d : Device) (k : Nat) : Bool :=
  match (d.part k).image with
  | none => false
  | some im =>
    match d.planCyc k (pacerRegion im.commitPacer) with
    | none => false
    | some c => decide ((d.part k).run.startCyc + 65536 * ((d.part k).shadow.planLap + 1) ≤ c)

/-- The end of a plan lap: its digest is kept; a primary sends it to its shadow; a shadow compares it or holds it. -/
def Device.opPlanLap (k : Nat) (d : Device) : Device :=
  let p := d.part k
  let s := p.shadow
  if s.role = 0 ∨ p.run.phase != .running ∨ !d.planLapOver k then d
  else
    let n := s.planLap
    let ld := d.lapDigest k n
    let d := d.updShadow k fun s => { s with planLap := n + 1, digests := s.digests ++ [ld] }
    if s.role = 1 then d.sendCell k s.peerDev s.peerPart s.epoch (.pfDigest p.run.heatNo (BitVec.ofNat 32 n) ld)
    else match s.peer.find? fun x => x.1 == n with
      | some x => (d.updShadow k fun s => { s with peer := s.peer.erase x }).comparePf k n ld x.2 (d.commitBib k)
      | none =>
        if 256 ≤ s.own.length + s.peer.length then d.updShadow k fun s => { s with drop := satInc s.drop }
        else d.updShadow k fun s => { s with own := s.own ++ [(n, ld, d.commitBib k)] }

def execPlanLapEnd (k : Nat) (s : State) : Host.Outcome State Fault Refusal :=
  .next (s.on (Device.when (isPart k) (Device.opPlanLap k)))

/-! ### Upkeep (R301, R302, R314, R315) -/

/-- LIFETIME in TKCLK ticks (R301): units of 4.096 µs. -/
def Transport.lifeTicks (t : Transport) : Nat := ns (4096 * t.lifetime)

/-- Units that waited for a source entry are numbered as far as entries are free (R302). -/
def Device.admitUnnumbered (d : Device) : Device :=
  let ws := d.tr.unnumbered
  ws.foldl (fun d x =>
    if (d.tr.srcIdx { x.2 with srcId := d.tr.myId }).isSome || decide (d.tr.src.length < 16384) then d.originateStamped x.1 x.2
    else d.updTr fun t => { t with unnumbered := t.unnumbered ++ [x] }) (d.updTr fun t => { t with unnumbered := [] })

/-- An idle stream entry is freed (R302): a source entry after 4 × LIFETIME, a destination entry after 2 × LIFETIME. -/
def Device.opStreamExpiry (source : Bool) (j : Nat) (d : Device) : Device :=
  let life := d.tr.lifeTicks
  if source then
    match Map.get none d.tr.src j with
    | some s =>
      if d.since s.lastUse (4 * life) then (d.updTr fun t => { t with src := Map.set none t.src j none }).admitUnnumbered else d
    | none => d
  else
    match Map.get none d.tr.dst j with
    | some s => if d.since s.lastUse (2 * life) then d.updTr fun t => { t with dst := Map.set none t.dst j none } else d
    | none => d

def execStreamEntryExpiry (source : Bool) (idx : Nat) (s : State) : Host.Outcome State Fault Refusal :=
  .next (s.on (Device.opStreamExpiry source idx))

/-- A RECOVER period without an echo (R314). -/
def Device.opRateRecover (j : Nat) (d : Device) : Device :=
  match Map.get none d.tr.src j with
  | none => d
  | some s =>
    let now := d.clk.now
    if s.cls = 0 ∧ d.since s.quietFrom (us d.tr.recover) then
      let s := { s with bucket := s.level now, bucketAt := now, quietFrom := now, rate := min (s.rate + (d.tr.rStep : Rat)) (d.tr.rMax : Rat) }
      d.updTr fun t => { t with src := Map.set none t.src j (some s) }
    else d

def execRateRecover (idx : Nat) (s : State) : Host.Outcome State Fault Refusal := .next (s.on (Device.opRateRecover idx))

/-- A waiting unit has become stale (R301, R315, R332): entry `j` of a port's queues, or, for way 31, of the units
that wait for room or for a source entry. -/
def Device.opUnitStale (i j : Nat) (d : Device) : Device :=
  if i = 31 then
    let n := d.tr.waiting.length
    match (d.tr.waiting.map (·.2) ++ d.tr.unnumbered.map (·.2))[j]? with
    | some u =>
      if d.stale u then
        (d.updTr fun t => if j < n then { t with waiting := t.waiting.eraseIdx j } else
          { t with unnumbered := t.unnumbered.eraseIdx (j - n) }).dropStale u
      else d
    | none => d
  else
    let p := d.port i
    match (p.resent ++ p.egReq ++ p.egRsp ++ p.planned)[j]? with
    | some u => if d.stale u then (d.updPort i (·.remove u)).dropStale u else d
    | none => d

def execUnitStale (i idx : Nat) (s : State) : Host.Outcome State Fault Refusal :=
  .next (s.on (Device.when (isWay i) (Device.opUnitStale i idx)))

end Sys2Proof.Machine
end

