-- ==== Sys2Proof/Machine/Image.lean ====
section
/-! DEFINITION. Plan images (R170 to R172, Tables 7.1 to 7.4) and what the load gate decides from the image's bytes alone:
MALFORMED, and the formats and bibs of descriptors (R15, R40, R93, R96, R461, Tables 2.5, 7.5). -/

namespace Sys2Proof.Machine

/-! ### Violations (R178) -/

/-- A violation of a rule as the load result record names it (Table 7.7). -/
structure Viol where
  cyc : Option Nat := none
  unit : Nat := 0xFFFF
  /-- family × 256 + number (Table 7.7, COND) -/
  cond : Nat := 0
  seq : Nat := 0
  stride : Nat := 0xFFFF
  bib : Nat := 0
  phys : Nat := 0xFFFF
  deriving DecidableEq, Repr

/-- Condition codes by family (Table 7.7). -/
def tpc (n : Nat) : Nat := 0x100 + n
def npc (n : Nat) : Nat := 0x200 + n
def bpc (n : Nat) : Nat := 0x300 + n
def dpc (n : Nat) : Nat := 0x400 + n
def psc (n : Nat) : Nat := 0x500 + n

/-- The keys of R178 in order: no cycle before every cycle, then the cycle, the unit and the condition. -/
def Viol.key (v : Viol) : List Nat := [match v.cyc with | none => 0 | some c => c + 1, v.unit, v.cond]

/-- Strict order of keys. -/
def keyLt : List Nat → List Nat → Bool
  | a :: as, b :: bs => decide (a < b) || (a == b && keyLt as bs)
  | _, _ => false

/-- The violation a rule reports: the least key, the first of equal ones. -/
def firstViol (vs : List Viol) : Option Viol :=
  vs.foldl (fun m v => match m with
    | none => some v
    | some w => if keyLt v.key w.key then some v else some w) none

/-! ### Header and manifest -/

/-- An image as one little-endian number. -/
abbrev Img := Nat

/-- `n` bytes at offset `off` (R8). -/
def u (m : Img) (off n : Nat) : Nat := bits m (8 * off) (8 * n)

/-- The header (Table 7.1). -/
structure Hdr where
  magic : Nat
  hdrSize : Nat
  gen : Nat
  isa : Nat
  size : Nat
  redSig : Nat
  tprof : Nat
  modes : Nat
  ops : Nat
  kindfl : Nat
  vgx : Nat
  vgy : Nat
  nchg : Nat
  pin : Nat
  commit : Nat
  slots : Nat
  period : Nat
  first : Nat
  manOff : Nat
  manCount : Nat
  cplBase : Nat
  traceBase : Nat
  captureBase : Nat
  modelId : Nat
  measurement : Nat
  /-- every reserved field of the header as one number -/
  reserved : Nat
  deriving DecidableEq, Repr

def hdrOf (m : Img) : Hdr :=
  { magic := u m 0 4, hdrSize := u m 4 2, gen := bits (u m 6 1) 0 4, isa := u m 8 4, size := u m 0x10 8, redSig := u m 0x18 8,
    tprof := u m 0x20 1, modes := u m 0x21 1, ops := u m 0x22 1, kindfl := u m 0x23 1, vgx := u m 0x24 1, vgy := u m 0x25 1,
    nchg := u m 0x26 1, pin := u m 0x27 1, commit := u m 0x28 2, slots := u m 0x2A 2, period := u m 0x30 8, first := u m 0x38 8,
    manOff := u m 0x40 8, manCount := u m 0x48 4, cplBase := u m 0x50 8, traceBase := u m 0x58 8, captureBase := u m 0x60 8,
    modelId := u m 0x68 8, measurement := u m 0xC0 64,
    reserved := bits (u m 6 1) 4 4 + u m 7 1 + u m 0xC 4 + bits (u m 0x21 1) 2 6 + bits (u m 0x22 1) 3 1 + bits (u m 0x22 1) 7 1 +
      bits (u m 0x23 1) 2 6 + bits (u m 0x27 1) 6 2 + u m 0x2C 4 + u m 0x4C 4 + u m 0x70 0x50 }

def Hdr.opDecl (h : Hdr) : Nat := bits h.ops 0 3
def Hdr.opMin (h : Hdr) : Nat := bits h.ops 4 3
def Hdr.serving (h : Hdr) : Bool := bit h.kindfl 0
def Hdr.frame (h : Hdr) : Bool := bit h.kindfl 1
def Hdr.pinned (h : Hdr) : Bool := bit h.pin 0
def Hdr.tpA1 (h : Hdr) : Bool := h.tprof == 1
/-- Virtual channels the image uses (R172). -/
def Hdr.nchan (h : Hdr) : Nat := 3 * h.nchg

/-- A manifest entry (Table 7.2). -/
structure ManE where
  typ : Nat
  seq : Nat
  unit : Nat
  last : Nat
  rep : Nat
  rsvd : Nat
  off : Nat
  size : Nat
  dest : Nat
  deriving DecidableEq, Repr

def manEntry (m : Img) (h : Hdr) (i : Nat) : ManE :=
  let b := h.manOff + 32 * i
  { typ := u m b 1, seq := u m (b + 1) 1, unit := u m (b + 2) 2, last := u m (b + 4) 1, rep := u m (b + 5) 1, rsvd := u m (b + 6) 2,
    off := u m (b + 8) 8, size := u m (b + 16) 8, dest := u m (b + 24) 8 }

def manifest (m : Img) (h : Hdr) : List ManE := (List.range h.manCount).map (manEntry m h)

/-- A virtual unit identity inside the grid (Table 7.3). -/
def Hdr.unitOk (h : Hdr) (v : Nat) : Bool :=
  if v < 192 then decide (v % 16 < h.vgx) && decide (v / 16 < h.vgy)
  else (256 ≤ v && v < 256 + h.nchan) || (320 ≤ v && v < 320 + h.nchan) || (384 ≤ v && v < 410)

/-- The virtual unit at a route destination of an image route word (Table 7.4). -/
def destUnit (r : Route) : Nat :=
  if r.y < 12 then 16 * r.y + r.x
  else if r.y = 12 then (if r.sink = 1 then 320 + r.x else 256 + r.x)
  else if r.y = 13 then 384 + r.x
  else if r.x = 0 then 408 else 409

/-- A destination that Table 7.4 defines and the image's grid holds. -/
def Hdr.destOk (h : Hdr) (r : Route) : Bool :=
  if r.y < 12 then decide (r.x < h.vgx) && decide (r.y < h.vgy)
  else if r.y = 12 then decide (r.x < h.nchan)
  else if r.y = 13 then decide (r.x < 24)
  else r.y == 14 && (r.x == 0 || r.x == 2)

/-! ### Bank pairs -/

/-- A bank pair of a virtual unit (R171): its descriptors and strides. -/
structure PairT where
  unit : Nat
  seq : Nat
  descs : Array Cfg
  strides : Array Stride
  last : Bool
  rep : Nat

/-- Descriptors of a descriptor bank entry. -/
def descsOf (m : Img) (e : ManE) : Array Cfg :=
  ((List.range (e.size / 256)).map fun i => (BitVec.ofNat 2048 (u m (e.off + 256 * i) 256) : Cfg)).toArray

/-- Strides of a stride table bank entry. -/
def stridesOf (m : Img) (e : ManE) : Array Stride :=
  ((List.range (e.size / 16)).map fun i => (BitVec.ofNat 128 (u m (e.off + 16 * i) 16) : Stride)).toArray

/-- The bank pairs of a manifest: a descriptor bank with the stride table bank of its UNIT and SEQ. -/
def pairsOf (m : Img) (es : List ManE) : List PairT :=
  (es.filter (·.typ == 1)).filterMap fun a =>
    (es.find? fun b => b.typ == 2 && b.unit == a.unit && b.seq == a.seq).map fun b =>
      { unit := a.unit, seq := a.seq, descs := descsOf m a, strides := stridesOf m b, last := b.last == 1, rep := b.rep }

/-- Units that have a pair, in ascending order. -/
def pairUnits (ps : List PairT) : List Nat := (List.range 410).filter fun v => ps.any fun p => p.unit == v

/-! ### MALFORMED: header and manifest (R170, R171, R461) -/

/-- The header alone: what R170 asks before any other byte is read, for an image at address `a` in a partition area that
ends `room` bytes after `a`. -/
def hdrOk (h : Hdr) (room : Nat) : Bool :=
  h.magic == 0x314C5854 && h.hdrSize == 0x100 && h.size % 64 == 0 && decide (256 ≤ h.size) && decide (h.size ≤ 2 ^ 32) &&
  decide (h.size ≤ room) && h.manOff % 64 == 0 && decide (256 ≤ h.manOff) && decide (1 ≤ h.manCount) && decide (h.manCount ≤ 65536) &&
  decide (h.manOff + 32 * h.manCount ≤ h.size)

/-- The header's own fields (Table 7.1). -/
def hdrFieldsOk (h : Hdr) : Bool :=
  h.reserved == 0 && decide (h.opDecl ≤ 4) && decide (h.opMin ≤ 4) && decide (h.opDecl ≤ h.opMin) &&
  h.vgx % 2 == 0 && decide (2 ≤ h.vgx) && decide (h.vgx ≤ 16) && (h.vgy == 4 || h.vgy == 8 || h.vgy == 12) &&
  decide (1 ≤ h.nchg) && decide (h.nchg ≤ 8) && decide (bits h.pin 4 2 < 3) && h.unitOk h.commit &&
  (if h.serving then decide (1 ≤ h.slots) && decide (h.slots ≤ 8192) else h.slots == 0) &&
  ((h.period != 0) == h.frame) && h.first == 0

/-- One manifest entry (Table 7.2, R461). -/
def manEntryOk (h : Hdr) (e : ManE) : Bool :=
  let bank := e.typ == 1 || e.typ == 2
  1 ≤ e.typ && e.typ ≤ 7 && e.rsvd == 0 && e.off % 64 == 0 && decide (e.off + e.size ≤ h.size) &&
  (if bank then decide (e.seq < 255) && decide (e.last < 2) && h.unitOk e.unit else e.seq == 0 && e.last == 0) &&
  (if e.typ == 3 then h.unitOk e.unit && decide (e.unit < 192) else bank || e.unit == 0) &&
  (e.typ == 3 || e.typ == 4 || e.dest == 0) &&
  (if e.typ == 1 then e.size % 256 == 0 && decide (e.size ≤ 16384)
   else if e.typ == 2 then e.size % 16 == 0 && decide (e.size ≤ 32768)
   else if e.typ == 3 then e.size % 8 == 0 && e.dest % 8 == 0 && decide (e.dest + e.size ≤ 0x800000)
   else true)

/-- Two ranges that share a byte. -/
def overlap (a n b k : Nat) : Bool := decide (0 < n) && decide (0 < k) && decide (a < b + k) && decide (b < a + n)

/-- Entries whose regions overlap an earlier entry's, the header or the manifest array (R171). -/
def overlapping (h : Hdr) : List ManE → List ManE → List ManE
  | _, [] => []
  | before, e :: t =>
    (if overlap e.off e.size 0 256 || overlap e.off e.size h.manOff (32 * h.manCount) ||
        before.any (fun b => overlap e.off e.size b.off b.size) then [e] else []) ++ overlapping h (e :: before) t

/-- The load sequence of one unit (R171): from SEQ 0 without gaps up to the one pair marked LAST, each pair one descriptor
bank and one table bank with equal LAST, and the final pair's REPEAT_TO a SEQ of the sequence or none. -/
def sequenceOk (es : List ManE) (v : Nat) : Bool :=
  let ds := es.filter fun e => e.typ == 1 && e.unit == v
  let ts := es.filter fun e => e.typ == 2 && e.unit == v
  let n := ts.length
  ds.length == n && decide (0 < n) && (List.range n).all fun q =>
    match ds.filter (·.seq == q), ts.filter (·.seq == q) with
    | [a], [b] =>
      a.last == b.last && ((b.last == 1) == (q + 1 == n)) &&
      (q + 1 != n || (a.rep == b.rep && (b.rep == 0xFF || decide (b.rep < n))))
    | _, _ => false

/-- The power profile (R171). -/
def profileOk (m : Img) (e : ManE) : Bool :=
  let w := u m e.off 8
  let nc := bits w 0 8
  let ns := bits w 8 9
  8 ≤ e.size && decide (1 ≤ nc) && decide (nc ≤ 16) && decide (1 ≤ ns) && decide (ns ≤ 256) && bits w 25 39 == 0 &&
  decide (bits w 17 8 < ns) && decide (8 + 4 * nc + 4 * ns ≤ e.size) &&
  (List.range ns).all fun i =>
    let s := u m (e.off + 8 + 4 * nc + 4 * i) 4
    bits s 4 4 == 0 && decide (bits s 0 4 < nc) && decide (1 ≤ bits s 8 24)

/-- Reserved bits of the initial slot table's entries (R130). -/
def slotTableOk (m : Img) (e : ManE) : Bool :=
  e.size % 16 == 0 && decide (e.size ≤ 24 * 8192 * 16) &&
  (List.range (e.size / 16)).all fun i => u m (e.off + 16 * i + 6) 2 == 0 && u m (e.off + 16 * i + 10) 2 == 0

/-- What the manifest as a whole holds (R171). -/
def manifestViols (m : Img) (h : Hdr) (es : List ManE) : List Viol :=
  let one (t : Nat) : Bool := (es.filter (·.typ == t)).length == 1
  let unitOf (e : ManE) : Nat := if 1 ≤ e.typ ∧ e.typ ≤ 3 then e.unit else 0xFFFF
  let v (e : ManE) : Viol := { unit := unitOf e, seq := if e.typ < 3 then e.seq else 0 }
  let units := (List.range 65536).filter fun v => es.any fun e => (e.typ == 1 || e.typ == 2) && e.unit == v
  (es.filter fun e => !manEntryOk h e).map v ++
  (overlapping h [] es).map v ++
  (units.filter fun x => !sequenceOk es x).map (fun x => ({ unit := x } : Viol)) ++
  (if one 5 && one 6 && decide ((es.filter (·.typ == 7)).length ≤ if h.serving then 0 else 1) then [] else [({} : Viol)]) ++
  (if (es.filter (·.typ == 6)).all (profileOk m) && (es.filter (·.typ == 7)).all (slotTableOk m) then [] else [({} : Viol)])

/-! ### MALFORMED: descriptors and strides (R15, R91 to R93) -/

/-- The value of a descriptor's reserved fields (Tables 4.9 to 4.11, 5.7, 6.5, 12.7). -/
def Cfg.reserved (c : Cfg) (kind : Nat) : Nat :=
  let f := c.field
  let sum (l : List Nat) : Nat := l.foldl (· + ·) 0
  f 4 16 16 + f 8 0 64 +
  (if kind = 1 then
    f 0x10 28 4 + sum ((List.range 8).map fun g => f (0x14 + 2 * g) 14 1) +
    sum ((List.range 10).map fun i => f (0x24 + 12 * i) 17 3 + f (0x28 + 12 * i) 18 14 + f (0x2C + 12 * i) 18 14) +
    f 0xDC 3 29 + f 0xE0 0 256
  else if kind = 2 then f 0x10 13 19 + f 0x18 13 19 + f 0x1C 24 8 + f 0x20 16 16 + f 0xA4 3 29 + f 0xA8 0 704
  else if kind = 3 then sum ((List.range 8).map fun i => f (0x14 + 16 * i) 1 19) + f 0xD0 3 29 + f 0xD4 0 352
  else sum ((List.range 16).map fun i => f (0x10 + 4 * i) 20 12) + f 0x90 3 29 + f 0x94 0 864)

/-- The sixteen route words of a descriptor. -/
def Cfg.routes (c : Cfg) (unit : Nat) : List Nat := (List.range 16).map (c.route unit)

/-- A route word in an image (Table 4.13, R172); of a word whose VALID is clear, X, Y and SINK are not looked at (DESIGN CHOICE, log entry
47). -/
def Hdr.routeOk (h : Hdr) (w : Nat) : Bool :=
  let r := routeFields w
  bits w 25 7 == 0 && r.pad == 0 && (!r.valid || (h.destOk r && (r.sink == 0 || r.y == 12)))

/-- A descriptor's encodings (R15, R93). -/
def Hdr.descOk (h : Hdr) (unit : Nat) (c : Cfg) : Bool :=
  let kind := pacerKind unit
  c.kind == kind && c.field 4 4 4 == 0 && c.field 4 8 8 == 1 && c.reserved kind == 0 &&
  (if kind = 1 then c.sfmt != 15 && c.rfmt != 15
   else if kind = 2 then c.qfmt != 15 && c.kfmt != 15 && c.vfmt != 15 && decide (1 ≤ c.nlayer) && decide (1 ≤ c.nkv) && decide (c.nkv ≤ 16)
   else true) &&
  (c.routes unit).all h.routeOk

/-- Operand bits that an operation names (Tables 4.5, 4.6, 5.3, 6.4, 12.6): none where the code is not the unit's (R91). -/
def opndBits (kind op : Nat) : Option Nat :=
  let low (n : Nat) : Option Nat := some (2 ^ n - 1)
  if op ≤ 0x0A then
    (if op = 0x03 then low 27 else if op = 0x04 then low 61 else if op = 0x05 then low 11 else if op = 0x0A then low 16 else low 0)
  else match kind, op with
    | 1, 0x10 => low 38 | 1, 0x11 => low 28 | 1, 0x12 => low 55 | 1, 0x13 => low 17
    | 1, 0x14 => low 17 | 1, 0x15 => low 7 | 1, 0x16 => low 35 | 1, 0x17 => low 12
    | 2, 0x20 => low 19 | 2, 0x21 => low 53 | 2, 0x22 => low 0 | 2, 0x23 => low 17
    | 3, 0x28 => low 26 | 3, 0x29 => some (2 ^ 26 - 1 - 0x3E0) | 3, 0x2A => low 0
    | 4, 0x30 => low 21 | 4, 0x31 => low 15 | 4, 0x32 => low 60
    | _, _ => none

/-- Field values of an operand that its table defines (R15, R91, R92, R102): a SETCMP of source 0 names one of the eight loop counters. -/
def opndOk (op o : Nat) : Bool :=
  match op with
  | 0x04 => decide (bits o 56 2 < 2) && (bits o 48 2 != 0 || decide (bits o 50 6 < 8))
  | 0x10 => let f := rdbFields o; decide (f.dest < 5) && f.fmt != 15 && (f.dest != 4 || (maskList 8 f.chmask).length == 2)
  | 0x11 =>
    let f := wrbFields o
    decide (f.src < 3) && f.fmt != 15 && (f.src != 0 || f.chmask == 3) &&
    (f.src != 1 || (((f.fmt != 0 && !fmtMx f.fmt) || (!f.rz && !f.nonsat)) && (fmtMx f.fmt || !f.scales)))
  | 0x14 => decide ((readoutFields o).fmt < 3)
  | 0x16 =>
    let f := vopFields o
    decide (f.subop < 14) && f.fmt != 15 && (f.subop != 9 || (decide (1 ≤ f.fmt) && decide (f.fmt ≤ 8))) && (f.subop != 10 || fmtMx f.fmt)
  | 0x28 => let f := dramFields o; decide (f.asrc < 2) && (f.asrc == 0 || f.dest == 0)
  | 0x29 => decide ((dramFields o).asrc < 2)
  | _ => true

/-- Reserved bits of a loop or wait field (Table 4.4). -/
def lwOk (x : Nat) : Bool :=
  match bits x 0 2 with
  | 0 => x == 0
  | 1 => bits x 17 15 == 0
  | 2 => bit x 5 == false && bits x 17 15 == 0
  | _ => bits x 24 8 == 0

/-- A stride's encodings (R15, R88, R91, R461). -/
def strideOk (p : PairT) (w : Stride) : Bool :=
  bits w.toNat 28 4 == 0 && lwOk w.lw &&
  (if w.op = 1 then decide (w.dref < p.descs.size) else w.dref == 0) &&
  (match opndBits (pacerKind p.unit) w.op with
   | none => false
   | some msk => Nat.lor w.opnd msk == msk && opndOk w.op w.opnd)

/-- STRIDE of a record (Table 7.7): index and bank letter, banks alternating along the sequence. -/
def strideCode (bank : Bool) (idx : Nat) : Nat := idx + 2048 * b2n bank

/-- Violations of descriptors that a check finds. -/
def descViols (ps : List PairT) (cond : Nat) (bad : PairT → Cfg → Bool) : List Viol :=
  (ps.map fun p => (p.descs.toList.filter (bad p)).map fun c =>
    ({ unit := p.unit, seq := p.seq, cond := cond, bib := (Cfg.bib c).toNat } : Viol)).flatten

/-- Strides of a pair with their indices. -/
def PairT.indexed (p : PairT) : List (Nat × Stride) := (List.range p.strides.size).zip p.strides.toList

/-- Violations of strides, found without a schedule. -/
def strideViols (ps : List PairT) (cond : Nat) (bad : PairT → Nat → Stride → Bool) : List Viol :=
  (ps.map fun p => (p.indexed.filter fun x => bad p x.1 x.2).map fun x =>
    ({ unit := p.unit, seq := p.seq, cond := cond, stride := strideCode (p.seq % 2 == 1) x.1 } : Viol)).flatten

/-- MALFORMED beyond the header's first checks (Table 7.5). -/
def malformed (m : Img) (h : Hdr) (es : List ManE) (ps : List PairT) : List Viol :=
  (if hdrFieldsOk h then [] else [({} : Viol)]) ++ manifestViols m h es ++
  descViols ps 0 (fun p c => !h.descOk p.unit c) ++ strideViols ps 0 (fun p _ w => !strideOk p w)

/-! ### Formats and bibs of descriptors (R40, R96, Table 2.5, BPC-8, BPC-9, PSC-10) -/

/-- A permitted pairing: none at all, BF16 with BF16, float with float, or integer with integer (Table 2.5). -/
def pairingOk (sf rf : Nat) : Bool :=
  (sf == 0 && rf == 0) || (sf == 1 && rf == 1) || (2 ≤ sf && sf ≤ 14 && 2 ≤ rf && rf ≤ 14 && fmtInt sf == fmtInt rf)

/-- An integer pairing without an MX operand (R48). -/
def plainInt (sf rf : Nat) : Bool := fmtInt sf && fmtInt rf && !fmtMx sf && !fmtMx rf && sf != 0 && rf != 0

def eightBit (f : Nat) : Bool := f == 2 || f == 3

/-- FORMAT_PAIRING of descriptors. That MX blocks lie along the reduction dimension (R35) shows in no field of an image, and nothing is
checked of it (DESIGN CHOICE, log entry 47). -/
def pairingViols (ps : List PairT) : List Viol :=
  let tile (p : PairT) : Bool := decide (p.unit < 192)
  let bme (p : PairT) : Bool := decide (256 ≤ p.unit) && decide (p.unit < 320)
  descViols ps 0 (fun p c => tile p && !pairingOk c.sfmt c.rfmt) ++
  descViols ps (psc 10) (fun p c => tile p && !fmtMx c.sfmt && !fmtMx c.rfmt && c.anchor != 0) ++
  descViols ps (bpc 8) (fun p c => bme p &&
    !(((eightBit c.qfmt && eightBit c.kfmt) || (c.qfmt == 1 && c.kfmt == 1)) && (c.vfmt == 1 || eightBit c.vfmt))) ++
  descViols ps (bpc 9) (fun p c => bme p && decide (64 * c.blockLines < 256 * (c.kbytes + c.vbytes)))

/-- BIB_UNIQUE (R96). -/
def bibViols (ps : List PairT) : List Viol := descViols ps 0 fun _ c => c.bib == 0 || c.bib == 0xFFFFFFFF

end Sys2Proof.Machine
end

