-- ==== Sys2Proof/Machine/Sched.lean ====
section
/-! DEFINITION. Stepping a schedule in virtual terms (R78, R89 to R101, R107, R120): the issues of every pacer with loop
counts as written, waits at their due cycles and SWAPs as finding BANK_READY set; loops without end are stepped until the
schedule repeats (DEDUCED, log entry 30). -/

namespace Sys2Proof.Machine

/-- One issue of an operation: issue `k` of its stride, stride number `ord` of its pacer, in cycle `cyc` counted from S. -/
structure Ev where
  cyc : Nat := 0
  ord : Nat := 0
  unit : Nat := 0
  seq : Nat := 0
  bank : Bool := false
  idx : Nat := 0
  w : Stride := 0
  k : Nat := 0
  cfg : Cfg := 0
  deriving Repr

def Ev.op (e : Ev) : Nat := Stride.op e.w
def Ev.o (e : Ev) : Nat := Stride.opnd e.w

/-- The violation of a condition by an issue, at a cycle. -/
def Ev.viol (e : Ev) (cond cyc : Nat) : Viol :=
  { cyc := some cyc, unit := e.unit, cond := cond, seq := e.seq, stride := strideCode e.bank e.idx, bib := (Cfg.bib e.cfg).toNat }

/-! ### Loop structure (R101, PSC-4), from the tables alone -/

/-- The loop that begins at stride `i`: counter and end stride. -/
def PairT.loopAt (p : PairT) (i : Nat) : Option (Nat × Nat) :=
  match lwDecode (Stride.lw (p.strides.getD i 0)) with
  | .loopBegin c _ e => some (c, e)
  | _ => none

/-- Loops of a pair: begin, end, counter. -/
def PairT.loops (p : PairT) : List (Nat × Nat × Nat) :=
  (List.range p.strides.size).filterMap fun i => (p.loopAt i).map fun x => (i, x.2, x.1)

/-- The stride at index `i` breaks R101: a begin or end that its partner does not name, overlap without nesting, a counter
of an enclosing loop, more than eight loops open, or a SWAP within a loop, its own begin and end strides included. -/
def PairT.badLoop (p : PairT) (i : Nat) (w : Stride) : Bool :=
  let loops := p.loops
  (w.op == 5 && loops.any fun l => decide (l.1 ≤ i) && decide (i ≤ l.2.1)) ||
  match lwDecode w.lw with
  | .loopBegin c _ e =>
    let partner := e == i || (decide (i < e) && decide (e < p.strides.size) &&
      (match lwDecode (Stride.lw (p.strides.getD e 0)) with
       | .loopEnd c' b => c' == c && b == i
       | _ => false))
    let around := loops.filter fun l => decide (l.1 < i) && decide (i ≤ l.2.1)
    !partner || around.any (fun l => decide (l.2.1 < e) || l.2.2 == c) || decide (8 ≤ around.length)
  | .loopEnd c b =>
    match p.loopAt b with
    | some (c', e) => !(c' == c && e == i)
    | none => true
  | _ => false

/-! ### The stepper -/

/-- What stepping needs of an image. -/
structure Plan where
  hdr : Hdr
  pairs : List PairT
  /-- M_0, M_1, … (R120), as many as `fpre` + `fcnt` + 1 when they go on with a period of `fcnt` frames from frame `fpre` -/
  marks : Array Nat := #[]
  fpre : Nat := 0
  fcnt : Nat := 0

/-- Where the stepping of a pacer stands. -/
structure Walk where
  seq : Nat := 0
  bank : Bool := false
  idx : Nat := 0
  /-- cycle of the last issue -/
  cyc : Nat := 0
  entered : Bool := false
  init : List Nat := [0, 0, 0, 0, 0, 0, 0, 0]
  cur : List Nat := [0, 0, 0, 0, 0, 0, 0, 0]
  active : Cfg := 0
  shadow : Cfg := 0
  ldesc : Option (Nat × Cfg) := none
  /-- frames begun -/
  frames : Nat := 0
  /-- STARTs issued -/
  starts : Nat := 0
  ord : Nat := 0
  deriving Repr

/-- How a pacer's schedule goes on after a step. -/
inductive Next where
  | go (w : Walk)
  | halted
  | ended (tc : Nat)
  /-- the table ends without HALT or END, or a SWAP has nowhere to go -/
  | stuck

/-- The pair SEQ `q` of a unit. -/
def Plan.pair (pl : Plan) (unit q : Nat) : Option PairT := pl.pairs.find? fun p => p.unit == unit && p.seq == q

/-- The SEQ that follows a pair (R187). -/
def Plan.follows (pl : Plan) (p : PairT) : Option Nat :=
  if p.last then (if p.rep = 0xFF then none else some p.rep) else (pl.pair p.unit (p.seq + 1)).map (·.seq)

/-- The first lap mark at or after the nominal time of frame `k`, at the declared operating point and unstretched (R120): 640 / MULT
timekeeper units a cycle. -/
def Plan.nominalMark (pl : Plan) (k : Nat) : Nat :=
  let den := 65536 * 640
  65536 * ((k * pl.hdr.period * mult pl.hdr.opDecl + den - 1) / den)

/-- Cycle of M_k when the partition's last FRAME for frame `k` issues in cycle `c` (R120). -/
def Plan.frameMark (pl : Plan) (k c : Nat) : Nat := max (pl.nominalMark k) ((c + 65536 + 65535) / 65536 * 65536)

/-- Cycle of M_k of the partition; `c` is a FRAME stride's cycle, used where no mark is known. -/
def Plan.mark (pl : Plan) (k c : Nat) : Nat :=
  let at_ (j : Nat) : Nat := pl.marks.getD j 0
  if k < pl.marks.size then at_ k
  else if pl.fcnt = 0 then pl.frameMark k c
  else at_ (pl.fpre + (k - pl.fpre) % pl.fcnt) + (k - pl.fpre) / pl.fcnt * (at_ (pl.fpre + pl.fcnt) - at_ pl.fpre)

/-- Frames from which the marks go on alike: their numbers modulo the period. -/
def Plan.frameClass (pl : Plan) (k : Nat) : Nat :=
  if pl.fcnt = 0 ∨ k ≤ pl.fpre + pl.fcnt then k else pl.fpre + 1 + (k - pl.fpre - 1) % pl.fcnt

/-- Bring an arrived descriptor into the shadow set. -/
def Walk.settle (c : Nat) (s : Walk) : Walk :=
  match s.ldesc with
  | some (due, g) => if due ≤ c then { s with shadow := g, ldesc := none } else s
  | none => s

/-- Decrement a 24-bit live count (R99). -/
def decr24 (n : Nat) : Nat := if n = 0 then 0xFFFFFF else n - 1

/-- Move past stride `i` issued in cycle `c`: loop ends decrement and jump (R99). -/
def Walk.past (p : PairT) (lw : Lw) (i c : Nat) (s : Walk) : Walk :=
  let s := { s with cyc := c, ord := s.ord + 1 }
  let jump (ctr : Nat) (forever : Bool) (b : Nat) : Walk :=
    if forever then { s with idx := b, entered := true }
    else
      let n := decr24 (s.cur.getD ctr 0)
      let s := { s with cur := s.cur.set ctr n }
      if n = 0 then { s with idx := i + 1, entered := false } else { s with idx := b, entered := true }
  match lw with
  | .loopEnd ctr b => jump ctr (match lwDecode (Stride.lw (p.strides.getD b 0)) with | .loopBegin _ f _ => f | _ => false) b
  | .loopBegin ctr f e => if e = i then jump ctr f i else { s with idx := i + 1, entered := false }
  | _ => { s with idx := i + 1, entered := false }

/-- The stride at the walk's place issues in cycle `c`: the issue, and how the schedule goes on. -/
def Plan.issue (pl : Plan) (p : PairT) (w : Stride) (lw : Lw) (c : Nat) (s : Walk) : Ev × Next :=
  let i := s.idx
  let s := s.settle c
  let s := if w.op = 2 then { s with active := s.shadow, starts := s.starts + 1 } else s
  let e : Ev := { cyc := c, ord := s.ord, unit := p.unit, seq := s.seq, bank := s.bank, idx := i, w := w, cfg := s.active }
  let n := s.past p lw i c
  match w.op with
  | 0x01 => (e, .go { n with ldesc := some (c + 4, p.descs.getD w.dref 0) })
  | 0x03 => (e, .go { n with init := n.init.set (bits w.opnd 24 3) (bits w.opnd 0 24) })
  | 0x05 =>
    match pl.follows p with
    | none => (e, .stuck)
    | some q => (e, .go { n with seq := q, bank := !s.bank, idx := bits w.opnd 0 11, entered := false })
  | 0x07 => (e, .go { n with cyc := pl.mark s.frames c, frames := s.frames + 1 })
  | 0x09 => (e, .halted)
  | 0x0A => (e, .ended (c + bits w.opnd 0 16))
  | _ => (e, .go n)

/-- One step of a pacer: an issue, or a loop skipped because its count is zero (R98). -/
def Plan.step (pl : Plan) (unit : Nat) (s : Walk) : Option Ev × Next :=
  match pl.pair unit s.seq with
  | none => (none, .stuck)
  | some p =>
    match p.strides[s.idx]? with
    | none => (none, .stuck)
    | some w =>
      let c := s.cyc + w.offset
      let lw := lwDecode w.lw
      let go (s : Walk) : Option Ev × Next := let r := pl.issue p w lw c s; (some r.1, r.2)
      match lw with
      | .loopBegin ctr forever e =>
        if s.entered then go s
        else if forever then go { s with entered := true }
        else
          let n := s.init.getD ctr 0
          let s := { s with cur := s.cur.set ctr n }
          if n = 0 then (none, .go { s with idx := e + 1, cyc := c }) else go { s with entered := true }
      | _ => go s

/-- Control state at the begin stride of a FOREVER loop, with cycles counted from there. -/
structure Spot where
  seq : Nat
  bank : Bool
  idx : Nat
  init : List Nat
  cur : List Nat
  active : Cfg
  shadow : Cfg
  ldesc : Option (Nat × Cfg)
  /-- cycles since the last frame's mark, and the frame's class -/
  phase : Nat × Nat
  deriving DecidableEq

/-- The control state of a walk about to take a FOREVER loop's begin stride. -/
def Plan.spot (pl : Plan) (s : Walk) : Spot :=
  { seq := s.seq, bank := s.bank, idx := s.idx, init := s.init, cur := s.cur, active := s.active, shadow := s.shadow,
    ldesc := s.ldesc.map fun x => (x.1 - s.cyc, x.2),
    phase := if pl.hdr.frame then (s.cyc - (if s.frames = 0 then 0 else pl.mark (s.frames - 1) 0), pl.frameClass s.frames) else (0, 0) }

/-- The walk stands at the begin stride of a FOREVER loop. -/
def Plan.atForever (pl : Plan) (unit : Nat) (s : Walk) : Bool :=
  match pl.pair unit s.seq with
  | some p => match lwDecode (Stride.lw (p.strides.getD s.idx 0)) with
    | .loopBegin _ f _ => f
    | _ => false
  | none => false

/-- Stride numbers of a schedule with no FOREVER loop that has an end: eight nested counts of 24 bits over 255 banks. -/
def stepFuel : Nat := 2 ^ 300

/-- The next FRAME stride of a walk: its cycle and the walk past it; none where the schedule ends first, or comes round without one. -/
def Plan.toFrame (pl : Plan) (unit : Nat) : Nat → List Spot → Walk → Option (Nat × Walk)
  | 0, _, _ => none
  | fuel + 1, seen, s =>
    let sp := { pl.spot s with phase := (0, 0) }
    let test := pl.atForever unit s
    if test && seen.contains sp then none
    else
      let seen := if test then sp :: seen else seen
      match pl.step unit s with
      | (some e, .go s') =>
        if e.op = 7 then some (e.cyc, s')
        else if e.op = 5 then
          let sp := { pl.spot s' with phase := (0, 0) }
          if seen.contains sp then none else Plan.toFrame pl unit fuel (sp :: seen) s'
        else Plan.toFrame pl unit fuel seen s'
      | (none, .go s') => Plan.toFrame pl unit fuel seen s'
      | _ => none

/-- A frame of the partition: where its pacers stand at the mark, how far that lies behind the nominal time, the mark, and whether the
FRAME strides decided it. -/
structure FrameAt where
  spots : List (Nat × Spot)
  behind : Nat
  mark : Nat
  late : Bool

/-- The earlier frame, counted back from the present one, from which the marks come round: the same place with the same distance, or a
greater one where the FRAME strides have decided every mark since (R120). -/
def FrameAt.since (x : FrameAt) : Nat → Bool → List FrameAt → Option Nat
  | _, _, [] => none
  | j, all, y :: t =>
    if x.spots == y.spots && (x.behind == y.behind || (all && decide (y.behind ≤ x.behind))) then some j
    else FrameAt.since x (j + 1) (all && y.late) t

/-- The marks of a frame plan (R120): every pacer goes to its FRAME stride for frame `k`, the last of them decides M_k, and all go on from
it. Newest first, with the number of frames in which they come round. -/
def Plan.frames (pl : Plan) : Nat → Nat → List (Nat × Walk) → List FrameAt → List FrameAt × Nat
  | 0, _, _, hist => (hist, 0)
  | fuel + 1, k, ws, hist =>
    let xs := ws.filterMap fun x => (pl.toFrame x.1 stepFuel [] x.2).map fun r => (x.1, r)
    if xs.isEmpty then (hist, 0)
    else
      let m := pl.frameMark k ((xs.map fun x => x.2.1).foldl max 0)
      let ws := xs.map fun x => (x.1, { x.2.2 with cyc := m })
      let here : FrameAt :=
        { spots := ws.map fun x => (x.1, { pl.spot x.2 with phase := (0, 0) }), mark := m, late := decide (pl.nominalMark k < m),
          behind := m * 640 - k * pl.hdr.period * mult pl.hdr.opDecl }
      match here.since 1 here.late hist with
      | some n => (here :: hist, n)
      | none => Plan.frames pl fuel (k + 1) ws (here :: hist)

/-- A plan with its frame marks. -/
def Plan.withMarks (pl : Plan) : Plan :=
  if !pl.hdr.frame then pl
  else
    let (hist, n) := pl.frames stepFuel 0 ((pairUnits pl.pairs).map fun v => (v, {})) []
    { pl with marks := (hist.reverse.map (·.mark)).toArray, fcnt := n, fpre := hist.length - 1 - n }

/-- How a pacer's schedule ends. -/
inductive Fin where
  | halted
  | ended (tc : Nat)
  | stuck (last : Option Ev)
  /-- it repeats from cycle `pre` on every `per` cycles; `fresh` when a START falls in every repetition -/
  | forever (pre per : Nat) (fresh : Bool)
  /-- it goes on without a FOREVER loop -/
  | endless
  deriving Repr

/-- How a schedule ends: step it to its end, or until a FOREVER loop is met in a control state seen before. A pair
sequence that comes round again by SWAP alone has no end and no FOREVER loop. -/
def Plan.ending (pl : Plan) (unit : Nat) : Nat → List (Spot × Nat × Nat) → List (Spot × Nat) → Option Ev → Walk → Fin
  | 0, _, _, _, _ => .endless
  | fuel + 1, seen, swaps, last, s =>
    let atF := pl.atForever unit s
    let sp := pl.spot s
    match if atF then seen.find? fun x => x.1 == sp else none with
    | some x => .forever x.2.1 (s.cyc - x.2.1) (decide (x.2.2 < s.starts))
    | none =>
      let seen := if atF then (sp, s.cyc, s.starts) :: seen else seen
      match pl.step unit s with
      | (e, .halted) => let _ := e; .halted
      | (_, .ended tc) => .ended tc
      | (e, .stuck) => .stuck (e.or last)
      | (e, .go s') =>
        if (e.map Ev.op) = some 5 then
          let sp' := pl.spot s'
          if swaps.any fun x => x.1 == sp' then .endless
          else Plan.ending pl unit fuel seen ((sp', s'.cyc) :: swaps) e s'
        else Plan.ending pl unit fuel seen swaps (e.or last) s'

/-- The issues of a schedule up to cycle `lim`. -/
def Plan.walk (pl : Plan) (unit lim : Nat) : Nat → Walk → List Ev
  | 0, _ => []
  | fuel + 1, s =>
    match pl.step unit s with
    | (e, .go s') =>
      if lim < s'.cyc then (e.toList.filter fun e => decide (e.cyc ≤ lim))
      else match e with
        | some e => e :: Plan.walk pl unit lim fuel s'
        | none => Plan.walk pl unit lim fuel s'
    | (e, _) => e.toList.filter fun e => decide (e.cyc ≤ lim)

/-- Every operation issued in a cycle sees the configuration of a START issued in that cycle (R89): walk the list from its
end with the last START met. -/
def seeStart (es : List Ev) : List Ev :=
  (es.foldr (fun e (acc : List Ev × Option (Nat × Cfg)) =>
    let st := match acc.2 with
      | some (c, g) => if c = e.cyc then some (c, g) else none
      | none => none
    let st := if st.isNone ∧ e.op = 2 then some (e.cyc, e.cfg) else st
    ({ e with cfg := (st.map (·.2)).getD e.cfg } :: acc.1, st)) ([], none)).1

/-! ### Repeats and order -/

/-- Merge two ordered lists. -/
def mergeBy {α : Type} (le : α → α → Bool) : Nat → List α → List α → List α
  | 0, xs, ys => xs ++ ys
  | _, [], ys => ys
  | _, xs, [] => xs
  | fuel + 1, x :: xs, y :: ys => if le x y then x :: mergeBy le fuel xs (y :: ys) else y :: mergeBy le fuel (x :: xs) ys

/-- Order a list, equal elements in their old order; `fuel` at least the binary logarithm of its length. -/
def sortBy {α : Type} (le : α → α → Bool) : Nat → List α → List α
  | 0, l => l
  | fuel + 1, l =>
    if l.length ≤ 1 then l
    else
      let n := l.length / 2
      mergeBy le l.length (sortBy le fuel (l.take n)) (sortBy le fuel (l.drop n))

/-- By cycle, then by stride number. -/
def Ev.le (a b : Ev) : Bool := decide (a.cyc < b.cyc) || (a.cyc == b.cyc && decide (a.ord ≤ b.ord))

/-- Every issue of the repeats (R90, R151). -/
def expand (es : List Ev) : List Ev :=
  if es.all fun e => repOf e.op e.o == 0 then es
  else sortBy Ev.le 64 ((es.map fun e => (List.range (repOf e.op e.o + 1)).map fun k =>
    { e with cyc := e.cyc + k * gapOf e.op e.o, k := k }).flatten)

/-! ### The schedule of an image -/

/-- The schedule of one pacer. -/
structure PSched where
  unit : Nat
  fin : Fin
  /-- strides -/
  strides : List Ev
  /-- every issue of every operation -/
  evs : List Ev

/-- The schedule of an image up to the cycle that shows all of it. -/
structure Sched where
  pl : Plan
  units : List PSched
  /-- the last cycle stepped, for a schedule without end -/
  lim : Option Nat
  /-- the schedule repeats with this period from `pre` on -/
  pre : Nat
  per : Nat
  /-- the commit cycle t_c -/
  tc : Option Nat

/-- Beats after which the addresses of a pattern come round, lines counted modulo 2^w (R76, R153). -/
def patRound (w inner s1 : Nat) : Nat := inner * (2 ^ w / Nat.gcd (2 ^ w) s1)

/-- Beat counters that a repetition does not reset advance by a fixed number: after this many repetitions every address of a
configuration comes round. -/
def Cfg.round (c : Cfg) (unit : Nat) : Nat :=
  let ps : List Nat :=
    if unit < 192 then (List.range 10).map fun i => patRound 17 (c.field (0x24 + 12 * i) 20 12 + 1) (c.field (0x2C + 12 * i) 0 17)
    else if 320 ≤ unit ∧ unit < 344 then
      (List.range 8).map fun i => patRound 33 (c.field (0x14 + 16 * i) 20 12 + 1)
        ((signedField 32 (c.field (0x1C + 16 * i) 0 32) % (2 ^ 33 : Nat)).toNat)
    else []
  ps.foldl Nat.lcm 1

/-- Repetitions stepped of a schedule without end: a row that is never cleared takes a contribution in each, so that one that passes the
limit of R43 has done so. -/
def repeats : Nat := 32770

/-- Step every pacer of an image (R78): one that ends to its end, one without end until the others have ended and every repetition that
can differ has been seen (DEDUCED, log entry 30). -/
def schedule (h : Hdr) (ps : List PairT) : Sched :=
  let pl := ({ hdr := h, pairs := ps } : Plan).withMarks
  let us := pairUnits ps
  let fins := us.map fun v => (v, pl.ending v stepFuel [] [] none {})
  let tc := match fins.find? fun x => x.1 == h.commit with
    | some (_, .ended t) => some t
    | _ => none
  let rounds := fins.map fun x => match x.2 with
    | .forever _ per fresh =>
      (if fresh then per else per * ((ps.filter (·.unit == x.1)).map fun p => p.descs.toList.foldl (fun n c => Nat.lcm n (c.round x.1)) 1).foldl Nat.lcm 1)
    | _ => 1
  let per := rounds.foldl Nat.lcm 1
  let pre := (fins.map fun x => match x.2 with | .forever pre _ _ => pre | _ => 0).foldl max 0
  let endless := fins.any fun x => match x.2 with | .forever _ _ _ => true | .endless => true | _ => false
  let whole (v : Nat) : List Ev := pl.walk v (2 ^ 400) stepFuel {}
  let ends := fins.map fun x => match x.2 with
    | .forever _ _ _ | .endless => 0
    | _ => match (whole x.1).getLast? with
      | some e => e.cyc
      | none => 0
  let lim := max pre (max (tc.getD 0) (ends.foldl max 0)) + repeats * per + 131072
  let units := fins.map fun x =>
    let st := seeStart (match x.2 with
      | .forever _ _ _ | .endless => pl.walk x.1 lim stepFuel {}
      | _ => whole x.1)
    ({ unit := x.1, fin := x.2, strides := st, evs := expand st } : PSched)
  { pl := pl, units := units, lim := if endless then some lim else none, pre := pre, per := per, tc := tc }

/-- Every issue of every pacer in order. -/
def Sched.all (s : Sched) : List Ev := sortBy Ev.le 64 (s.units.map (·.evs)).flatten

/-- Ordered pairs of a list whose cycles are at most `w` apart and that `bad` names. -/
def near {α : Type} (cyc : α → Nat) (w : Nat) (bad : α → α → Bool) : List α → List (α × α)
  | [] => []
  | x :: xs => ((xs.takeWhile fun y => decide (cyc y ≤ cyc x + w)).filter (bad x)).map (fun y => (x, y)) ++ near cyc w bad xs

end Sys2Proof.Machine
end

