-- ==== Sys2Proof/Machine/GateTile.lean ====
section
/-! DEFINITION. Tile conflict conditions TPC-1 to TPC-15 (Table 3.4, R78) and the pacer conditions PSC-1 to PSC-3
(Table 7.6), over the schedule of one pacer. -/

namespace Sys2Proof.Machine

/-! ### Latencies of the image's timing profile (Tables 3.7, 5.5, 7.8) -/

def sfuLat (a1 : Bool) : Nat := if a1 then 14 else 12
def drlLat (a1 : Bool) : Nat := if a1 then 240 else 232
def retLat (a1 : Bool) : Nat := if a1 then 64 else 60

/-- Issue to register usable of a VOP (Table 3.7): VCVT 3, VQNT 6, a lane reduction over 2^SLG lanes 2 + 2 × SLG, others 4. -/
def vopLat (subop slg : Nat) : Nat :=
  if subop = 9 then 3 else if subop = 10 then 6 else if subop = 11 ∨ subop = 12 then 2 + 2 * slg else 4

/-- Lines of a vector store (R92). -/
def storeCount (f : OpWrb) : Nat := if f.scales then 1 else fmtLines f.fmt

/-- Cycles of a readout's transfer (R74). -/
def readoutLen (f : OpReadout) : Nat := if f.toCh then (if f.fmt = 2 then 5 else 2) else 1

/-- The last cycle in which an operation still produces a result (Tables 3.7 and 5.5, R94, R110, R139, R154, R310). -/
def Ev.resultAt (a1 : Bool) (e : Ev) : Nat :=
  e.cyc + match e.op with
  | 0x01 => 3
  | 0x10 => if (rdbFields e.o).dest = 2 then 7 else 5
  | 0x11 =>
    let f := wrbFields e.o
    if f.src = 1 then 2 + (storeCount f - 1) / max 1 (maskList 2 f.chmask).length + 3 else 3
  | 0x12 => 6
  | 0x13 => 16
  | 0x14 => let f := readoutFields e.o; if f.toCh then 4 + readoutLen f - 1 + 3 else 4
  | 0x15 => 6
  | 0x16 => vopLat (vopFields e.o).subop e.cfg.slg
  | 0x17 => sfuLat a1
  | 0x20 => 3
  | 0x21 => e.cfg.fill
  | 0x22 => e.cfg.lpage - 1
  | 0x23 => retLat a1 + 5 * (emitFields e.o).qn + 4
  | 0x28 => drlLat a1
  | 0x31 => 4 + (pdlvFields e.o).nflit
  | _ => 0

/-! ### Beats (R76, R77) -/

/-- A beat: one line moved by one channel in one cycle. -/
structure Bt where
  cyc : Nat := 0
  ord : Nat := 0
  ch : Nat := 0
  wr : Bool := false
  /-- number of the line within its issue -/
  part : Nat := 0
  e : Ev := {}
  line : Nat := 0
  deriving Repr

/-- The beats an issue asks for, lines not yet known. -/
def Ev.beats (e : Ev) : List Bt :=
  let b (ch i : Nat) (wr : Bool) (c : Nat) : Bt := { cyc := c, ord := e.ord, ch := ch, wr := wr, part := i, e := e }
  match e.op with
  | 0x10 => let chs := maskList 8 (rdbFields e.o).chmask; (List.range chs.length).map fun i => b (chs.getD i 0) i false e.cyc
  | 0x11 =>
    let f := wrbFields e.o
    let chs := maskList 2 f.chmask
    let n := chs.length
    if n = 0 then []
    else if f.src = 1 then (List.range (storeCount f)).map fun i => b (chs.getD (i % n) 0) i true (e.cyc + 2 + i / n)
    else (List.range n).map fun i => b (chs.getD i 0) i true e.cyc
  | _ => []

def Bt.le (a b : Bt) : Bool := decide (a.cyc < b.cyc) || (a.cyc == b.cyc && decide (a.ord ≤ b.ord))

/-- Number the beats of each channel since the last START (R76, R94) and find their lines. -/
def numberBeats : List Ev → Map Nat → List Bt → List Bt
  | _, _, [] => []
  | starts, cnt, b :: bs =>
    let past (s : Ev) : Bool := decide (s.cyc < b.cyc) || (s.cyc == b.cyc && decide (s.ord ≤ b.ord))
    let cnt := if (starts.takeWhile past).isEmpty then cnt else []
    let key := b.ch + (if b.wr then 8 else 0)
    let n := Map.get 0 cnt key
    { b with line := if b.wr then b.e.cfg.wrBeat b.ch n else b.e.cfg.rdBeat b.ch n } ::
      numberBeats (starts.dropWhile past) (Map.set 0 cnt key (n + 1)) bs

/-- The beats of a tile's schedule in order. -/
def PSched.beats (p : PSched) : List Bt :=
  numberBeats (p.strides.filter fun e => e.op == 2) [] (sortBy Bt.le 64 ((p.evs.map Ev.beats).flatten))

def Bt.bank (b : Bt) : Nat := lineBank b.line
/-- Bank and subarray of a line as one number. -/
def Bt.sub (b : Bt) : Nat := b.line / 256
def Bt.viol (b : Bt) (cond : Nat) : Viol := b.e.viol cond b.cyc

/-! ### Helpers -/

/-- Elements with at least `n` elements of the same cycle before them. -/
def overflow {α : Type} (n : Nat) (cyc : α → Nat) (l : List α) : List α :=
  (l.foldl (fun (acc : List α × Nat × Nat) x =>
    let k := if acc.2.1 = cyc x + 1 then acc.2.2 + 1 else 1
    (if n < k then x :: acc.1 else acc.1, cyc x + 1, k)) ([], 0, 0)).1.reverse

/-- Mode changes of a tile: cycle, banks, target (R66). -/
def modesOf (es : List Ev) : List (Nat × Nat × Bool) :=
  (es.filter fun e => e.op == 0x13).map fun e => (e.cyc, bits e.o 0 16, bit e.o 16)

/-- Mode of a bank in cycle `t`: compute mode, and within a mode change. -/
def bankMode (ms : List (Nat × Nat × Bool)) (b t : Nat) : Bool × Bool :=
  match (ms.filter fun m => m.2.1.testBit b && decide (m.1 ≤ t)).getLast? with
  | some m => (m.2.2, decide (t ≤ m.1 + 15))
  | none => (false, false)

/-! ### Conditions -/

/-- PSC-1 and PSC-2 (R89, R94). -/
def PSched.issueViols (p : PSched) : List Viol :=
  (overflow 8 Ev.cyc p.strides).map (fun e => e.viol (psc 1) e.cyc) ++
  (near Ev.cyc 3 (fun x y => x.op == 1 && (y.op == 1 || y.op == 2)) p.strides).map fun xy => xy.2.viol (psc 2) xy.2.cyc

/-- Bank, subarray, block offset and row of a PASS issue. -/
def Ev.passAt (e : Ev) : Nat × Nat × Nat × Nat := let f := passFields e.o; (f.bank, passPlace f e.k)

/-- Resident bytes of a pass (R69). -/
def Cfg.residentBytes (c : Cfg) : Nat :=
  let n := passInputs c.sfmt c.rfmt
  64 * n * fmtWidth c.rfmt / 8 + (if fmtMx c.rfmt then 64 * n / 32 else 0)

/-- TPC-1 to TPC-7: beats. -/
def beatViols (bs : List Bt) (ms : List (Nat × Nat × Bool)) (transfers : List (Nat × Ev)) : List Viol :=
  let later (c : Nat) (xs : List (Bt × Bt)) : List Viol := xs.map fun xy => xy.2.viol c
  let writes := (bs.filter fun b => b.wr && !((wrbFields b.e.o).src == 2 && transfers.any fun t => t.1 == b.cyc)).map (fun b => (b.cyc, b.e)) ++
    (transfers.map fun t => [t, t]).flatten
  later (tpc 1) (near Bt.cyc 0 (fun x y => !x.wr && !y.wr && x.bank == y.bank) bs) ++
  later (tpc 2) (near Bt.cyc 0 (fun x y => x.wr && y.wr && x.bank == y.bank) bs) ++
  later (tpc 3) (near Bt.cyc 0 (fun x y => x.wr != y.wr && x.sub == y.sub) bs) ++
  (overflow 8 Bt.cyc (bs.filter fun b => !b.wr)).map (Bt.viol · (tpc 4)) ++
  (overflow 2 Prod.fst (sortBy (fun a b => decide (a.1 ≤ b.1)) 64 writes)).map (fun x => x.2.viol (tpc 4) x.1) ++
  later (tpc 4) (near Bt.cyc 0 (fun x y => x.wr == y.wr && x.ch == y.ch) bs) ++
  ((bs.filter fun b => let m := bankMode ms b.bank b.cyc; m.1 || m.2).map (Bt.viol · (tpc 5))) ++
  ((bs.filter fun b => lineHole b.line).map (Bt.viol · (tpc 6))) ++
  ((bs.filter fun b => (bankMode ms b.bank b.cyc).2).map (Bt.viol · (tpc 7)))

/-- TPC-6 to TPC-10 and PSC-3: passes. -/
def passViols (ps : List Ev) (ms : List (Nat × Nat × Bool)) : List Viol :=
  let at_ (c : Nat) (e : Ev) : Viol := e.viol c e.cyc
  let mode (e : Ev) : Bool × Bool := bankMode ms e.passAt.1 e.cyc
  (ps.filter fun e => decide (127 < e.passAt.2.2.2)).map (at_ (psc 3)) ++
  (ps.filter fun e => decide (24 ≤ e.passAt.2.1)).map (at_ (tpc 6)) ++
  (ps.filter fun e => (mode e).2).map (at_ (tpc 7)) ++
  (near Ev.cyc 0 (fun _ _ => true) ps).map (fun xy => at_ (tpc 8) xy.2) ++
  (ps.filter fun e => !(mode e).1 || (mode e).2).map (at_ (tpc 8)) ++
  (near Ev.cyc 1 (fun x y => x.cyc != y.cyc && x.passAt.1 == y.passAt.1 && x.passAt.2.1 == y.passAt.2.1) ps).map (fun xy => at_ (tpc 9) xy.2) ++
  (ps.filter fun e => decide (0x4000 < 0x1000 * e.passAt.2.2.1 + e.cfg.residentBytes)).map (at_ (tpc 10))

/-- TPC-11 (R72): scale lines arrive five cycles after their beat and replace what is left; MX passes and MX vector loads
take bytes in order. -/
def scaleViols (es : List Ev) : List Viol :=
  let loads := (es.filter fun e => e.op == 0x10 && (rdbFields e.o).dest == 1).map fun e => (e.cyc + 5, 0, e)
  let uses := es.filterMap fun e =>
    if e.op = 0x12 ∧ fmtMx e.cfg.sfmt then some (e.cyc, passInputs e.cfg.sfmt e.cfg.rfmt / 32, e)
    else if e.op = 0x10 ∧ (rdbFields e.o).dest = 2 ∧ fmtMx (rdbFields e.o).fmt then some (e.cyc, 4, e)
    else none
  ((mergeBy (fun a b => decide (a.1 ≤ b.1)) (loads.length + uses.length) loads uses).foldl (fun (acc : List Viol × Nat) x =>
    if x.2.1 = 0 then (acc.1, 64)
    else (if acc.2 < x.2.1 ∧ x.2.2.op = 0x12 then acc.1 ++ [x.2.2.viol (tpc 11) x.1] else acc.1, acc.2 - x.2.1)) ([], 0)).1

/-- Row an accumulating operation adds into. -/
def Ev.addRow (e : Ev) : Option Nat :=
  if e.op = 0x12 then some e.passAt.2.2.2 else if e.op = 0x15 then some (bits e.o 0 7) else none

/-- TPC-12: readouts against passes, long-adds and other readouts of their row. -/
def readoutViols (es : List Ev) : List Viol :=
  let adds := es.filter fun e => e.addRow.isSome
  let rs := es.filter fun e => e.op == 0x14
  (rs.filter fun r => adds.any fun a => a.addRow == some (readoutFields r.o).row && decide (a.cyc ≤ r.cyc) && decide (r.cyc ≤ a.cyc + 5)).map
    (fun r => r.viol (tpc 12) r.cyc) ++
  (near Ev.cyc 4 (fun x y => (readoutFields x.o).row == (readoutFields y.o).row && decide (y.cyc < x.cyc + readoutLen (readoutFields x.o))) rs).map
    fun xy => xy.2.viol (tpc 12) xy.2.cyc

/-- Vector registers an issue reads (Tables 4.6, 4.7, R92). -/
def Ev.vreads (e : Ev) : List Nat :=
  match e.op with
  | 0x11 =>
    let f := wrbFields e.o
    if f.src ≠ 1 then [] else if f.scales then (List.range 16).map fun r => (f.vreg + 16 * e.k + r) % 32 else [(f.vreg + e.k) % 32]
  | 0x16 =>
    let f := vopFields e.o
    if f.subop = 3 then [f.va, f.vb, f.vc] else if f.subop < 6 then [f.va, f.vb] else [f.va]
  | 0x17 => [(vsfuFields e.o).va]
  | _ => []

/-- A register write: usable cycle, class (0 ALU, 1 special function, 2 load or readout), registers. -/
def Ev.vwrites (a1 : Bool) (e : Ev) : Option (Nat × Nat × List Nat) :=
  match e.op with
  | 0x10 => let f := rdbFields e.o; if f.dest = 2 then some (e.cyc + 7, 2, [(f.vreg + e.k) % 32]) else none
  | 0x14 => let f := readoutFields e.o; if f.toCh then none else some (e.cyc + 4, 2, [f.vreg])
  | 0x16 =>
    let f := vopFields e.o
    some (e.cyc + vopLat f.subop e.cfg.slg, 0, if f.subop = 10 then [f.vd, f.vd2] else [f.vd])
  | 0x17 => some (e.cyc + sfuLat a1, 1, [(vsfuFields e.o).vd])
  | _ => none

/-- TPC-13 to TPC-15 for vector registers, and TPC-15 for lines. -/
def vectorViols (a1 : Bool) (es : List Ev) (bs : List Bt) : List Viol :=
  let ws := es.filterMap fun e => (e.vwrites a1).map fun w => (w.1, w.2.1, w.2.2, e)
  let sorted := sortBy (fun a b => decide (a.1 ≤ b.1)) 64 ws
  let rs := es.filter fun e => !e.vreads.isEmpty
  let before (a b : Ev) : Bool := decide (a.cyc < b.cyc) || (a.cyc == b.cyc && decide (a.ord < b.ord))
  (ws.filter fun w => match w.2.2.1 with | [a, b] => a == b | _ => false).map (fun w => w.2.2.2.viol (tpc 13) w.1) ++
  (near Prod.fst 0 (fun x y => x.2.1 == y.2.1 || x.2.2.1.any y.2.2.1.contains) sorted).map (fun xy => xy.2.2.2.2.viol (tpc 13) xy.2.1) ++
  (near Ev.cyc 3 (fun _ _ => true) (es.filter fun e => e.op == 0x17)).map (fun xy => xy.2.viol (tpc 14) xy.2.cyc) ++
  (rs.filter fun r => ws.any fun w => before w.2.2.2 r && decide (r.cyc < w.1) && r.vreads.any w.2.2.1.contains).map (fun r => r.viol (tpc 15) r.cyc) ++
  (near Bt.cyc 2 (fun x y => x.wr && !y.wr && x.line == y.line) bs).map fun xy => xy.2.viol (tpc 15)

/-- TPC-1 to TPC-15 and PSC-3 of one tile. -/
def PSched.tileViols (a1 : Bool) (p : PSched) : List Viol :=
  if 192 ≤ p.unit then []
  else
    let ms := modesOf p.evs
    let bs := p.beats
    let transfers := (p.evs.filter fun e => e.op == 0x14 && (readoutFields e.o).toCh).map fun e =>
      (List.range (readoutLen (readoutFields e.o))).map fun i => (e.cyc + 4 + i, e)
    beatViols bs ms transfers.flatten ++ passViols (p.evs.filter fun e => e.op == 0x12) ms ++ scaleViols p.evs ++
    readoutViols p.evs ++ vectorViols a1 p.evs bs

end Sys2Proof.Machine
end

