-- ==== Sys2Proof/Machine/GateMem.lean ====
section
/-! DEFINITION. Load-gate conditions of beside-memory engines and DRAM channels: BPC-1 to BPC-6 and BPC-9, BPC-10
(Table 5.8), DPC-1 to DPC-6 (Tables 6.6, 6.7), the output-record rule of R199, and the refill-ready cycles of R187. -/

namespace Sys2Proof.Machine

/-! ### Scans -/

/-- A scan: its OPEN and the PAGEs up to the next OPEN. -/
structure Scn where
  o : Ev
  pages : List Ev
  deriving Repr

def Scn.f (s : Scn) : OpOpen := openFields s.o.o
def Scn.npe (s : Scn) : Nat := s.f.npe + 1

/-- The last cycle of a scan: the end of its last page slot, or its OPEN where it has none (R141). -/
def Scn.endAt (s : Scn) : Nat :=
  match s.pages.getLast? with
  | some p => p.cyc + p.cfg.lpage - 1
  | none => s.o.cyc

/-- The scans of a BME's schedule, and the PAGEs before any OPEN. -/
def scansOf (es : List Ev) : List Scn × List Ev :=
  let r := es.foldl (fun (acc : List Scn × List Ev) e =>
    if e.op = 0x21 then ({ o := e, pages := [] } :: acc.1, acc.2)
    else if e.op = 0x22 then match acc.1 with
      | s :: t => ({ s with pages := s.pages ++ [e] } :: t, acc.2)
      | [] => ([], acc.2 ++ [e])
    else acc) ([], [])
  (r.1.reverse, r.2)

/-- Queries of a set that a QLOAD issue completes (R132). -/
def Ev.queries (e : Ev) : List Nat :=
  let f := qloadFields e.o
  let qb := e.cfg.qbytes
  if qb = 64 then [f.qfirst + 2 * e.k, f.qfirst + 2 * e.k + 1]
  else if qb = 128 then [f.qfirst + e.k]
  else if e.k % 2 = 1 then [f.qfirst + e.k / 2] else []

/-- Consecutive pairs of a list. -/
def consecutive {α : Type} (l : List α) : List (α × α) := l.zip (l.drop 1)

/-- BPC-1 to BPC-4 of one BME. -/
def scanViols (a1 : Bool) (es : List Ev) : List Viol :=
  let (ss, stray) := scansOf es
  let pages := es.filter fun e => e.op == 0x22
  let loads := es.filter fun e => e.op == 0x20
  let emits := es.filter fun e => e.op == 0x23
  let at_ (c : Nat) (e : Ev) : Viol := e.viol c e.cyc
  let emitEnd (e : Ev) : Nat := e.cyc + retLat a1 + 5 * ((emitFields e.o).qn + 1) - 1
  stray.map (at_ (bpc 1)) ++
  ((consecutive pages).filter fun xy => decide (xy.2.cyc < xy.1.cyc + xy.1.cfg.lpage)).map (fun xy => at_ (bpc 1) xy.2) ++
  (ss.map fun s => (s.pages.filter fun p => decide (p.cyc < s.o.cyc + s.o.cfg.fill)).map (at_ (bpc 1))).flatten ++
  ((consecutive ss).filter fun xy => !xy.1.pages.isEmpty && decide (xy.2.o.cyc ≤ xy.1.endAt)).map (fun xy => at_ (bpc 2) xy.2.o) ++
  (ss.map fun s => (loads.filter fun l => (qloadFields l.o).qs == s.f.qs && decide (s.o.cyc ≤ l.cyc) && decide (l.cyc ≤ s.endAt)).map
    (at_ (bpc 3))).flatten ++
  (ss.filter fun s => !(List.range (s.f.qn + 1)).all fun q =>
    let ls := loads.filter fun l => (qloadFields l.o).qs == s.f.qs && l.queries.contains q && decide (l.cyc ≤ s.o.cyc)
    !ls.isEmpty && ls.all fun l => decide (l.cyc + 3 ≤ s.o.cyc)).map (fun s => at_ (bpc 3) s.o) ++
  (emits.filter fun e => ss.any fun s => s.f.ts == (emitFields e.o).ts && decide (s.o.cyc ≤ e.cyc) && decide (e.cyc ≤ s.endAt)).map
    (at_ (bpc 4)) ++
  (ss.filter fun s => emits.any fun e => s.f.ts == (emitFields e.o).ts && decide (e.cyc ≤ s.o.cyc) && decide (s.o.cyc ≤ emitEnd e)).map
    (fun s => at_ (bpc 4) s.o)

/-- BPC-6: EMIT transfers overlap, or name a route without VALID. -/
def emitViols (es : List Ev) : List Viol :=
  let emits := es.filter fun e => e.op == 0x23
  ((consecutive emits).filter fun xy => decide (xy.2.cyc < xy.1.cyc + 5 * ((emitFields xy.1.o).qn + 1))).map (fun xy => xy.2.viol (bpc 6) xy.2.cyc) ++
  (emits.filter fun e => !(routeFields (e.cfg.route e.unit (emitFields e.o).route)).valid).map fun e => e.viol (bpc 6) e.cyc

/-- BPC-9 of an OPEN, and BPC-10 of a scan. -/
def openViols (es : List Ev) : List Viol :=
  (es.filter fun e => e.op == 0x21 &&
    (decide (e.cfg.nlayer ≤ (openFields e.o).layer) || decide (e.cfg.nkv ≤ (openFields e.o).kvh))).map fun e => e.viol (bpc 9) e.cyc

def longScans (es : List Ev) : List Viol :=
  (scansOf es).1.filterMap fun s => (s.pages[4096]?).map fun e => e.viol (bpc 10) e.cyc

/-! ### Line supply of a scan (BPC-5, R133, R141, R152) -/

/-- A line a scan consumes: the cycle, the operation that consumes it, and its line number modulo 128 where the gate knows
it; `entry` for a line of the entry fetch. -/
structure Want where
  cyc : Nat
  e : Ev
  key : Option Nat
  entry : Bool
  deriving Repr

/-- Lines of a scan in the order of its read slots. -/
def Scn.wants (s : Scn) : List Want × List Want :=
  let entries := (List.range ((s.npe + 7) / 8)).map fun _ => ({ cyc := s.o.cyc + s.o.cfg.fill, e := s.o, key := none, entry := true } : Want)
  let page (p : Ev) : List Want :=
    let base := (s.f.layer * p.cfg.nkv + s.f.kvh) * p.cfg.blockLines
    let kl := p.cfg.kl
    (List.range (kl + p.cfg.vl)).map fun j =>
      { cyc := p.cyc + (if j < kl then j else j + 160), e := p, key := some ((base + j) % 128), entry := false }
  (entries, ((s.pages.take s.npe).map page).flatten)

/-- Pair lines with the read slots that carry them: a line without a slot stands alone. -/
def matchSlots : List Want → List Ev → List (Want × Option Ev)
  | [], _ => []
  | w :: ws, [] => (w, none) :: matchSlots ws []
  | w :: ws, e :: es => (w, some e) :: matchSlots ws es

/-- The read slots of a channel's schedule: DRD with ASRC 1. -/
def slotsOf (ces : List Ev) : List Ev := ces.filter fun e => e.op == 0x28 && (dramFields e.o).asrc == 1

/-- The lines of every scan with their slots: the entry lines take the first slots from the OPEN on, the page lines those
issued after the entries have arrived. -/
def supply (drl : Nat) (slots : List Ev) : List Scn → List (Want × Option Ev)
  | [] => []
  | s :: t =>
    let next := match t with | s' :: _ => s'.o.cyc | [] => 2 ^ 300
    let mine := slots.filter fun e => decide (s.o.cyc ≤ e.cyc) && decide (e.cyc < next)
    let (es, ps) := s.wants
    let arrived := match (mine.take es.length).getLast? with | some e => e.cyc + drl | none => s.o.cyc
    matchSlots es mine ++ matchSlots ps ((mine.drop es.length).filter fun e => decide (arrived < e.cyc)) ++ supply drl slots t

/-- BPC-5: a line missing at its cycle, or more than 512 lines in the input buffer. Of a plan that is stepped to cycle `lim` only, lines
wanted after it are not looked at: their slots may lie beyond. -/
def supplyViols (drl : Nat) (lim : Option Nat) (ws : List (Want × Option Ev)) (ces : List Ev) : List Viol :=
  let inBuf := (ws.filterMap fun w => if w.1.entry then none else w.2.map fun e => (e.cyc + drl, w.1.cyc, e)) ++
    ((ces.filter fun e => e.op == 0x28 && (dramFields e.o).asrc == 0 && (dramFields e.o).dest == 0).map fun e => (e.cyc + drl, 2 ^ 300, e))
  (ws.filter fun w => (match lim with | some n => decide (w.1.cyc ≤ n) | none => true) &&
    match w.2 with | some e => decide (w.1.cyc ≤ e.cyc + drl) | none => true).map (fun w => w.1.e.viol (bpc 5) w.1.cyc) ++
  (inBuf.filter fun x => decide (512 < (inBuf.filter fun y => decide (y.1 ≤ x.1) && decide (x.1 < y.2.1)).length)).map
    fun x => x.2.2.viol (bpc 5) x.1

/-! ### Line transfers of a channel -/

/-- A planned line transfer: its cycle, its line within the channel or only its bank key, and the run it belongs to where
the gate cannot know the address (R157). -/
structure Xfer where
  cyc : Nat
  wr : Bool
  e : Ev
  line : Option Nat := none
  key : Nat := 0
  run : Option (Nat × Nat) := none
  deriving Repr

/-- Sub-channel of a transfer, none when it counts on both. -/
def Xfer.sub (x : Xfer) : Option Nat := if x.run.isSome then none else some (x.key % 2)

/-- Transfers of pattern and append operations, with pattern beats counted since the last START (R153). -/
def patXfers : List Ev → Map Nat → List Ev → List Xfer
  | _, _, [] => []
  | starts, cnt, e :: es =>
    let past (s : Ev) : Bool := s.le e
    let cnt := if (starts.takeWhile past).isEmpty then cnt else []
    let f := dramFields e.o
    let n := Map.get 0 cnt f.pat
    let wr := e.op == 0x29
    let two := wr || f.dest == 1
    let beats := if two then [n, n + 1] else [n]
    let x (b : Nat) : Xfer :=
      if f.asrc = 1 then
        let l := e.cfg.patBeat f.pat (2 * e.k + (b - n))
        { cyc := e.cyc, wr := wr, e := e, key := l % 128, run := some (1, e.ord) }
      else let l := e.cfg.patBeat f.pat b; { cyc := e.cyc, wr := wr, e := e, line := some l, key := l % 128 }
    beats.map x ++ patXfers (starts.dropWhile past) (if f.asrc = 1 then cnt else Map.set 0 cnt f.pat (n + beats.length)) es

/-- Every planned line transfer of a channel in order. -/
def xfersOf (p : PSched) (ws : List (Want × Option Ev)) : List Xfer :=
  let own := patXfers (p.strides.filter fun e => e.op == 2) []
    (p.evs.filter fun e => (e.op == 0x28 && (dramFields e.o).asrc == 0) || e.op == 0x29)
  let scan := ws.filterMap fun w => w.2.map fun s =>
    if w.1.entry then ({ cyc := s.cyc, wr := false, e := s, key := 0, run := some (0, w.1.e.ord) } : Xfer)
    else { cyc := s.cyc, wr := false, e := s, key := w.1.key.getD 0 }
  -- the lines of one entry fetch are consecutive
  let scan := ((List.range scan.length).zip scan).map fun x => if x.2.run.isSome then { x.2 with key := x.1 % 128 } else x.2
  sortBy (fun a b => decide (a.cyc ≤ b.cyc)) 64 (own ++ scan)

/-- Two transfers that may use one bank: equal keys, or an unknown address outside its own run (R157). -/
def Xfer.clash (a b : Xfer) : Bool :=
  if a.run.isNone && b.run.isNone then a.key == b.key
  else if a.run == b.run then a.key == b.key else true

/-- Transfers with more than `n` transfers in the 42 cycles that end with theirs. -/
def windowOver (n : Nat) : List Xfer → List Xfer
  | [] => []
  | x :: xs => (((x :: xs).takeWhile fun y => decide (y.cyc ≤ x.cyc + 41))[n]?).toList ++ windowOver n xs

/-- DPC-1, DPC-2, DPC-3 and DPC-5 of one channel. -/
def chanViols (speed op : Nat) (p : PSched) (xs : List Xfer) : List Viol :=
  let at_ (c : Nat) (x : Xfer) : Viol := x.e.viol c x.cyc
  let issues := p.evs.filter fun e => e.op == 0x28 || e.op == 0x29
  let onSub (s : Nat) : List Xfer := xs.filter fun x => x.sub.isNone || x.sub == some s
  (windowOver (lpw speed op) xs).map (at_ (dpc 1)) ++ (windowOver (lps speed op) (onSub 0)).map (at_ (dpc 1)) ++
  (windowOver (lps speed op) (onSub 1)).map (at_ (dpc 1)) ++
  (near Xfer.cyc (bgap op - 1) Xfer.clash xs).map (fun xy => at_ (dpc 2) xy.2) ++
  (near Ev.cyc 15 (fun x y => x.op != y.op) issues).map (fun xy => xy.2.viol (dpc 3) xy.2.cyc) ++
  (near Xfer.cyc 255 (fun x y => x.wr && !y.wr && x.line.isSome && x.line == y.line) xs).map fun xy => at_ (dpc 5) xy.2

/-- DPC-4 and DPC-6 of one channel, for lockstep loads; the last interval ends at the commit cycle, and in a plan without end at the
last cycle stepped, by which every iteration has been seen. -/
def refreshViols (op opMin unit : Nat) (es : List Ev) (stop : Option Nat) : List Viol :=
  let refs := es.filter fun e => e.op == 0x2A
  let inside := near Ev.cyc (rfc op - 1) (fun x y => x.op == 0x2A && y.op != 0x2A)
    (es.filter fun e => e.op == 0x28 || e.op == 0x29 || e.op == 0x2A)
  let sameCyc := near Ev.cyc 0 (fun x y => x.op != 0x2A && y.op == 0x2A)
    (es.filter fun e => e.op == 0x28 || e.op == 0x29 || e.op == 0x2A)
  let g := rgap opMin
  let marks := 0 :: refs.map Ev.cyc
  let late := ((0 :: refs.map Ev.cyc).zip refs).filter fun x => decide (x.1 + g < x.2.cyc)
  let last := marks.getLast?.getD 0
  inside.map (fun xy => xy.2.viol (dpc 4) xy.2.cyc) ++ sameCyc.map (fun xy => xy.1.viol (dpc 4) xy.1.cyc) ++
  late.map (fun x => x.2.viol (dpc 6) (x.1 + g + 1)) ++
  (match stop with
   | some t => if last + g < t then [{ cyc := some (last + g + 1), unit := unit, cond := dpc 6 }] else []
   | none => [])

/-- R199: the last DWR of an output record comes at least 256 cycles before a STEP. -/
def outputViols (steps : List Ev) (outWrites : List Nat) : List Viol :=
  (steps.filter fun s => outWrites.any fun c => decide (c ≤ s.cyc) && decide (s.cyc < c + 256)).map fun s => s.viol 0 s.cyc

/-! ### Bank refills (R187, PSC-8) -/

/-- Whether a channel admits an unplanned line in cycle `c` beside the transfers `xs`: DPC-1 to DPC-3 still hold (R158),
and no DREF window covers it. -/
def admits (speed op line c : Nat) (xs : List Xfer) (refs : List Nat) : Bool :=
  let s := line % 2
  let near_ := xs.filter fun x => decide (x.cyc ≤ c + 127) && decide (c ≤ x.cyc + 127)
  let subOk (x : Xfer) : Bool := x.sub.isNone || x.sub == some s
  let room (n : Nat) (ys : List Xfer) : Bool :=
    (List.range 42).all fun i =>
      -- the window that begins i cycles before c
      let inWin (y : Xfer) : Bool := decide (c ≤ y.cyc + i) && decide (y.cyc + i < c + 42)
      decide ((ys.filter inWin).length < n)
  room (lpw speed op) near_ && room (lps speed op) (near_.filter subOk) &&
  near_.all (fun x => (!(x.run.isSome || x.key == line % 128) || decide (x.cyc + bgap op ≤ c) || decide (c + bgap op ≤ x.cyc)) &&
    (!x.wr || decide (x.cyc + 16 ≤ c) || decide (c + 16 ≤ x.cyc))) &&
  refs.all fun r => !(decide (r ≤ c) && decide (c < r + rfc op))

/-- Place `n` lines from line `line` on in the first cycles from `c` on that take them: the cycle after the last, and the
transfers with them. -/
def placeLines (speed op : Nat) (refs : List Nat) : Nat → Nat → Nat → Nat → List Xfer → Nat × List Xfer
  | 0, _, _, c, xs => (c, xs)
  | _, 0, _, c, xs => (c, xs)
  | fuel + 1, n + 1, line, c, xs =>
    if admits speed op line c xs refs then
      placeLines speed op refs fuel n (line + 1) (if (xs.filter fun x => x.cyc == c).length = 0 then c else c + 1)
        ({ cyc := c, wr := false, e := {}, key := line % 128 } :: xs)
    else placeLines speed op refs fuel (n + 1) line (c + 1) xs

/-- A refill to be made: the SWAP that causes it and the lines of the pair that follows, by channel line. -/
structure Refill where
  swap : Ev
  lines : List (Nat × Nat)
  deriving Repr

/-- 2 µs in cycles at an operating point, rounded up (R187): 64 × 3,200 / MULT. -/
def twoUs (op : Nat) : Nat := (3200 * mult op + 63) / 64

/-- Refill-ready cycles in the order of the refills (R187): each begins 2 µs after its SWAP, or after the end of the one
before it, and uses every slot left free. -/
def refillReady (speed op : Nat) (refs : List Nat) : List Refill → Nat → List Xfer → List (Ev × Nat)
  | [], _, _ => []
  | r :: rs, free, xs =>
    let start := max r.swap.cyc free + twoUs op
    let (done, xs) := r.lines.foldl (fun (acc : Nat × List Xfer) l => placeLines speed op refs (2 ^ 64) l.2 l.1 acc.1 acc.2) (start, xs)
    (r.swap, done) :: refillReady speed op refs rs done xs

end Sys2Proof.Machine
end

