-- ==== Sys2Proof/Machine/GateFlow.lean ====
section
/-! DEFINITION. What rows accumulate and where readouts travel: R43 (PSC-5), R48, R54 and R73 (TPC-16), found by following
readouts line by line through banks, vector registers, routes and DRAM (DEDUCED, log entry 31). -/

namespace Sys2Proof.Machine

/-- A pairing with its anchor: stationary format, streamed format, anchor. -/
abbrev Pairing := Nat × Nat × Int

/-- A piece of a readout: the pairings behind its row, how many contributions it stands for, whether some of them are of a record that
cannot be followed (`opn`), the tiles and slot indices of every row behind it (R53, R73), and for a long record which of its ten lines. -/
structure Tag where
  long : Bool
  pairs : List Pairing
  n : Nat
  opn : Bool
  srcs : List (Nat × Option Nat)
  part : Nat
  deriving DecidableEq, Repr

/-- What a row has accumulated since its last clear: pairings, those of added records among them, contributions, the rows behind it, and
whether a record that cannot be followed is among them. -/
structure RowSt where
  pairs : List Pairing := []
  n : Nat := 0
  srcs : List (Nat × Option Nat) := []
  opn : Bool := false
  deriving DecidableEq, Repr

/-- The row of tile `unit` holds a part of another tile's sum. -/
def RowSt.red (unit : Nat) (x : RowSt) : Bool := x.srcs.any fun s => s.1 != unit

/-- The pairing that a configuration makes active. -/
def Cfg.pairing (c : Cfg) : Pairing := (c.sfmt, c.rfmt, pairAnchor c)

/-- More than one pairing or anchor. -/
def mixedPairs (l : List Pairing) : Bool := decide (1 < l.eraseDups.length)

/-- A row holds an FP32 sum of BF16 passes (R48, R50). -/
def RowSt.bf (x : RowSt) : Bool := x.pairs.any fun p => p.1 == 1

/-- A flit under way that carries pieces of readouts. -/
structure Fly where
  dest : Nat
  due : Nat
  lo : Option Tag
  hi : Option Tag
  deriving Repr

/-- The state of the walk over all issues. -/
structure Flow where
  /-- pieces by unit and line, keyed 2^34 × unit + line -/
  mem : Map (Option Tag) := []
  /-- by unit, register and line of 16 lanes, keyed 256 × unit + 8 × register + line -/
  regs : Map (Option Tag) := []
  rows : Map RowSt := []
  fly : List Fly := []
  /-- readout transfers: unit, cycle, channel, piece -/
  outs : List (Nat × Nat × Nat × Tag) := []
  /-- lines on the way to a long-add: unit, cycle, piece -/
  arr : List (Nat × Nat × Option Tag) := []
  /-- violations of FORMAT_PAIRING, LOOP_BOUND and BANK_PORT -/
  pairing : List Viol := []
  loops : List Viol := []
  ports : List Viol := []
  /-- long-adds of a record whose source cannot be followed, or with such a record behind it (R43): tile, pair, stride -/
  opens : List (Nat × Nat × Nat) := []
  deriving Repr

/-- An issue with the lines it touches: channel of the stream engine and line. -/
structure FEv where
  e : Ev
  lines : List (Nat × Nat)
  deriving Repr

def Flow.at_ (f : Flow) (unit line : Nat) : Option Tag := Map.get none f.mem (unit * 2 ^ 34 + line)
def Flow.put (unit line : Nat) (t : Option Tag) (f : Flow) : Flow := { f with mem := Map.set none f.mem (unit * 2 ^ 34 + line) t }
def Flow.row (f : Flow) (unit r : Nat) : RowSt := Map.get {} f.rows (unit * 128 + r)
def Flow.setRow (unit r : Nat) (x : RowSt) (f : Flow) : Flow := { f with rows := Map.set {} f.rows (unit * 128 + r) x }
def Flow.reg (f : Flow) (unit r i : Nat) : Option Tag := Map.get none f.regs (256 * unit + 8 * (r % 32) + i)
/-- Lines of a register from `lo` on, `n` of them, take the pieces `g` gives. -/
def Flow.setReg (unit r lo n : Nat) (g : Nat → Option Tag) (f : Flow) : Flow :=
  { f with regs := (List.range n).foldl (fun m i => Map.set none m (256 * unit + 8 * (r % 32) + lo + i) (g (lo + i))) f.regs }
def Flow.clearReg (unit r : Nat) (f : Flow) : Flow := f.setReg unit r 0 8 fun _ => none

/-- Take the flit delivered to a unit in a cycle. -/
def Flow.take (unit c : Nat) (f : Flow) : Option Tag × Option Tag × Flow :=
  match f.fly.find? fun x => x.dest == unit && x.due == c with
  | some x => (x.lo, x.hi, { f with fly := f.fly.filter fun y => !(y.dest == unit && y.due == c) })
  | none => (none, none, f)

/-- Send two pieces as a flit over a route word. -/
def Flow.send (w t0 : Nat) (lo hi : Option Tag) (f : Flow) : Flow :=
  let r := routeFields w
  if r.valid && (lo.isSome || hi.isSome) then { f with fly := f.fly ++ [{ dest := destUnit r, due := t0 + r.lat, lo := lo, hi := hi }] } else f

/-- A row takes what stands behind `y`. Beyond 32,768 contributions it breaks R43; a row of an exact-reduce under more than one pairing or
anchor breaks R54. -/
def Flow.accumulate (e : Ev) (r : Nat) (y : RowSt) (f : Flow) : Flow :=
  let x := f.row e.unit r
  let y : RowSt := { pairs := (x.pairs ++ y.pairs).eraseDups, n := x.n + y.n, srcs := (x.srcs ++ y.srcs).eraseDups, opn := x.opn || y.opn }
  let f := f.setRow e.unit r y
  let f := if y.red e.unit && mixedPairs y.pairs then { f with pairing := f.pairing ++ [e.viol 0 e.cyc] } else f
  if 32768 < y.n then { f with loops := f.loops ++ [e.viol (psc 5) e.cyc] } else f

/-- No pairing is active (R40). -/
def Ev.unpaired (e : Ev) : Bool := e.cfg.sfmt == 0 && e.cfg.rfmt == 0

/-- A pass (R43, R48). A row that takes BF16 passes and contributions of the long accumulator is accepted, in either order; its FP32
readout gives the BF16 sum (DESIGN CHOICE, log entry 47). -/
def Flow.pass (e : Ev) (f : Flow) : Flow :=
  let r := e.passAt.2.2.2
  let n := passInputs e.cfg.sfmt e.cfg.rfmt
  let bf := e.cfg.sfmt == 1
  let bad := e.unpaired || (bf && e.cfg.xred.testBit (r / 16))
  let f := if bad then { f with pairing := f.pairing ++ [e.viol 0 e.cyc] } else f
  f.accumulate e r { pairs := [e.cfg.pairing], n := if bf then 0 else if fmtMx e.cfg.sfmt || fmtMx e.cfg.rfmt then n / 32 else n,
                     srcs := if (e.cfg.rowSlot r).isSome then [(e.unit, e.cfg.rowSlot r)] else [] }

/-- A START makes a configuration active: no row group of an exact-reduce holds a BF16 row (R48). -/
def Flow.start (e : Ev) (f : Flow) : Flow :=
  if (List.range 128).any fun r => e.cfg.xred.testBit (r / 16) && (f.row e.unit r).bf then
    { f with pairing := f.pairing ++ [e.viol 0 e.cyc] }
  else f

/-- A readout (R48, R54, R74): the kinds its row may read out as, and the pieces that leave. What a row may read out as is judged by what it
has taken since its clear: one that has taken nothing reads out as INT32 or long under any pairing (DESIGN CHOICE, log entry 47). -/
def Flow.readout (e : Ev) (f : Flow) : Flow :=
  let o := readoutFields e.o
  let x := f.row e.unit o.row
  let bad := e.unpaired || (o.fmt != 0 && !o.toCh) || (o.fmt == 1 && x.pairs.any fun p => !plainInt p.1 p.2.1) ||
    (o.fmt == 2 && x.bf) || (x.red e.unit && mixedPairs (e.cfg.pairing :: x.pairs))
  let f := if bad then { f with pairing := f.pairing ++ [e.viol 0 e.cyc] } else f
  let t (part : Nat) : Tag := { long := o.fmt == 2, pairs := if x.pairs.isEmpty then [e.cfg.pairing] else x.pairs, n := x.n, opn := x.opn,
                                srcs := (x.srcs ++ [(e.unit, e.cfg.rowSlot o.row)]).eraseDups, part := part }
  let f := if o.clear then f.setRow e.unit o.row {} else f
  if o.toCh then
    if o.fmt = 1 then f
    else { f with outs := f.outs ++ ((List.range (readoutLen o)).map fun i =>
      [(e.unit, e.cyc + 4 + i, 0, t (2 * i)), (e.unit, e.cyc + 4 + i, 1, t (2 * i + 1))]).flatten }
  else f.setReg e.unit o.vreg (4 * b2n o.half) 4 fun _ => some (t 0)

/-- What stands behind a record of the pieces `ts` (R43, R54): the pairings and rows of every piece, and the greatest count; a piece that
cannot be followed counts one (DESIGN CHOICE, log entry 31). -/
def recordOf (ts : List (Option Tag)) : RowSt :=
  let known := ts.filterMap fun t => t.filter (·.long)
  let whole := known.length == 10
  { pairs := (known.map (·.pairs)).flatten.eraseDups, n := (known.map (·.n)).foldl max (if whole then 0 else 1),
    srcs := (known.map (·.srcs)).flatten.eraseDups, opn := !whole || known.any (·.opn) }

/-- Rows of more than one tile, not all of one known slot index (R27, R73). -/
def mixedSlots (srcs : List (Nat × Option Nat)) : Bool :=
  decide (1 < (srcs.map (·.1)).eraseDups.length) && (srcs.any (·.2.isNone) || decide (1 < (srcs.map (·.2)).eraseDups.length))

/-- A long-add (R43, R48, R54, R73): the record's pairings, anchors and slots against the row's. -/
def Flow.ladd (e : Ev) (f : Flow) : Flow :=
  let r := bits e.o 0 7
  let x := recordOf ((f.arr.filter fun a => a.1 == e.unit && (a.2.1 == e.cyc || a.2.1 + 1 == e.cyc)).map (·.2.2))
  let f := { f with arr := f.arr.filter fun a => !(a.1 == e.unit && decide (a.2.1 ≤ e.cyc)) }
  let f := if e.unpaired || e.cfg.sfmt == 1 || (f.row e.unit r).bf then { f with pairing := f.pairing ++ [e.viol 0 e.cyc] } else f
  let f := if mixedSlots ((e.unit, e.cfg.rowSlot r) :: (f.row e.unit r).srcs ++ x.srcs) then { f with ports := f.ports ++ [e.viol (tpc 16) e.cyc] } else f
  let at_ := (e.unit, e.seq, e.idx)
  let f := if x.opn && !f.opens.contains at_ then { f with opens := f.opens ++ [at_] } else f
  f.accumulate e r { x with pairs := e.cfg.pairing :: x.pairs }

/-- Two sums join rows of different tiles that carry different slot indices (R27, R73). -/
def slotClash (a b : List (Nat × Option Nat)) : Bool :=
  a.any fun x => b.any fun y => x.1 != y.1 && x.2.isSome && y.2.isSome && x.2 != y.2

/-- A vector operation: sums join partials, copies carry them, every other result is no partial (R53, R73). -/
def Flow.vop (e : Ev) (f : Flow) : Flow :=
  let o := vopFields e.o
  let a := f.reg e.unit o.va
  let b := f.reg e.unit o.vb
  if o.subop = 0 then
    let clash := (List.range 8).any fun i => slotClash (((a i).map (·.srcs)).getD []) (((b i).map (·.srcs)).getD [])
    let f := if clash then { f with ports := f.ports ++ [e.viol (tpc 16) e.cyc] } else f
    f.setReg e.unit o.vd 0 8 fun i => match a i, b i with
      | some x, some y => some { x with srcs := (x.srcs ++ y.srcs).eraseDups }
      | x, y => x.or y
  else if o.subop = 8 then f.setReg e.unit o.vd 0 8 a
  else
    let f := f.clearReg e.unit o.vd
    if o.subop = 10 then f.clearReg e.unit o.vd2 else f

/-- One issue of a tile. -/
def Flow.tile (x : FEv) (f : Flow) : Flow :=
  let e := x.e
  let ts := x.lines.map fun l => f.at_ e.unit l.2
  match e.op with
  | 0x02 => f.start e
  | 0x10 =>
    let o := rdbFields e.o
    if o.dest = 2 then
      f.setReg e.unit (o.vreg + e.k) 0 8 fun i => if o.fmt = 0 then (ts.getD i none).filter (!·.long) else none
    else if o.dest = 3 then { f with arr := f.arr ++ ts.map fun t => (e.unit, e.cyc + 5, t) }
    else if o.dest = 4 then f.send (e.cfg.route e.unit o.route) (e.cyc + 5) (ts.getD 0 none) (ts.getD 1 none)
    else f
  | 0x11 =>
    let o := wrbFields e.o
    let put (g : Nat → Option Tag) (f : Flow) : Flow :=
      ((List.range x.lines.length).zip x.lines).foldl (fun f l => f.put e.unit l.2.2 (g l.1)) f
    if o.src = 0 then
      let (lo, hi, f) := f.take e.unit e.cyc
      put (fun i => if i = 0 then lo else hi) f
    else if o.src = 1 then
      put (fun i => if o.fmt = 0 ∧ !o.scales then f.reg e.unit (o.vreg + e.k) i else none) f
    else
      let outs := f.outs.filter fun y => y.1 == e.unit && y.2.1 == e.cyc
      let f := { f with outs := f.outs.filter fun y => !(y.1 == e.unit && decide (y.2.1 ≤ e.cyc)) }
      put (fun i => (outs.find? fun y => y.2.2.1 == (x.lines.getD i (0, 0)).1).map (·.2.2.2)) f
  | 0x12 => f.pass e
  | 0x14 => f.readout e
  | 0x15 => f.ladd e
  | 0x16 => f.vop e
  | 0x17 => f.clearReg e.unit (vsfuFields e.o).vd
  | _ => f

/-- One issue of a channel, BME or port. -/
def Flow.other (a1 : Bool) (x : FEv) (f : Flow) : Flow :=
  let e := x.e
  match e.op with
  | 0x28 =>
    let o := dramFields e.o
    if o.dest = 1 then
      f.send (e.cfg.route e.unit o.route) (e.cyc + drlLat a1) (f.at_ e.unit (x.lines.getD 0 (0, 0)).2) (f.at_ e.unit (x.lines.getD 1 (0, 0)).2)
    else f
  | 0x29 =>
    let (lo, hi, f) := f.take e.unit e.cyc
    match x.lines with
    | [a, b] => (f.put e.unit a.2 lo).put e.unit b.2 hi
    | _ => f
  | 0x20 | 0x30 => (f.take e.unit e.cyc).2.2
  | _ => f

/-- The issues of one pacer with their lines. -/
def PSched.lined (p : PSched) : List FEv :=
  if p.unit < 192 then
    let bs := p.beats
    p.evs.map fun e =>
      { e := e, lines := if e.op = 0x10 ∨ e.op = 0x11 then (bs.filter fun b => b.ord == e.ord && b.e.k == e.k).map fun b => (b.ch, b.line) else [] }
  else if 320 ≤ p.unit ∧ p.unit < 344 then
    let xs := xfersOf p []
    p.evs.map fun e =>
      { e := e, lines := (xs.filter fun x => x.e.ord == e.ord && x.e.k == e.k).filterMap fun x => x.line.map fun l => (0, l) }
  else p.evs.map fun e => { e := e, lines := [] }

/-- Follow every issue of a schedule in order. -/
def Sched.flow (a1 : Bool) (s : Sched) : Flow :=
  let xs := sortBy (fun (a b : FEv) => decide (a.e.cyc ≤ b.e.cyc)) 64 (s.units.map PSched.lined).flatten
  xs.foldl (fun f x => if x.e.unit < 192 then f.tile x else f.other a1 x) {}

end Sys2Proof.Machine
end

