-- ==== Sys2Proof/Machine/GateNet.lean ====
section
/-! DEFINITION. The load gate on the physical routes: padding and late routes (R183), the network conditions NPC-1 to NPC-5
and NPC-7 (Table 4.14, BPC-6, BPC-7, DPC-8, R308), and the relay conditions RSC-1 and RSC-2 (NPC-6, R227). -/

namespace Sys2Proof.Machine

/-- A flit that an operation sends (R117, R139, R154, R310): its route word, egress port and cycle t0. -/
structure Egr where
  t0 : Nat
  e : Ev
  word : Nat
  port : Nat := 0
  deriving Repr

/-- The flits of one issue. -/
def Ev.egress (a1 : Bool) (e : Ev) : List Egr :=
  let w (m : Nat) : Nat := e.cfg.route e.unit m
  match e.op with
  | 0x10 => let f := rdbFields e.o; if f.dest = 4 then [{ t0 := e.cyc + 5, e := e, word := w f.route, port := f.port }] else []
  | 0x23 => let f := emitFields e.o; (List.range (5 * (f.qn + 1))).map fun i => { t0 := e.cyc + retLat a1 + i, e := e, word := w f.route }
  | 0x28 => let f := dramFields e.o; if f.dest = 1 then [{ t0 := e.cyc + drlLat a1, e := e, word := w f.route }] else []
  | 0x31 => let f := pdlvFields e.o; (List.range (f.nflit + 1)).map fun i => { t0 := e.cyc + 4 + i, e := e, word := w f.route }
  | _ => []

/-- An issue takes a flit from its unit's ingress port: a network-ingress WRB, a QLOAD, a DWR or a PSEND (NPC-4, BPC-7,
DPC-8, R308). -/
def Ev.takes (e : Ev) : Bool :=
  (e.op == 0x11 && (wrbFields e.o).src == 0) || e.op == 0x20 || e.op == 0x29 || e.op == 0x30

/-! ### Physical routes -/

/-- A virtual route word on a map of units: its route, its links and its physical latency L_p. -/
structure Placed where
  r : Route
  dest : Nat
  links : List Hop
  lp : Nat
  deriving Repr

/-- A route word of a virtual unit under the map `phys` of virtual units to pacer identities (R172, Table 7.4). -/
def placeRoute (phys : Nat → Nat) (unit w : Nat) : Placed :=
  let r := routeFields w
  let du := destUnit r
  let ls := hops (routeNodes (pacerNode (phys unit)) (pacerNode (phys du)) r.yx)
  { r := r, dest := du, links := ls, lp := ls.foldl (fun n l => n + l.cost) 0 }

/-- The route is late: L_p above its latency class (R183). -/
def Placed.late (p : Placed) : Bool := decide (p.r.lat < p.lp)

/-- R183 refuses the route: its pad exceeds 31, or it is late where no late route is accepted. -/
def Placed.refused (lateOk : Bool) (p : Placed) : Bool := (p.late && !lateOk) || decide (p.lp + 31 < p.r.lat)

/-- The route word as placement writes it (R172, R183): physical X and Y, and PAD. -/
def placeWord (phys : Nat → Nat) (unit w : Nat) : Nat :=
  let r := routeFields w
  if !r.valid then w
  else
    let p := placeRoute phys unit w
    let n := pacerNode (phys p.dest)
    let pad := if p.late then 0 else r.lat - p.lp
    w - bits w 1 15 * 2 + n.1 * 2 + n.2 * 2 ^ 6 + b2n r.yx * 2 ^ 10 + pad * 2 ^ 11

/-! ### The flits of a schedule on their routes -/

/-- A flit on its physical route. -/
structure Sent where
  g : Egr
  p : Placed

/-- The cycle its delivery is planned in: t0 + LAT, where a late route's planned delivery stands too (R183). -/
def Sent.planned (s : Sent) : Nat := s.g.t0 + s.p.r.lat
/-- The cycle it counts as taken in for NPC-7. -/
def Sent.taken (s : Sent) : Nat := s.g.t0 + max s.p.lp s.p.r.lat
/-- Destination unit and sink are one ingress port. -/
def Sent.dest (s : Sent) : Nat := s.p.dest

/-- Every flit of a schedule, in order. -/
def Sched.flits (a1 : Bool) (s : Sched) : List Egr :=
  sortBy (fun a b => decide (a.t0 ≤ b.t0)) 64 ((s.all.map (Ev.egress a1)).flatten)

/-- A violation at a flit's cycle `c` names the operation that sends it. -/
def Sent.viol (cond c : Nat) (s : Sent) : Viol := s.g.e.viol cond c

/-- Both elements of every pair of neighbours with equal cycles that `same` names, for a list in order of cycles. -/
def collisions {α : Type} (cyc : α → Nat) (same : α → α → Bool) (l : List α) : List α :=
  (near cyc 0 same l).map (fun x => [x.1, x.2]) |>.flatten

/-- NPC-1 to NPC-5 and, for cadence loads, NPC-7. Of a plan that is stepped to cycle `lim` only, deliveries and takes are compared up to
that cycle. -/
def networkViols (cadence : Bool) (lim : Option Nat) (fs : List Egr) (sent : List Sent) (taken : List Ev) : List Viol :=
  let within (c : Nat) : Bool := match lim with | some n => decide (c ≤ n) | none => true
  let takes := taken.filter fun e => within e.cyc
  let onLinks := sortBy (fun (a b : Nat × Nat × Sent) => decide (a.1 ≤ b.1)) 64
    ((sent.map fun s => s.p.links.map fun l => (s.g.t0 + l.at_, l.relay, s)).flatten)
  let due := sortBy (fun (a b : Sent) => decide (a.planned ≤ b.planned)) 64
    (sent.filter fun s => within s.planned)
  (collisions Prod.fst (fun x y => x.2.1 == y.2.1) onLinks).map (fun x => x.2.2.viol (npc 1) x.1) ++
  (collisions Egr.t0 (fun x y => x.e.unit == y.e.unit && x.port == y.port) fs).map (fun g => g.e.viol (npc 2) g.t0) ++
  (collisions Sent.planned (fun x y => x.dest == y.dest) due).map (fun s => s.viol (npc 3) s.planned) ++
  (due.filter fun s => !takes.any fun e => e.cyc == s.planned && e.unit == s.dest).map (fun s => s.viol (npc 4) s.planned) ++
  (takes.filter fun e => !due.any fun s => s.planned == e.cyc && s.dest == e.unit).map (fun e => e.viol (npc 4) e.cyc) ++
  (fs.filter fun g => !(routeFields g.word).valid).map (fun g => g.e.viol (npc 5) g.t0) ++
  (if cadence then
    (sent.filter fun s => decide (32 < (sent.filter fun x =>
      x.dest == s.dest && decide (x.g.t0 ≤ s.g.t0) && decide (s.g.t0 ≤ x.taken + 5)).length)).map fun s => s.viol (npc 7) (s.g.t0 - 5)
   else [])

/-- A crossing in cycle `c` leaves its relay before the lap mark (RSC-1). -/
def Hop.slackOk (h : Hop) (c : Nat) : Bool := decide (c % 65536 + 2 + h.k ≤ 65535)

/-- The first repetition of a crossing in cycle `c` that breaks RSC-1, where it `repeats` every `per` cycles. -/
def badLap (repeats : Bool) (per c : Nat) (h : Hop) : Option Nat :=
  if !h.slackOk c then some c
  else if repeats then
    let g := Nat.gcd per 65536
    if h.slackOk (65536 - g + c % g) then none
    else ((List.range (65536 / g)).map fun m => c + m * per).find? fun c => !h.slackOk c
  else none

/-- RSC-1 of every crossing (NPC-6). -/
def relayViols (forever : Bool) (pre per : Nat) (sent : List Sent) : List Viol :=
  (sent.map fun s => (s.p.links.filter Hop.crosses).filterMap fun l =>
    (badLap (forever && decide (pre ≤ s.g.e.cyc)) per (s.g.t0 + l.at_) l).map fun c => s.viol (npc 6) c).flatten

/-- The route passes a node of a FAILED pace region (RSC-2). -/
def Placed.failed (bad : Nat → Bool) (p : Placed) : Bool :=
  p.links.any fun l => bad (nodeRegion l.a.1 l.a.2) || bad (nodeRegion l.b.1 l.b.2)

/-- A route word of an image: unit, pair, bib of its descriptor, word. -/
structure RouteUse where
  unit : Nat
  seq : Nat
  bib : Nat
  word : Nat
  deriving DecidableEq, Repr

/-- Every VALID route word of an image, each once for its unit. -/
def routeWords (ps : List PairT) : List RouteUse :=
  (ps.map fun p => (p.descs.toList.map fun c => ((c.routes p.unit).filter fun w => bit w 0).map fun w =>
    ({ unit := p.unit, seq := p.seq, bib := (Cfg.bib c).toNat, word := w } : RouteUse)).flatten).flatten.foldl
      (fun acc x => if acc.any fun y => y.unit == x.unit && y.word == x.word then acc else acc ++ [x]) []

/-- A violation of a route word: at the first egress that uses it, else without a cycle (R178). -/
def RouteUse.viol (cond : Nat) (fs : List Egr) (x : RouteUse) : Viol :=
  match fs.find? fun g => g.e.unit == x.unit && g.word == x.word with
  | some g => g.e.viol cond g.t0
  | none => { unit := x.unit, cond := cond, seq := x.seq, bib := x.bib }

end Sys2Proof.Machine
end

