-- ==== Sys2Proof/Machine/Gate.lean ====
section
/-! DEFINITION. The load gate's rule set (R178, R179, Tables 7.5 and 7.6): phases A and B on an image, phase C on a partition
(R181 to R184), in table order, and the map it accepts (R185). -/

namespace Sys2Proof.Machine

/-- The rule that fails: its code and phase, and the violation it reports. -/
structure Verdict where
  code : Nat
  phase : Nat
  viol : Viol := {}
  trans : Nat := 0
  subs : Nat := 0
  late : Nat := 0

/-- The first rule with a violation (R178). -/
def firstRule (phase : Nat) (rules : List (Nat × (Unit → List Viol))) : Option Verdict :=
  rules.findSome? fun r => (firstViol (r.2 ())).map fun v => ({ code := r.1, phase := phase, viol := v } : Verdict)

/-- What the load gate has read of an image. -/
structure Read where
  bytes : List Byte
  h : Hdr
  es : List ManE
  ps : List PairT
  sch : Thunk Sched

def Read.m (r : Read) : Img := leNat r.bytes

/-- An image read in whole. -/
def readOf (bytes : List Byte) : Read :=
  let m := leNat bytes
  let h := hdrOf m
  let es := manifest m h
  let ps := pairsOf m es
  { bytes := bytes, h := h, es := es, ps := ps, sch := Thunk.mk fun _ => schedule h ps }

/-- Bytes of a manifest entry. -/
def Read.content (r : Read) (e : ManE) : List Byte := (r.bytes.drop e.off).take e.size

/-! ### Phase A -/

/-- A PSEND that names a PEER entry without VALID (R308). -/
def Read.peerViols (r : Read) : List Viol :=
  if r.ps.any fun p => decide (384 ≤ p.unit) && p.strides.any fun w => Stride.op w == 0x30 then
    (r.sch.get.units.map fun p => (p.strides.filter fun e =>
      e.op == 0x30 && !(e.cfg.peer (psendFields e.o).peer).valid).map fun e => e.viol 0 e.cyc).flatten
  else []

/-- MALFORMED of an image whose header lies in the area. -/
def Read.malformed (r : Read) : List Viol :=
  let vs := Machine.malformed r.m r.h r.es r.ps
  if vs.isEmpty then r.peerViols else vs

/-- The image with its MEASUREMENT field as zeros. -/
def Read.unmeasured (r : Read) : List Byte := r.bytes.take 0xC0 ++ List.replicate 64 0 ++ r.bytes.drop 0x100

/-- The reduction signature of the reduction table (R56). -/
def Read.signature (r : Read) : Nat :=
  match r.es.find? fun e => e.typ == 5 with
  | some e => bits (sha3_512 (r.content e)).toNat 0 64
  | none => 0

/-- One violation without a place when the condition fails. -/
def need (ok : Bool) : List Viol := if ok then [] else [{}]

/-- The rules of phase A. -/
def Read.phaseA (stepB0 : Bool) (r : Read) : Option Verdict :=
  let h := r.h
  firstRule 1
    [(0x01, fun _ => r.malformed),
     (0x02, fun _ => need (h.measurement == (sha3_512 r.unmeasured).toNat)),
     (0x03, fun _ => need (h.gen == 0 && bits h.isa 8 8 == 1 && bits h.isa 0 8 == 0 && bits h.isa 16 16 == 0)),
     (0x04, fun _ => need (h.redSig == r.signature)),
     (0x05, fun _ => need (h.tprof == 1 || (h.tprof == 2 && stepB0))),
     (0x06, fun _ => bibViols r.ps),
     (0x07, fun _ => pairingViols r.ps ++ (r.sch.get.units.map fun p => openViols p.evs).flatten ++ (r.sch.get.flow h.tpA1).pairing)]

/-! ### Phase B -/

/-- PSC-6 (R110): how every pacer ends, and what comes after the commit cycle. -/
def Sched.commitViols (s : Sched) : List Viol :=
  let commit := s.pl.hdr.commit
  let last (p : PSched) : List Viol := match p.strides.getLast? with
    | some e => [e.viol (psc 6) e.cyc]
    | none => [{ unit := p.unit, cond := psc 6 }]
  (if s.units.any fun p => p.unit == commit then [] else [{ unit := commit, cond := psc 6 }]) ++
  (s.units.map fun p => match p.fin with
    | .halted => if p.unit = commit then last p else []
    | .ended _ => if p.unit = commit then [] else last p
    | .stuck (some e) => if e.op = 5 then [] else [e.viol (psc 6) e.cyc]
    | .stuck none => [{ unit := p.unit, cond := psc 6 }]
    | _ => []).flatten ++
  (match s.tc with
   | some t => (s.units.map fun p => p.evs.filterMap fun e =>
       if t < e.cyc then some (e.viol (psc 6) e.cyc)
       else if t < e.resultAt s.pl.hdr.tpA1 then some (e.viol (psc 6) (e.resultAt s.pl.hdr.tpA1)) else none).flatten
   | none => [])

/-- PSC-9: a SWAP without a next pair, or with an ENTRY beyond it; a sequence that goes round for ever by SWAP alone has no
end (PSC-4, DEDUCED, log entry 30). -/
def Sched.seqViols (s : Sched) : List Viol :=
  (s.units.map fun p => match p.fin with
    | .stuck (some e) => if e.op = 5 then [e.viol (psc 9) e.cyc] else []
    | .endless => [{ unit := p.unit, cond := psc 4 }]
    | _ => []).flatten

/-- The issues of one unit. -/
def Sched.unit (s : Sched) (v : Nat) : PSched := (s.units.find? fun p => p.unit == v).getD { unit := v, fin := .halted, strides := [], evs := [] }

/-- STEP only in the commit pacer of a serving image, which issues it (R197). A STEP of another table that never issues has no schedule
cycle (R178). -/
def Sched.stepViols (s : Sched) : List Viol :=
  let h := s.pl.hdr
  let steps (p : PSched) : List Ev := p.strides.filter fun e => e.op == 8
  strideViols s.pl.pairs 0 (fun p i w => w.op == 8 && !(h.serving && p.unit == h.commit) &&
    (steps (s.unit p.unit)).all fun e => e.seq != p.seq || e.idx != i) ++
  (s.units.map fun p => if h.serving && p.unit == h.commit then [] else (steps p).map fun e => e.viol 0 e.cyc).flatten ++
  (if h.serving && !(s.units.any fun p => p.unit == h.commit && !(steps p).isEmpty) then [{ unit := h.commit }] else [])

/-- The FRAME stride at index `i` begins the body of an outermost loop: only NOPs stand before it in the loop. -/
def PairT.frameOk (p : PairT) (i : Nat) : Bool :=
  match p.loops.filter fun l => decide (l.1 ≤ i) && decide (i ≤ l.2.1) with
  | [l] => (List.range i).all fun j => decide (j < l.1) || Stride.op (p.strides.getD j 0) == 0
  | _ => false

/-- PSC-7 (R119 to R122): every pacer begins its body with FRAME in an outer loop; a body plus one lap fits in P; the
pair that holds FRAME is active at the body's end. -/
def Sched.frameViols (s : Sched) : List Viol :=
  let h := s.pl.hdr
  if !h.frame then []
  else
    let at_ (p : PSched) : List Viol :=
      let fs := p.strides.filter fun e => e.op == 7
      let marks := (List.range fs.length).map fun k => s.pl.mark k ((fs.getD k {}).cyc)
      let ends := fs.drop 1 ++ (match p.fin, p.strides.getLast? with
        | .forever .., _ => []
        | _, some e => [e]
        | _, none => [])
      (if fs.isEmpty then [{ unit := p.unit, cond := psc 7 }] else []) ++
      ((marks.zip ends).filter fun x => decide (h.period * mult h.opDecl < (x.2.cyc - x.1 + 65536) * 640)).map (fun x => x.2.viol (psc 7) x.2.cyc) ++
      ((fs.zip (fs.drop 1)).filter fun x => !(x.1.seq == x.2.seq && x.1.bank == x.2.bank)).map fun x => x.2.viol (psc 7) x.2.cyc
    strideViols s.pl.pairs (psc 7) (fun p i w => w.op == 7 && !p.frameOk i) ++ (s.units.map at_).flatten

/-- What phase B takes from the request and the partition: the owned channels with their speed codes, the mode, OUT_BASE,
and the channel line the image begins at. -/
structure BCtx where
  owned : List Nat
  speeds : List Nat
  cadence : Bool
  outBase : Nat
  copy : Nat × Nat

/-- Lines with their read slots for virtual channel `v`, and its line transfers. -/
def Sched.supplyOf (s : Sched) (v : Nat) : List (Want × Option Ev) :=
  supply (drlLat s.pl.hdr.tpA1) (slotsOf (s.unit (320 + v)).evs) (scansOf (s.unit (256 + v)).evs).1
def Sched.xfers (s : Sched) (v : Nat) : List Xfer := xfersOf (s.unit (320 + v)) (s.supplyOf v)
/-- DREF cycles of a virtual channel. -/
def Sched.refs (s : Sched) (v : Nat) : List Nat := ((s.unit (320 + v)).evs.filter fun e => e.op == 0x2A).map Ev.cyc

/-- PSC-8 (R187): the SWAP after a refill falls at or after the cycle in which the refill is ready. -/
def Sched.refillViols (b : BCtx) (es : List ManE) (s : Sched) : List Viol :=
  let follow (unit q : Nat) : Option Nat := (s.pl.pair unit q).bind s.pl.follows
  let swaps := sortBy (fun (x y : Ev) => decide (x.cyc < y.cyc) || (x.cyc == y.cyc && decide (x.unit ≤ y.unit))) 64
    (s.units.map fun p => p.strides.filter fun e => e.op == 5).flatten
  let refill (e : Ev) : Option Refill := ((follow e.unit e.seq).bind (follow e.unit)).map fun q =>
    { swap := e, lines := (es.filter fun x => (x.typ == 1 || x.typ == 2) && x.unit == e.unit && x.seq == q).map
        fun x => (b.copy.2 + x.off / 64, (x.size + 63) / 64) }
  let v := b.copy.1
  let ready := refillReady (b.speeds.getD v 0) s.pl.hdr.opDecl (s.refs v) (swaps.filterMap refill) 0 (s.xfers v)
  (s.units.map fun p =>
    let mine := p.strides.filter fun e => e.op == 5
    (consecutive mine).filterMap fun xy => match ready.find? fun r => r.1.unit == p.unit && r.1.ord == xy.1.ord with
      | some r => if xy.2.cyc < r.2 then some (xy.2.viol (psc 8) xy.2.cyc) else none
      | none => none).flatten

/-- LOOP_BOUND. -/
def Read.loopBound (b : BCtx) (r : Read) : List Viol :=
  let s := r.sch.get
  strideViols r.ps (psc 4) PairT.badLoop ++ (s.flow r.h.tpA1).loops ++ s.commitViols ++ s.frameViols ++ s.refillViols b r.es ++ s.seqViols ++
    s.stepViols ++ (s.units.map fun p => longScans p.evs).flatten

/-- Cycles of a channel's writes of output records (R199). -/
def Sched.outWrites (b : BCtx) (s : Sched) (v : Nat) : List Nat :=
  (s.xfers v).filterMap fun x => match x.wr, x.line with
    | true, some l =>
      let a := dramAddr (b.owned.getD v 0) (64 * l)
      if b.outBase ≤ a + 63 ∧ a < b.outBase + 256 * s.pl.hdr.slots then some x.cyc else none
    | _, _ => none

/-- A tile data segment that names a hole of its window (R62, TPC-6). -/
def ManE.hole (e : ManE) : Bool := (List.range 16).any fun b => overlap e.dest e.size (b * 2 ^ 19 + 0x60000) 0x20000

/-- BANK_PORT. -/
def Read.bankPort (b : BCtx) (r : Read) : List Viol :=
  let s := r.sch.get
  let a1 := r.h.tpA1
  let steps := (s.unit r.h.commit).strides.filter fun e => e.op == 8
  ((r.es.filter fun e => e.typ == 3 && e.hole).map fun e => ({ unit := e.unit, cond := tpc 6 } : Viol)) ++
  (s.units.map fun p => p.issueViols ++ p.tileViols a1).flatten ++ (s.flow a1).ports ++
  ((List.range r.h.nchan).map fun v =>
    scanViols a1 (s.unit (256 + v)).evs ++ supplyViols (drlLat a1) s.lim (s.supplyOf v) (s.unit (320 + v)).evs ++
    chanViols (b.speeds.getD v 0) r.h.opDecl (s.unit (320 + v)) (s.xfers v) ++
    (if r.h.serving then outputViols steps (s.outWrites b v) else [])).flatten

/-- REFRESH_SLOT, of lockstep loads only. -/
def Read.refreshSlot (b : BCtx) (r : Read) : List Viol :=
  if b.cadence then []
  else
    let s := r.sch.get
    ((List.range r.h.nchan).map fun v => refreshViols r.h.opDecl r.h.opMin (320 + v) (s.unit (320 + v)).evs (s.tc.or s.lim)).flatten

/-- The rules of phase B. -/
def Read.phaseB (b : BCtx) (r : Read) : Option Verdict :=
  firstRule 2 [(0x08, fun _ => r.loopBound b), (0x09, fun _ => r.bankPort b), (0x0A, fun _ => r.refreshSlot b)]

/-! ### Phase C: the map (R181, R182) -/

/-- A placement of the virtual grid. -/
structure PMap where
  /-- virtual tile and physical tile, for every used virtual tile -/
  tiles : List (Nat × Nat)
  trans : Nat × Nat
  /-- unusable tiles and the spares that stand for them -/
  subs : List (Nat × Nat)
  owned : List Nat

/-- Physical pacer identity of a virtual unit (Table 7.3). -/
def PMap.phys (p : PMap) (v : Nat) : Nat :=
  if v < 256 then ((p.tiles.find? fun x => x.1 == v).map (·.2)).getD 0
  else if v < 320 then 256 + p.owned.getD (v - 256) 0
  else if v < 384 then 320 + p.owned.getD (v - 320) 0
  else v

/-- The virtual tiles that a manifest entry, a unit identity or a route destination names (R182). -/
def Read.usedTiles (r : Read) : List Nat :=
  let routes := routeWords r.ps
  (List.range 192).filter fun v => v == r.h.commit || (r.es.any fun e => decide (1 ≤ e.typ) && decide (e.typ ≤ 3) && e.unit == v) ||
    routes.any fun w => destUnit (routeFields w.word) == v

/-- Generator index of the physical region at a column and row (R181). -/
def gridRegion (col row : Nat) : Nat := if col < 4 then 4 * row + col else 12 + 4 * row + (col - 4)

/-- Physical tile of a virtual tile under a translation, before substitution. -/
def gridTile (t : Nat × Nat) (v : Nat) : Nat :=
  let x := v % 16
  let y := v / 16
  tileAt (gridRegion (x / 2 + t.1) (y / 4 + t.2)) (2 * (y % 4) + x % 2)

/-- The translations to be tried, in order (R181). -/
def Hdr.translations (h : Hdr) (regions : BitVec 24) : List (Nat × Nat) :=
  let ts := if h.pinned then [(bits h.pin 1 3, bits h.pin 4 2)]
    else ((List.range 3).map fun r => (List.range 8).map fun c => (c, r)).flatten
  ts.filter fun t => decide (t.1 + h.vgx / 2 ≤ 8) && decide (t.2 + h.vgy / 4 ≤ 3) &&
    (List.range (h.vgx / 2)).all fun a => (List.range (h.vgy / 4)).all fun b => regions.getLsbD (gridRegion (a + t.1) (b + t.2))

/-- Tiles that may stand for an unusable tile, in order (R182); `d11` names the regions D11 free to lend. -/
def spareTiles (grade176 : Bool) (regions : BitVec 24) (d11 : Nat → Bool) (t : Nat) : List Nat :=
  let g := tileRegion t
  let k := g % 12
  let die := g - k
  let at8 (j : Nat) : List Nat := if j ≤ 7 ∧ regions.getLsbD (die + j) then [tileAt (die + j) 8] else []
  (if k ≤ 7 then [tileAt g 8] else []) ++ (if 4 ≤ k then at8 (k - 4) else []) ++ at8 (k + 4) ++
    (if grade176 && d11 (die + 11) then (List.range 8).map (tileAt (die + 11)) else [])

/-- Substitute spares for the unusable tiles of a translation, in ascending order of tile (R182): the substitutions, or the
tile that has no usable spare. -/
def substitute (bad : Nat → Bool) (cands : Nat → List Nat) : List Nat → List (Nat × Nat) → Except Nat (List (Nat × Nat))
  | [], subs => .ok subs
  | t :: ts, subs =>
    match (cands t).find? fun s => !bad s && !subs.any fun x => x.2 == s with
    | some s => substitute bad cands ts (subs ++ [(t, s)])
    | none => .error t

/-- What phase C takes from the request and the device. -/
structure CCtx where
  part : Nat
  owned : List Nat
  cadence : Bool
  strict : Bool
  pwr : Nat
  bad : Nat → Bool
  failedRegion : Nat → Bool
  d11 : Nat → Bool
  regions : BitVec 24
  grade176 : Bool
  area : Nat → Nat
  others : Nat

/-- A range of virtual DRAM addresses lies in the partition's DRAM (R149). -/
def CCtx.inside (c : CCtx) (a n : Nat) : Bool :=
  match c.owned[a / 2 ^ 39]? with
  | some ch => decide (a % 2 ^ 39 + n ≤ c.area ch)
  | none => false

/-- MEMORY_RANGE beyond NCHG (R149, DPC-7): areas, segments, list addresses and pattern lines. The list of a stride that issues is reported
at its issue; one that never issues has no cycle. -/
def Read.memoryViols (c : CCtx) (r : Read) : List Viol :=
  let h := r.h
  let ok := c.inside h.cplBase 8192 && c.inside h.traceBase 65536 && c.inside h.captureBase 1048576 &&
    (r.es.filter (·.typ == 4)).all (fun e => c.inside e.dest e.size)
  let slots := (r.es.filter (·.typ == 7)).map fun e => (List.range (e.size / 16)).filterMap fun i =>
    let w := u r.m (e.off + 16 * i) 16
    if !bit w 127 && !c.inside (bits w 0 48) (8 * bits w 64 16) then some ({ unit := 256 + i / 8192 } : Viol) else none
  let lists := r.sch.get.all.filter fun e => decide (384 ≤ e.unit) && e.op == 0x32
  let outside (o : Nat) : Bool := !c.inside (64 * (qxferFields o).line) (32 * ((qxferFields o).count + 1))
  need ok ++ slots.flatten ++
  (lists.filter fun e => outside e.o).map (fun e => e.viol 0 e.cyc) ++
  strideViols r.ps 0 (fun p i w => decide (384 ≤ p.unit) && w.op == 0x32 && outside w.opnd &&
    !lists.any fun e => e.unit == p.unit && e.seq == p.seq && e.idx == i) ++
  ((List.range h.nchan).map fun v => ((r.sch.get.xfers v).filter fun x => match x.line with
    | some l => decide (c.area (c.owned.getD v 0) < 64 * (l + 1))
    | none => false).map fun x => x.e.viol (dpc 7) x.cyc).flatten

/-- Class entries of the power profile: AVG and PEAK (R171). -/
def Read.classes (r : Read) : List (Nat × Nat) :=
  match r.es.find? fun e => e.typ == 6 with
  | some e => (List.range (u r.m e.off 1)).map fun i => (u r.m (e.off + 8 + 4 * i) 2, u r.m (e.off + 10 + 4 * i) 2)
  | none => []

/-- POWER_PROFILE (R184). -/
def Read.powerOk (c : CCtx) (r : Read) : Bool :=
  (r.classes.all fun x => decide (x.1 ≤ 10 * c.pwr) && decide (x.2 ≤ 11 * c.pwr)) && decide (c.pwr + c.others ≤ 1350)

/-- A verdict on one translation: the map with its relays and late routes, or the rule that failed. -/
def Read.tryMap (c : CCtx) (r : Read) (t : Nat × Nat) : Except Verdict (PMap × List Nat × Nat) :=
  let used := r.usedTiles
  let base := used.map fun v => (v, gridTile t v)
  let code := t.1 + 8 * t.2
  let bads := (List.range 208).filter fun x => c.bad x && base.any fun b => b.2 == x
  match substitute c.bad (spareTiles c.grade176 c.regions c.d11) bads [] with
  | .error x =>
    .error { code := 0x0C, phase := 3, trans := code,
             viol := { unit := ((base.find? fun b => b.2 == x).map (·.1)).getD 0xFFFF, phys := x } }
  | .ok subs =>
    let pm : PMap := { tiles := base.map fun b => (b.1, ((subs.find? fun s => s.1 == b.2).map (·.2)).getD b.2), trans := t,
                       subs := subs, owned := c.owned }
    let a1 := r.h.tpA1
    let lateOk := c.cadence && !c.strict
    let words := routeWords r.ps
    let placed := words.map fun w => (w, placeRoute pm.phys w.unit w.word)
    let s := r.sch.get
    let fs := s.flits a1
    let sent : List Sent := (fs.filter fun g => (routeFields g.word).valid).map fun g => { g := g, p := placeRoute pm.phys g.e.unit g.word }
    let takes := s.all.filter Ev.takes
    let late := if lateOk then (placed.filter fun x => x.2.late).length else 0
    let rules : List (Nat × (Unit → List Viol)) :=
      [(0x0D, fun _ => (placed.filter fun x => x.2.refused lateOk).map fun x => x.1.viol 0 fs),
       (0x0E, fun _ => networkViols c.cadence s.lim fs sent takes ++ (s.units.map fun p => emitViols p.evs).flatten),
       (0x0F, fun _ => relayViols s.lim.isSome s.pre s.per sent ++
          (placed.filter fun x => x.2.failed c.failedRegion).map fun x => x.1.viol (npc 6) fs),
       (0x10, fun _ => r.memoryViols c),
       (0x11, fun _ => need (r.powerOk c))]
    match firstRule 3 rules with
    | some v =>
      .error { v with trans := code, subs := subs.length, late := late,
                      viol := { v.viol with phys := if v.viol.unit = 0xFFFF then 0xFFFF else pm.phys v.viol.unit } }
    | none => .ok (pm, ((sent.map fun s => (s.p.links.filter Hop.crosses).map Hop.relay).flatten).eraseDups, late)

/-- Phase C (R178, R181): NCHG first, then every usable translation until one passes. -/
def Read.phaseC (c : CCtx) (r : Read) : Except Verdict (PMap × List Nat × Nat) :=
  if c.owned.length < r.h.nchan then .error { code := 0x10, phase := 3 }
  else (r.h.translations c.regions).foldl (fun acc t => match acc with
    | .ok x => .ok x
    | .error _ => r.tryMap c t) (.error { code := 0x0B, phase := 3 })

/-! ### The map as the state keeps it (R177, R185) -/

/-- A DRAM data segment is written by a DWR with ASRC 0 (R356). -/
def Read.dramMutable (r : Read) (e : ManE) : Bool :=
  (r.sch.get.xfers (e.dest / 2 ^ 39)).any fun x => x.wr && match x.line with
    | some l => decide (64 * l < e.dest % 2 ^ 39 + e.size) && decide (e.dest % 2 ^ 39 < 64 * (l + 1))
    | none => false

/-- A tile data segment lies in a bank that write beats reach (R356). -/
def Read.tileMutable (r : Read) (e : ManE) : Bool :=
  (r.sch.get.unit e.unit).beats.any fun b => b.wr && decide (e.dest / 2 ^ 19 ≤ b.bank) && decide (b.bank ≤ (e.dest + e.size - 1) / 2 ^ 19)

/-- The schedule entries of the power profile: class and laps. -/
def Read.schedule (r : Read) : List (Nat × Nat) :=
  match r.es.find? fun e => e.typ == 6 with
  | some e => (List.range (u r.m (e.off + 1) 2 % 512)).map fun i =>
      let w := u r.m (e.off + 8 + 4 * u r.m e.off 1 + 4 * i) 4
      (bits w 0 4, bits w 8 24)
  | none => []

/-- The load sequence of a virtual unit by SEQ. -/
def Read.sequence (r : Read) (v : Nat) : List Pair :=
  (r.es.filter fun e => e.typ == 2 && e.unit == v).filterMap fun b =>
    (r.es.find? fun a => a.typ == 1 && a.unit == v && a.seq == b.seq).map fun a =>
      { seq := b.seq, descOff := a.off, descSize := a.size, tabOff := b.off, tabSize := b.size, last := b.last == 1, repeatTo := b.rep }

/-- What the state keeps of an image on its map. -/
def Read.image (q : LoadReq) (r : Read) (x : PMap × List Nat × Nat) : Image :=
  let h := r.h
  let (pm, relays, late) := x
  let units := pairUnits r.ps
  { addr := q.addr, size := h.size, measurement := BitVec.ofNat 512 h.measurement, redSig := BitVec.ofNat 64 h.redSig,
    modelId := BitVec.ofNat 64 h.modelId, tpA1 := h.tpA1, opDecl := h.opDecl, opMin := h.opMin, serving := h.serving, frame := h.frame,
    slots := h.slots, framePeriod := h.period, cplBase := h.cplBase, traceBase := h.traceBase, captureBase := h.captureBase,
    commitPacer := pm.phys h.commit, cadence := q.cadence, strict := q.strict, pwrAlloc := q.pwrAlloc,
    tiles := pm.tiles, chans := pm.owned, nch := h.nchan, trans := pm.trans.1 + 8 * pm.trans.2, subs := pm.subs.length,
    pacers := units.map fun v => (v, pm.phys v),
    pairs := units.foldl (fun m v => Map.set [] m (pm.phys v) (r.sequence v)) [],
    classes := r.classes, schedule := r.schedule,
    repeatFrom := match r.es.find? fun e => e.typ == 6 with | some e => bits (u r.m e.off 4) 17 8 | none => 0,
    segs := (r.es.filter fun e => e.typ == 3 || e.typ == 4).map fun e =>
      { tile := e.typ == 3, unit := e.unit, off := e.off, size := e.size, dest := e.dest,
        mutable_ := if e.typ = 3 then r.tileMutable e else r.dramMutable e },
    slotSeg := (r.es.find? fun e => e.typ == 7).map fun e => (e.off, e.size),
    spares := pm.subs.map (·.2),
    lent := ((pm.subs.map fun s => tileRegion s.2).filter fun g => g % 12 == 11).eraseDups,
    relays := relays, late := late, openSums := (r.sch.get.flow h.tpA1).opens.map fun x => (pm.phys x.1, x.2) }

end Sys2Proof.Machine
end

