-- ==== Sys2Proof/Machine/Place.lean ====
section
/-! DEFINITION. The load gate at work: serving a request (R174 to R178), placement and acceptance (R185 to R187, R327, R346,
R356), alternative maps (R355) and bank refills (R187). -/

namespace Sys2Proof.Machine

/-! ### Reads that stop at an uncorrectable line (R176) -/

/-- Lines for partition `k`; none when one is uncorrectable, after its fault. -/
def Device.strictLines (k c : Nat) : Nat → Nat → Device → Option (List Line) × Device
  | _, 0, d => (some [], d)
  | idx, n + 1, d =>
    match d.readLine c idx (d.keyOf k) with
    | (some l, d) => let (t, d) := Device.strictLines k c (idx + 1) n d; (t.map (l :: ·), d)
    | (none, d) => (none, d.dramUe c idx (2304 + c) 0xFFFFFFFF)

/-- Bytes of a partition's DRAM at a local address. -/
def Device.strictBytes (k a n : Nat) (d : Device) : Option (List Byte) × Device :=
  let o := a % 2 ^ 39
  let (ls, d) := d.strictLines k (a / 2 ^ 39) (o / 64) ((o + n + 63) / 64 - o / 64)
  (ls.map fun ls => ((ls.map Line.bytes).flatten.drop (o % 64)).take n, d)

/-- Write bytes at a local address, after the lines they fill only in part have been read. -/
def Device.strictWrite (k a : Nat) (bs : List Byte) (d : Device) : Bool × Device :=
  let e := a + bs.length
  let (x, d) := if a % 64 = 0 ∨ bs.isEmpty then (some [], d) else d.strictBytes k (a / 64 * 64) 64
  let (y, d) := if e % 64 = 0 ∨ bs.isEmpty then (some [], d) else d.strictBytes k (e / 64 * 64) 64
  if x.isSome && y.isSome then (true, d.writeBytes k a bs) else (false, d)

/-! ### Serving a request -/

/-- The record a verdict is settled with (R180). -/
def Verdict.record (v : Verdict) (us : Nat) : LoadResult :=
  { code := v.code, phase := v.phase, cond := v.viol.cond, unit := v.viol.unit, stride := v.viol.stride, seq := v.viol.seq,
    cycle := v.viol.cyc.getD 0xFFFFFFFFFFFFFFFF, failBib := BitVec.ofNat 32 v.viol.bib, physUnit := v.viol.phys, trans := v.trans,
    subs := v.subs, lateRoutes := min v.late 0xFFFF, verifyUs := BitVec.ofNat 32 us }

/-- What phase B takes from partition and request. -/
def Device.bctx (d : Device) (r : LoadReq) : BCtx :=
  let owned := (d.part r.part).chanList
  { owned := owned, speeds := owned.map fun c => (d.chan c).speed, cadence := r.cadence,
    outBase := (d.part r.part).serving.outBase.toNat, copy := (owned.idxOf (r.addr / 2 ^ 39), r.addr % 2 ^ 39 / 64) }

/-- What phase C takes from the device; `out` is a tile to do without (R355). -/
def Device.cctx (d : Device) (r : LoadReq) (out : Option Nat) : CCtx :=
  let others := partList.filter (· != r.part)
  { part := r.part, owned := (d.part r.part).chanList, cadence := r.cadence, strict := r.strict, pwr := r.pwrAlloc,
    bad := fun t => d.unusable t || out == some t, failedRegion := fun g => (d.region g).failed,
    d11 := fun g => !others.any fun j => (d.part j).lent.contains g, regions := (d.part r.part).regions, grade176 := d.fuses.grade176,
    area := fun c => (d.chan c).area,
    others := ((others.filter fun j => (d.part j).image.isSome).map fun j => (d.part j).pwrAlloc).foldl (· + ·) 0 }

/-- The stored map that a reload may use (R355): the map in force when it is still whole, or the one stored for the one tile
that has become unusable. -/
def Device.storedMap (r : LoadReq) (d : Device) : Option Image :=
  let p := d.part r.part
  match r.reload && p.altReady, p.image with
  | true, some im =>
    match im.tiles.filter fun x => d.unusable x.2 with
    | [] => some im
    | [x] => (p.alts.find? fun a => a.1 == x.2 && a.2.tiles.all fun y => !d.unusable y.2).map (·.2)
    | _ => none
  | _, _ => none

/-- Phases A to C on an image read in whole (R178); a reload repeats only phase C (R177). -/
def Device.judge (r : LoadReq) (rd : Read) (d : Device) : Except Verdict Image :=
  let ab := if r.reload then none else (rd.phaseA d.fuses.stepB0).or (rd.phaseB (d.bctx r))
  match ab with
  | some v => .error v
  | none =>
    match d.storedMap r with
    | some im => .ok im
    | none => (rd.phaseC (d.cctx r none)).map (rd.image r)

/-- A record without a violation. -/
def Device.loadEnd (k code phase : Nat) (d : Device) : Device := d.loadSettle k { code := code, phase := phase }

/-- Read the image of a request: its bytes, or the code and phase that end the request. MODE is settled before the rules of
phase A, and what R170 asks of the header before any other byte is read. A line that cannot be corrected is met in phase A, and on a
reload, which repeats phase C alone, in that (R176, R177). -/
def Device.readImage (r : LoadReq) (d : Device) : Except (Nat × Nat) (List Byte) × Device :=
  let room := (d.chan (r.addr / 2 ^ 39)).area - r.addr % 2 ^ 39
  if d.mb.devMode = some (!r.cadence) ∨ ((d.part r.part).shadow.role = 2 ∧ !r.cadence) then (.error (0x22, 0), d)
  else if room < 256 then (.error (0x01, 1), d)
  else
    match d.strictBytes r.part r.addr 256 with
    | (none, d) => (.error (0x24, if r.reload then 3 else 1), d)
    | (some hb, d) =>
      let h := hdrOf (leNat hb)
      if !bit h.modes (b2n r.cadence) then (.error (0x22, 0), d)
      else if !hdrOk h room then (.error (0x01, 1), d)
      else
        match d.strictBytes r.part r.addr h.size with
        | (none, d) => (.error (0x24, if r.reload then 3 else 1), d)
        | (some bs, d) => (.ok bs, d)

/-- The address of a map record: a line of the marshal area of one of the partition's channels (R185, DEDUCED, log entry 33), below its highest
1 MiB, which holds no record (Table 17.3). Which one is a
free value, the same for the same partition, image and place of the image (R178). -/
def Device.mapAddr (r : LoadReq) (im : Image) (d : Device) : Nat :=
  let x := Config.mapPlace r.part r.addr im.measurement
  let c := im.chans.getD (x % max 1 im.chans.length) 0
  dramAddr c ((d.chan c).area + 64 * (x % (1048576 - 16384 - 7)))

/-- The map record (R185): tiles, channels, the translation. -/
def Image.mapRecord (im : Image) : List Byte :=
  ((List.range 192).map fun v => leBytes 2 (((im.tiles.find? fun x => x.1 == v).map (·.2)).getD 0xFFFF)).flatten ++
  ((List.range 24).map fun v => leBytes 1 (if v < im.nch then im.chans.getD v 0xFF else 0xFF)).flatten ++ leBytes 1 im.trans

/-- Write the map record under the marshal's key. -/
def Device.writeMap (im : Image) (a : Nat) (d : Device) : Device :=
  let bs := im.mapRecord
  d.forAll (List.range 7) fun i d =>
    d.writeLine (a / 2 ^ 39) (a % 2 ^ 39 / 64 + i) d.sec.deviceKey (Line.ofBytes (fitBytes 64 ((bs.drop (64 * i)).take 64)))

/-- The record of an accepted map. -/
def Image.accepted (im : Image) (us addr : Nat) : LoadResult :=
  { phase := 5, trans := im.trans, subs := im.subs, lateRoutes := min im.late 0xFFFF, verifyUs := BitVec.ofNat 32 us,
    mapAddr := BitVec.ofNat 64 addr }

/-- Serve one request: its record, or the placement of the map it has been given. A remap that only reports ends here
(R354, DEDUCED, log entry 33). -/
def Device.serve (r : LoadReq) (d : Device) : Device :=
  let (x, d) := d.readImage r
  match x with
  | .error (code, phase) => d.loadEnd r.part code phase
  | .ok bs =>
    let (us, d) := d.draw
    match d.judge r (readOf bs) with
    | .error v => d.loadSettle r.part (v.record us)
    | .ok im =>
      let a := d.mapAddr r im
      if r.mapOnly then (d.writeMap im a).loadSettle r.part { im.accepted us a with phase := 3 }
      else d.updMb fun m => { m with placing := some r, plan := some { im with mapAddr := a, strict := r.strict, pwrAlloc := r.pwrAlloc },
                                     verdict := im.accepted us a }

/-- A self-test runs on a channel or BME of the partition (R406). -/
def Device.testOnChannel (d : Device) (k : Nat) : Bool :=
  match d.st.running with
  | some t => (t.test == 3 || t.test == 8 || t.test == 9) && (d.part k).groups.getLsbD (t.target.toNat / 3)
  | none => false

/-- The load gate takes the oldest request, one at a time, once firmware runs (R173); self-tests of the device, and of the
partition's channels, make it wait (R406, R407). -/
def Device.opServe (d : Device) : Device :=
  match d.mb.queue with
  | [] => d
  | r :: rest =>
    if d.sec.bootStatus ≠ 2 ∨ d.mb.placing.isSome ∨ d.deepTest ∨ d.testOnChannel r.part then d
    else (d.updMb fun m => { m with queue := rest }).serve r

def execLoadGateServe (s : State) : Host.Outcome State Fault Refusal := .next (s.on Device.opServe)

/-! ### Placement (R187) -/

/-- Physical pacer identity of a virtual unit on an image's map (R172). -/
def Image.phys (im : Image) (v : Nat) : Nat := PMap.phys { tiles := im.tiles, trans := (0, 0), subs := [], owned := im.chans } v

/-- Physical address of a virtual DRAM address on an image's map. -/
def Image.dram (im : Image) (a : Nat) : Nat := dramAddr (im.chans.getD (a / 2 ^ 39) 0) (a % 2 ^ 39)

/-- A descriptor with its route words as placement writes them (R172, R183). -/
def Image.placeCfg (im : Image) (v : Nat) (c : Cfg) : Cfg :=
  (List.range 16).foldl (fun c i =>
    let off := routeBase (pacerKind v) + 4 * i
    let w := c.field off 0 32
    BitVec.ofNat 2048 (c.toNat - w * 2 ^ (8 * off) + placeWord im.phys v w * 2 ^ (8 * off))) c

/-- A stride with the list address of a QXFER as placement writes it (R172). -/
def Image.placeStride (im : Image) (w : Stride) : Stride :=
  if Stride.op w = 0x32 then
    let l := bits w.toNat 32 42
    BitVec.ofNat 128 (w.toNat - l * 2 ^ 32 + im.dram (64 * l) / 64 % 2 ^ 42 * 2 ^ 32)
  else w

/-- List elements of a sparse map from key `base` on. -/
def keyed {α : Type} (base : Nat) (l : List α) : List (Nat × α) := ((List.range l.length).map (base + ·)).zip l

/-- Errors of a pacer's tables (R105, R106): PACER_ACTIVE_BANK. -/
def errActiveBank : Nat := 0x0101

/-- Write a bank pair of virtual unit `v` into one bank of its pacer (R105, R187). This is the load gate's path, and the only one to the
tables: no address of R147 names them, so that PACER_TABLE_DENIED has no occasion. A write to the active bank of a running plan is
refused and logged (R106, R108), and the answer tells the load gate. -/
def Device.writeBank (k : Nat) (im : Image) (v : Nat) (bank : Bool) (q : Pair) (d : Device) : Bool × Device :=
  let x := d.pacer (im.phys v)
  if x.state.active && x.bank == bank then (false, d.countErr (pgPacer (im.phys v)) errActiveBank)
  else match d.strictBytes k (im.addr + q.descOff) q.descSize with
  | (none, d) => (false, d)
  | (some db, d) =>
    match d.strictBytes k (im.addr + q.tabOff) q.tabSize with
    | (none, d) => (false, d)
    | (some tb, d) =>
      let descs := (chunks 256 (q.descSize / 256) db).map fun b => im.placeCfg v (BitVec.ofNat 2048 (leNat b))
      let strides := (chunks 16 (q.tabSize / 16) tb).map fun b => im.placeStride (BitVec.ofNat 128 (leNat b))
      let n := b2n bank
      (true, (d.dropPacerUpsets (im.phys v) n).updPacer (im.phys v) fun x =>
        { x with
          ready := false
          descs := (keyed (64 * n) descs).foldl (fun m e => Map.set 0 m e.1 e.2) (x.descs.filter fun e => e.1 / 64 != n)
          table := (keyed (2048 * n) strides).foldl (fun m e => Map.set 0 m e.1 e.2) (x.table.filter fun e => e.1 / 2048 != n) })

/-- BANK_READY is set in cycle `c` (R107). -/
def Pacer.setReady (c : Nat) (x : Pacer) : Pacer := { x with ready := true, readyCyc := c }

/-- Apply a step that may fail to every element, stopping at the first failure. -/
def Device.eachOk {α : Type} (f : α → Device → Bool × Device) : List α → Device → Bool × Device
  | [], d => (true, d)
  | x :: xs, d => match f x d with
    | (true, d) => Device.eachOk f xs d
    | (false, d) => (false, d)

/-- A segment's bytes to its place (R187 steps 1 and 2). -/
def Device.placeSeg (k : Nat) (im : Image) (s : Seg) (d : Device) : Bool × Device :=
  match d.strictBytes k (im.addr + s.off) s.size with
  | (none, d) => (false, d)
  | (some bs, d) =>
    if s.tile then
      let t := im.phys s.unit
      (true, (keyed 0 (chunks 8 (s.size / 8) bs)).foldl (fun d e =>
        d.writeTileWord t (tileWord (s.dest + 8 * e.1)) (BitVec.ofNat 64 (leNat e.2))) d)
    else d.strictWrite k (im.dram s.dest) bs

/-- Tile data before DRAM data (R187 steps 1 and 2). -/
def tileFirst (l : List Seg) : List Seg := l.filter (·.tile) ++ l.filter fun s => !s.tile

/-- The segments that placement writes: all of them, or those of R356 on a reload. -/
def placedSegs (r : LoadReq) (old : Option Image) (im : Image) : List Seg :=
  match r.reload, old with
  | true, some o => im.segs.filter fun s =>
      s.mutable_ || (s.tile && (im.phys s.unit != o.phys s.unit ||
        (match r.retested with
         | some (t, g) => im.phys s.unit == t && overlap s.dest s.size (g / 24 * 2 ^ 19 + g % 24 * 2 ^ 14) 0x4000
         | none => false)))
  | _, _ => im.segs

/-- One entry of the initial slot table (R130), with its list address translated. -/
def Image.slotEntry (im : Image) (b : List Byte) : SlotEntry :=
  let w := leNat b
  { listAddr := BitVec.ofNat 48 (im.dram (bits w 0 48)), pages := bits w 64 16, qpos := BitVec.ofNat 31 (bits w 96 31), empty := bit w 127 }

/-- The slot tables of the partition's BMEs (R130, R187 step 3): EMPTY, then the initial slot table. -/
def Device.placeSlots (k : Nat) (im : Image) (d : Device) : Bool × Device :=
  let d := d.forAll im.chans fun c d => d.updBme c fun b => { b with slots := [] }
  match im.slotSeg with
  | none => (true, d)
  | some (off, size) =>
    match d.strictBytes k (im.addr + off) size with
    | (none, d) => (false, d)
    | (some bs, d) =>
      (true, (keyed 0 (chunks 16 (size / 16) bs)).foldl (fun d e =>
        d.updBme (im.chans.getD (e.1 / 8192) 0) fun b => { b with slots := Map.set {} b.slots (e.1 % 8192) (im.slotEntry e.2) }) d)

/-- The first two banks of one pacer (R187 step 4). -/
def Device.placeBanks (k : Nat) (im : Image) (v : Nat) (d : Device) : Bool × Device :=
  let p := im.phys v
  let ps := Map.get [] im.pairs p
  match ps.find? (·.seq == 0) with
  | none => (true, d)
  | some a =>
    match d.writeBank k im v false a with
    | (false, d) => (false, d)
    | (true, d) =>
      let next := if a.last then a.repeatTo else 1
      match ps.find? (·.seq == next) with
      | none => (true, d)
      | some b =>
        match d.writeBank k im v true b with
        | (false, d) => (false, d)
        | (true, d) => (true, d.updPacer p (Pacer.setReady d.cyc))

/-- Latency pads of the placed units (R186, Table 7.8). -/
def Device.placePads (im : Image) (d : Device) : Device :=
  let on := im.tpA1 && d.fuses.stepB0
  let d := d.forAll (im.tiles.map (·.2)) fun t d => d.updTile t fun x => { x with sfuPad := if on then 2 else 0 }
  d.forAll im.chans fun c d =>
    (d.updBme c fun x => { x with retPad := if on then 4 else 0 }).updChan c fun x => { x with drlPad := if on then 8 else 0 }

/-- Placement in the order of R187; a tile that becomes a substitute is reset first (R408), its array clear included. -/
def Device.place_ (r : LoadReq) (im : Image) (d : Device) : Bool × Device :=
  let k := r.part
  let old := (d.part k).image
  let fresh := im.spares.filter fun t => !(match old with | some o => r.reload && o.spares.contains t | none => false)
  let d := d.forAll fresh Device.tileZero
  let d := d.forAll (im.tiles.map (·.2)) fun t d => d.updTile t fun x => { x with compute := 0, modeBusy := [] }
  match Device.eachOk (Device.placeSeg k im) (tileFirst (placedSegs r old im)) d with
  | (false, d) => (false, d)
  | (true, d) =>
    match d.placeSlots k im with
    | (false, d) => (false, d)
    | (true, d) =>
      match Device.eachOk (Device.placeBanks k im) (im.pacers.map (·.1)) d with
      | (false, d) => (false, d)
      | (true, d) => (true, d.placePads im)

/-- Ports whose pacers an image uses. -/
def Image.ports (im : Image) : List Nat := ((im.pacers.map (·.2)).filter fun p => decide (384 ≤ p)).map (· - 384)

/-- OWNER registers at an acceptance (R346, R225, R327): every placed unit names the new PCID, no other unit names the
partition, and the window slots of the image's ports are empty. -/
def Device.own (k : Nat) (im : Image) (d : Device) : Device :=
  let d := d.clearOwners k
  let o := d.pcid k
  let d := d.forAll (im.tiles.map (·.2)) fun t d => d.updTile t fun x => { x with owner := o, substituted := im.spares.contains t }
  let d := d.forAll im.chans fun c d => (d.updBme c fun x => { x with owner := o }).updChan c fun x => { x with owner := o }
  let d := d.forAll im.ports fun i d => d.updPort i fun x => { x with owner := o, windows := (List.range 64).map fun w => (w, { owner := o }) }
  let d := d.forAll (List.range 24) Device.regate
  d.updClk fun c => { c with users := im.relays.foldl (fun m r => Map.upd [] m r fun us => us ++ [(k, o)]) c.users }

/-- Bytes that a reload rewrites with no tile substituted (R356). -/
def Image.reloadBytes (im : Image) : Nat := ((im.segs.filter (·.mutable_)).map (·.size)).foldl (· + ·) 0

/-- Acceptance (R174, R175, R177, R185, R303, R345). -/
def Device.accept (r : LoadReq) (im : Image) (d : Device) : Device :=
  let k := r.part
  let d := d.updPart k fun p =>
    { p with
      gen := nextGen p.gen
      image := some im
      verified := some im.measurement
      roRanges := if p.roRanges.contains (im.addr, im.size) then p.roRanges else p.roRanges ++ [(im.addr, im.size)]
      lent := (p.lent ++ im.lent).eraseDups
      cc := []
      pwrAlloc := im.pwrAlloc
      altReady := false
      alts := []
      reloadBytes := satAdd 0 im.reloadBytes
      serving := { p.serving with slots := im.slots, nch := p.chanList.length, boundary := none, deficits := [] }
      run := { p.run with phase := .loaded, runSeq := 0, cplPos := 0, tracePos := 0, commit := none, abort := none, hold := none, resumed := none,
                          nextFrame := none, refills := [], refilling := none } }
  let d := d.own k im
  let d := d.updMb fun m => { m with placing := none, plan := none, devMode := m.devMode.or (some r.cadence) }
  let d := d.forAll (im.pacers.map (·.2)) fun p d => d.updPacer p fun x => { x with state := .loaded, bank := false, seqPos := 0 }
  let d := d.writeMap im im.mapAddr
  let d := d.loadSettle k d.mb.verdict
  if r.autoStart then d.start k false else d

/-- A tile that placement writes is under test: it is taken back first (R408). -/
def Device.testOnTile (d : Device) (im : Image) : Bool :=
  match d.st.running with
  | some t => (t.test == 1 || t.test == 2) && (im.tiles.any (fun x => x.2 == t.target.toNat) || im.lent.contains (tileRegion t.target.toNat))
  | none => false

/-- Placement of partition `k` ends: the acceptance, or PLACEMENT_FAULT (R176). -/
def Device.opPlaced (k : Nat) (d : Device) : Device :=
  match d.mb.placing, d.mb.plan with
  | some r, some im =>
    if r.part ≠ k ∨ (d.part k).run.reset.isSome ∨ d.testOnTile im then d
    else match d.place_ r im with
      | (true, d) => d.accept r im
      | (false, d) =>
        let d := (d.updMb fun m => { m with placing := none, plan := none }).forAll (im.pacers.map (·.2)) fun p d =>
          d.updPacer p fun x => { x with ready := false }
        d.loadSettle k { d.mb.verdict with code := 0x24, phase := 4, mapAddr := 0 }
  | _, _ => d

def execPlacementDone (k : Nat) (s : State) : Host.Outcome State Fault Refusal :=
  .next (s.on (Device.when (isPart k) (Device.opPlaced k)))

/-! ### Alternative maps (R355) -/

/-- The alternative maps of an accepted image: for each tile of its map, the map without it, where one passes phase C. -/
def Device.altMaps (r : LoadReq) (rd : Read) (im : Image) (d : Device) : List (Nat × Image) :=
  im.tiles.filterMap fun x =>
    match rd.phaseC (d.cctx r (some x.2)) with
    | .ok y => some (x.2, rd.image r y)
    | .error _ => none

/-- The load gate stores an alternative map for each active tile and sets ALT_READY. -/
def Device.opAltMap (k : Nat) (d : Device) : Device :=
  match (d.part k).image with
  | none => d
  | some im =>
    if (d.part k).altReady ∨ d.loading k then d
    else
      let r : LoadReq := { addr := im.addr, part := k, cadence := im.cadence, strict := im.strict, pwrAlloc := im.pwrAlloc }
      match d.strictBytes k im.addr im.size with
      | (none, d) => d
      | (some bs, d) =>
        let alts := d.altMaps r (readOf bs) im
        d.updPart k fun p => { p with altReady := true, alts := alts }

def execAltMapCompute (k : Nat) (s : State) : Host.Outcome State Fault Refusal :=
  .next (s.on (Device.when (isPart k) (Device.opAltMap k)))

/-! ### Bank refills (R187) -/

/-- The refill at the head of the partition's order is written into the inactive bank of its pacer. -/
def Device.opRefill (k : Nat) (d : Device) : Device :=
  let run := (d.part k).run
  match run.refilling, run.refills, (d.part k).image with
  | none, (p, c) :: rest, some im =>
    let x := d.pacer p
    let v := (im.pacers.find? fun e => e.2 == p).map (·.1)
    let next := (d.nextSeq k p x.seqPos).bind fun q => (Map.get [] im.pairs p).find? (·.seq == q)
    let d := d.updRun k fun r => { r with refills := rest }
    match v, next with
    | some v, some q =>
      if !x.state.active then d
      else match d.writeBank k im v (!x.bank) q with
        | (true, d) => d.updRun k fun r => { r with refilling := some (p, c) }
        | (false, d) => d
    | _, _ => d
  | _, _, _ => d

def execBankRefill (k : Nat) (s : State) : Host.Outcome State Fault Refusal :=
  .next (s.on (Device.when (isPart k) (Device.opRefill k)))

/-- The refill under way ends: BANK_READY is set (R107). -/
def Device.opRefillDone (k : Nat) (d : Device) : Device :=
  match (d.part k).run.refilling with
  | none => d
  | some (p, _) => (d.updRun k fun r => { r with refilling := none }).updPacer p (Pacer.setReady d.cyc)

def execBankRefillDone (k : Nat) (s : State) : Host.Outcome State Fault Refusal :=
  .next (s.on (Device.when (isPart k) (Device.opRefillDone k)))

end Sys2Proof.Machine
end

