-- ==== Sys2Proof/Machine/Dispatch.lean ====
section
/-! DEFINITION. One arm per command: the meaning it calls. -/

namespace Sys2Proof.Machine

def exec (i : Instr) (s : State) : Host.Outcome State Fault Refusal :=
  match i with
  | .aonPowerUp => Sys2Proof.Machine.execAonPowerUp s
  | .resetNLow ns => Sys2Proof.Machine.execResetNLow ns s
  | .deviceReset => Sys2Proof.Machine.execDeviceReset s
  | .resetRelease straps => Sys2Proof.Machine.execResetRelease straps s
  | .generatorLockWaitEnd locked => Sys2Proof.Machine.execGeneratorLockWaitEnd locked s
  | .startingGun => Sys2Proof.Machine.execStartingGun s
  | .sagWarn rail mvE mvW mvIo => Sys2Proof.Machine.execSagWarn rail mvE mvW mvIo s
  | .crashRecordDone railsHeld => Sys2Proof.Machine.execCrashRecordDone railsHeld s
  | .sagEpisodeEnd => Sys2Proof.Machine.execSagEpisodeEnd s
  | .sagReset rail => Sys2Proof.Machine.execSagReset rail s
  | .aonRailLoss => Sys2Proof.Machine.execAonRailLoss s
  | .thermalTrip sensor => Sys2Proof.Machine.execThermalTrip sensor s
  | .marshalWdt => Sys2Proof.Machine.execMarshalWdt s
  | .refLoss => Sys2Proof.Machine.execRefLoss s
  | .fwGo => Sys2Proof.Machine.execFwGo s
  | .firmwareVerifyDone => Sys2Proof.Machine.execFirmwareVerifyDone s
  | .entFail => Sys2Proof.Machine.execEntFail s
  | .svnReq n fuseOk => Sys2Proof.Machine.execSvnReq n fuseOk s
  | .jtagFuseManufacture f fuseOk => Sys2Proof.Machine.execJtagFuseManufacture f fuseOk s
  | .lcReqProvisioned drill debug fuseOk => Sys2Proof.Machine.execLcReqProvisioned drill debug fuseOk s
  | .lcReqDeployed fuseOk => Sys2Proof.Machine.execLcReqDeployed fuseOk s
  | .lcReqReturned fuseOk => Sys2Proof.Machine.execLcReqReturned fuseOk s
  | .lcReqScrapped fuseOk => Sys2Proof.Machine.execLcReqScrapped fuseOk s
  | .lcReqRevoke fuseOk => Sys2Proof.Machine.execLcReqRevoke fuseOk s
  | .lcReqSettle => Sys2Proof.Machine.execLcReqSettle s
  | .jtagScrap token fuseOk => Sys2Proof.Machine.execJtagScrap token fuseOk s
  | .dbgTokenPresent viaJtag hi => Sys2Proof.Machine.execDbgTokenPresent viaJtag hi s
  | .attGo => Sys2Proof.Machine.execAttGo s
  | .attestSnapshot => Sys2Proof.Machine.execAttestSnapshot s
  | .hostScopeWrite h v device => Sys2Proof.Machine.execHostScopeWrite h v device s
  | .stTokenPresent hi => Sys2Proof.Machine.execStTokenPresent hi s
  | .stGo => Sys2Proof.Machine.execStGo s
  | .lscanRegion cond => Sys2Proof.Machine.execLscanRegion cond s
  | .lscanTile cond => Sys2Proof.Machine.execLscanTile cond s
  | .tileMem cond => Sys2Proof.Machine.execTileMem cond s
  | .bmeMem cond => Sys2Proof.Machine.execBmeMem cond s
  | .reqtabMem cond => Sys2Proof.Machine.execReqtabMem cond s
  | .portMem cond => Sys2Proof.Machine.execPortMem cond s
  | .sdNear cond => Sys2Proof.Machine.execSdNear cond s
  | .sdFar cond => Sys2Proof.Machine.execSdFar cond s
  | .ddrLoop cond => Sys2Proof.Machine.execDdrLoop cond s
  | .ddrMargin cond => Sys2Proof.Machine.execDdrMargin cond s
  | .genLock cond => Sys2Proof.Machine.execGenLock cond s
  | .droopCal cond => Sys2Proof.Machine.execDroopCal cond s
  | .tempXchk cond => Sys2Proof.Machine.execTempXchk cond s
  | .adcRef cond => Sys2Proof.Machine.execAdcRef cond s
  | .stConditionCheck cond o => Sys2Proof.Machine.execStConditionCheck cond o s
  | .stPreempt o => Sys2Proof.Machine.execStPreempt o s
  | .stTestEnd o => Sys2Proof.Machine.execStTestEnd o s
  | .loadGo => Sys2Proof.Machine.execLoadGo s
  | .loadGateServe => Sys2Proof.Machine.execLoadGateServe s
  | .placementDone k => Sys2Proof.Machine.execPlacementDone k s
  | .altMapCompute k => Sys2Proof.Machine.execAltMapCompute k s
  | .bankRefill k => Sys2Proof.Machine.execBankRefill k s
  | .bankRefillDone k => Sys2Proof.Machine.execBankRefillDone k s
  | .partGo => Sys2Proof.Machine.execPartGo s
  | .groupZeroFillDone k => Sys2Proof.Machine.execGroupZeroFillDone k s
  | .teardownDrainDone k => Sys2Proof.Machine.execTeardownDrainDone k s
  | .startGo k => Sys2Proof.Machine.execStartGo k s
  | .heatStart k => Sys2Proof.Machine.execHeatStart k s
  | .regionUngate k => Sys2Proof.Machine.execRegionUngate k s
  | .partitionStart k => Sys2Proof.Machine.execPartitionStart k s
  | .nop p => Sys2Proof.Machine.execNop p s
  | .ldesc p => Sys2Proof.Machine.execLdesc p s
  | .start p => Sys2Proof.Machine.execStart p s
  | .setcnt p => Sys2Proof.Machine.execSetcnt p s
  | .setcmp p => Sys2Proof.Machine.execSetcmp p s
  | .swap p => Sys2Proof.Machine.execSwap p s
  | .trace p => Sys2Proof.Machine.execTrace p s
  | .frame p => Sys2Proof.Machine.execFrame p s
  | .step p => Sys2Proof.Machine.execStep p s
  | .halt p => Sys2Proof.Machine.execHalt p s
  | .endRun p => Sys2Proof.Machine.execEndRun p s
  | .loopBegin p => Sys2Proof.Machine.execLoopBegin p s
  | .loopEnd p => Sys2Proof.Machine.execLoopEnd p s
  | .waitResolve p => Sys2Proof.Machine.execWaitResolve p s
  | .waitWindowExpiry p => Sys2Proof.Machine.execWaitWindowExpiry p s
  | .commit k => Sys2Proof.Machine.execCommit k s
  | .abort p => Sys2Proof.Machine.execAbort p s
  | .abortedRecordWrite k => Sys2Proof.Machine.execAbortedRecordWrite k s
  | .rdb p n => Sys2Proof.Machine.execRdb p n s
  | .wrb p n => Sys2Proof.Machine.execWrb p n s
  | .pass p n => Sys2Proof.Machine.execPass p n s
  | .bankMode p => Sys2Proof.Machine.execBankMode p s
  | .readout p => Sys2Proof.Machine.execReadout p s
  | .ladd p => Sys2Proof.Machine.execLadd p s
  | .vadd p => Sys2Proof.Machine.execVadd p s
  | .vsub p => Sys2Proof.Machine.execVsub p s
  | .vmul p => Sys2Proof.Machine.execVmul p s
  | .vfma p => Sys2Proof.Machine.execVfma p s
  | .vmin p => Sys2Proof.Machine.execVmin p s
  | .vmax p => Sys2Proof.Machine.execVmax p s
  | .vabs p => Sys2Proof.Machine.execVabs p s
  | .vneg p => Sys2Proof.Machine.execVneg p s
  | .vmov p => Sys2Proof.Machine.execVmov p s
  | .vcvt p => Sys2Proof.Machine.execVcvt p s
  | .vqnt p => Sys2Proof.Machine.execVqnt p s
  | .vredadd p => Sys2Proof.Machine.execVredadd p s
  | .vredmax p => Sys2Proof.Machine.execVredmax p s
  | .vbcast p => Sys2Proof.Machine.execVbcast p s
  | .vexp2 p => Sys2Proof.Machine.execVexp2 p s
  | .vrcp p => Sys2Proof.Machine.execVrcp p s
  | .vrsq p => Sys2Proof.Machine.execVrsq p s
  | .vlog p => Sys2Proof.Machine.execVlog p s
  | .qload p n => Sys2Proof.Machine.execQload p n s
  | .openScan p => Sys2Proof.Machine.execOpenScan p s
  | .page p => Sys2Proof.Machine.execPage p s
  | .emit p => Sys2Proof.Machine.execEmit p s
  | .drdPattern p n => Sys2Proof.Machine.execDrdPattern p n s
  | .drdBmeScan p n => Sys2Proof.Machine.execDrdBmeScan p n s
  | .dwrPattern p n => Sys2Proof.Machine.execDwrPattern p n s
  | .dwrAppend p n => Sys2Proof.Machine.execDwrAppend p n s
  | .dref p => Sys2Proof.Machine.execDref p s
  | .dramLineDelivery c => Sys2Proof.Machine.execDramLineDelivery c s
  | .unplannedAccess c a wait => Sys2Proof.Machine.execUnplannedAccess c a wait s
  | .scrub c => Sys2Proof.Machine.execScrub c s
  | .refreshDebtTick c => Sys2Proof.Machine.execRefreshDebtTick c s
  | .selfRefresh c => Sys2Proof.Machine.execSelfRefresh c s
  | .moduleTempRead c celsius => Sys2Proof.Machine.execModuleTempRead c celsius s
  | .channelBringUp modules => Sys2Proof.Machine.execChannelBringUp modules s
  | .psend p n => Sys2Proof.Machine.execPsend p n s
  | .pdlv p => Sys2Proof.Machine.execPdlv p s
  | .qxfer p => Sys2Proof.Machine.execQxfer p s
  | .plannedPutComplete port u => Sys2Proof.Machine.execPlannedPutComplete port u s
  | .flitDelivery node => Sys2Proof.Machine.execFlitDelivery node s
  | .relaySlip r early => Sys2Proof.Machine.execRelaySlip r early s
  | .droopDetect g => Sys2Proof.Machine.execDroopDetect g s
  | .lapSnapshot => Sys2Proof.Machine.execLapSnapshot s
  | .lapMark => Sys2Proof.Machine.execLapMark s
  | .opLapWrite src hi => Sys2Proof.Machine.execOpLapWrite src hi s
  | .regulatorSettled fault => Sys2Proof.Machine.execRegulatorSettled fault s
  | .timeSet hi => Sys2Proof.Machine.execTimeSet hi s
  | .rateAdjWrite v => Sys2Proof.Machine.execRateAdjWrite v s
  | .timeInEdge => Sys2Proof.Machine.execTimeInEdge s
  | .timeOutPulse => Sys2Proof.Machine.execTimeOutPulse s
  | .timeExchange => Sys2Proof.Machine.execTimeExchange s
  | .timeReq port u => Sys2Proof.Machine.execTimeReq port u s
  | .timeRsp port u => Sys2Proof.Machine.execTimeRsp port u s
  | .timeExchangeVoid => Sys2Proof.Machine.execTimeExchangeVoid s
  | .powerSample railsDw partsDw => Sys2Proof.Machine.execPowerSample railsDw partsDw s
  | .monitorCalibrate => Sys2Proof.Machine.execMonitorCalibrate s
  | .forecastEval => Sys2Proof.Machine.execForecastEval s
  | .lsfDeassert west => Sys2Proof.Machine.execLsfDeassert west s
  | .thermalSample readings => Sys2Proof.Machine.execThermalSample readings s
  | .coolantSensorRead inlet outlet => Sys2Proof.Machine.execCoolantSensorRead inlet outlet s
  | .frameWake k => Sys2Proof.Machine.execFrameWake k s
  | .fillTimeout k => Sys2Proof.Machine.execFillTimeout k s
  | .faultEventWrite => Sys2Proof.Machine.execFaultEventWrite s
  | .partReset k capture => Sys2Proof.Machine.execPartReset k capture s
  | .partitionResetDone k => Sys2Proof.Machine.execPartitionResetDone k s
  | .retestDone k failed => Sys2Proof.Machine.execRetestDone k failed s
  | .stallTimerExpiry p => Sys2Proof.Machine.execStallTimerExpiry p s
  | .journalUpdate ok => Sys2Proof.Machine.execJournalUpdate ok s
  | .jclrGo => Sys2Proof.Machine.execJclrGo s
  | .reqtabWordWrite srcId port entry word v => Sys2Proof.Machine.execReqtabWordWrite srcId port entry word v s
  | .stepBoundary k => Sys2Proof.Machine.execStepBoundary k s
  | .cancelReq tag => Sys2Proof.Machine.execCancelReq tag s
  | .cancelDeferredServe k => Sys2Proof.Machine.execCancelDeferredServe k s
  | .tenData3Write v => Sys2Proof.Machine.execTenData3Write v s
  | .put port u => Sys2Proof.Machine.execPut port u s
  | .get port u => Sys2Proof.Machine.execGet port u s
  | .getrsp port u => Sys2Proof.Machine.execGetrsp port u s
  | .ack port u => Sys2Proof.Machine.execAck port u s
  | .cnp port u => Sys2Proof.Machine.execCnp port u s
  | .cancel port u => Sys2Proof.Machine.execCancel port u s
  | .cancelResult port u => Sys2Proof.Machine.execCancelResult port u s
  | .slotSet port u => Sys2Proof.Machine.execSlotSet port u s
  | .stepDone port u => Sys2Proof.Machine.execStepDone port u s
  | .heatAbort port u => Sys2Proof.Machine.execHeatAbort port u s
  | .pfDigest port u => Sys2Proof.Machine.execPfDigest port u s
  | .mirrorDone port u => Sys2Proof.Machine.execMirrorDone port u s
  | .planLapEnd k => Sys2Proof.Machine.execPlanLapEnd k s
  | .streamEntryExpiry source idx => Sys2Proof.Machine.execStreamEntryExpiry source idx s
  | .rateRecover idx => Sys2Proof.Machine.execRateRecover idx s
  | .routeDataWrite v => Sys2Proof.Machine.execRouteDataWrite v s
  | .myIdWrite v => Sys2Proof.Machine.execMyIdWrite v s
  | .ccClr k => Sys2Proof.Machine.execCcClr k s
  | .drillAddrSubmit hi => Sys2Proof.Machine.execDrillAddrSubmit hi s
  | .linkSym n => Sys2Proof.Machine.execLinkSym n s
  | .linkAck n nak => Sys2Proof.Machine.execLinkAck n nak s
  | .kaHold n => Sys2Proof.Machine.execKaHold n s
  | .laneLoss => Sys2Proof.Machine.execLaneLoss s
  | .eccSingle n => Sys2Proof.Machine.execEccSingle n s
  | .eccDouble => Sys2Proof.Machine.execEccDouble s
  | .eccDevice n => Sys2Proof.Machine.execEccDevice n s
  | .pacerStuck => Sys2Proof.Machine.execPacerStuck s
  | .portEnable port v => Sys2Proof.Machine.execPortEnable port v s
  | .portResetReq port => Sys2Proof.Machine.execPortResetReq port s
  | .tileResetReq t => Sys2Proof.Machine.execTileResetReq t s
  | .quiesce slot v => Sys2Proof.Machine.execQuiesce slot v s
  | .peerSignalDetect port lanes => Sys2Proof.Machine.execPeerSignalDetect port lanes s
  | .equalizeDone port rxReady rxPrecode words => Sys2Proof.Machine.execEqualizeDone port rxReady rxPrecode words s
  | .equalizeTimeout port => Sys2Proof.Machine.execEqualizeTimeout port s
  | .alignTimeout port => Sys2Proof.Machine.execAlignTimeout port s
  | .identifyTimeout port => Sys2Proof.Machine.execIdentifyTimeout port s
  | .initTimeout port => Sys2Proof.Machine.execInitTimeout port s
  | .frameReceive port f errs0 errs1 spareErrs => Sys2Proof.Machine.execFrameReceive port f errs0 errs1 spareErrs s
  | .frameTransmit port => Sys2Proof.Machine.execFrameTransmit port s
  | .alignmentMarker port lane m => Sys2Proof.Machine.execAlignmentMarker port lane m s
  | .ka port c => Sys2Proof.Machine.execKa port c s
  | .kaSend port => Sys2Proof.Machine.execKaSend port s
  | .ident port c => Sys2Proof.Machine.execIdent port c s
  | .keepaliveTimeout port => Sys2Proof.Machine.execKeepaliveTimeout port s
  | .autoRetry port => Sys2Proof.Machine.execAutoRetry port s
  | .replayTimeout port => Sys2Proof.Machine.execReplayTimeout port s
  | .laneFault port mask => Sys2Proof.Machine.execLaneFault port mask s
  | .chgReq port c => Sys2Proof.Machine.execChgReq port c s
  | .chgRefuse port c => Sys2Proof.Machine.execChgRefuse port c s
  | .chgAbort port c => Sys2Proof.Machine.execChgAbort port c s
  | .chgReqRepeat port => Sys2Proof.Machine.execChgReqRepeat port s
  | .changeTimeout port => Sys2Proof.Machine.execChangeTimeout port s
  | .equalIdRetry port => Sys2Proof.Machine.execEqualIdRetry port s
  | .exrPrbs port bitErrors => Sys2Proof.Machine.execExrPrbs port bitErrors s
  | .exrLoop port => Sys2Proof.Machine.execExrLoop port s
  | .exrTraffic port => Sys2Proof.Machine.execExrTraffic port s
  | .exrCheck port => Sys2Proof.Machine.execExrCheck port s
  | .injectSymbolErrors port => Sys2Proof.Machine.execInjectSymbolErrors port s
  | .injectAckvClear port => Sys2Proof.Machine.execInjectAckvClear port s
  | .injectNak port => Sys2Proof.Machine.execInjectNak port s
  | .injectKaWithhold port => Sys2Proof.Machine.execInjectKaWithhold port s
  | .injectLaneIdle port => Sys2Proof.Machine.execInjectLaneIdle port s
  | .cntClr slot => Sys2Proof.Machine.execCntClr slot s
  | .intRawW1c slot v hwSet => Sys2Proof.Machine.execIntRawW1c slot v hwSet s
  | .intSet slot v => Sys2Proof.Machine.execIntSet slot v s
  | .errClr slot => Sys2Proof.Machine.execErrClr slot s
  | .traceRingWrite p => Sys2Proof.Machine.execTraceRingWrite p s
  | .registerWrite src addr v => Sys2Proof.Machine.execRegisterWrite src addr v s
  | .sidebandStatus pecOk => Sys2Proof.Machine.execSidebandStatus pecOk s
  | .sidebandSerial pecOk => Sys2Proof.Machine.execSidebandSerial pecOk s
  | .sidebandTemps pecOk => Sys2Proof.Machine.execSidebandTemps pecOk s
  | .sidebandRails pecOk => Sys2Proof.Machine.execSidebandRails pecOk s
  | .devReset pecOk v => Sys2Proof.Machine.execDevReset pecOk v s
  | .flowMax pecOk v => Sys2Proof.Machine.execFlowMax pecOk v s
  | .smbusAlertResponse => Sys2Proof.Machine.execSmbusAlertResponse s
  | .sagWarnNRelease rail => Sys2Proof.Machine.execSagWarnNRelease rail s
  | .entropyHealthPass => Sys2Proof.Machine.execEntropyHealthPass s
  | .retrainEqualizeEnd port got => Sys2Proof.Machine.execRetrainEqualizeEnd port got s
  | .idlePathLock g => Sys2Proof.Machine.execIdlePathLock g s
  | .unitStale port idx => Sys2Proof.Machine.execUnitStale port idx s
  | .laneLossRelease port => Sys2Proof.Machine.execLaneLossRelease port s

end Sys2Proof.Machine
end

