-- ==== Sys2Proof/Machine/Idle.lean ====
section
/-! DEFINITION. What passes when no command waits: one pace cycle (DESIGN CHOICE, log entry 1). -/

namespace Sys2Proof.Machine

/-- One pace cycle, with the snapshot and the lap mark where they fall, or one TKCLK tick while no pace clock runs. -/
def Device.idle (d : Device) : Device :=
  if d.clk.gun = .fired then
    let d := d.opSnapshot
    if d.clk.lapCyc = 65535 then d.opLapMark
    else (d.cycleWork.endPeriod.updClk fun c => { c with lapCyc := c.lapCyc + 1 }).startCycle
  else d.waitTicks 1

end Sys2Proof.Machine
end

