-- ==== Sys2Proof/Machine/Frame.lean ====
section
/-! DEFINITION. The frames that statements use: what sending a unit, an event write, an INT_RAW bit or a counted error may
change, and nothing else. -/

namespace Sys2Proof.Machine

/-- What sending a unit may change in a partition: the QXFER list that held it, and that list's counter (R311); with no list
waiting, nothing. -/
def SendPart (p q : Part) : Prop :=
  q = { p with cc := q.cc, ccOld := q.ccOld, qlists := q.qlists } ∧ (p.qlists = [] → q.cc = p.cc ∧ q.ccOld = p.ccOld ∧ q.qlists = [])

/-- Two devices alike in everything but the transport, the ports and the QXFER lists: a unit may have been sent between them. -/
def SendFrame (d e : Device) : Prop :=
  e = { d with tr := e.tr, ports := e.ports, parts := e.parts } ∧ ∀ k, SendPart (d.part k) (e.part k)

/-- What event writes may change in a partition: the sequence number of its ring (R422), what a shadow has suppressed (R334),
and what sending a unit may. -/
def EventPart (p q : Part) : Prop :=
  q = { p with evt := q.evt, cc := q.cc, ccOld := q.ccOld, qlists := q.qlists,
               shadow := { p.shadow with suppress := q.shadow.suppress } } ∧
    (p.qlists = [] → q.cc = p.cc ∧ q.ccOld = p.ccOld ∧ q.qlists = []) ∧ (p.shadow.role ≠ 2 → q.shadow = p.shadow)

/-- Two devices alike in everything but the transport, the ports, and what event writes change of the partitions and of the
device ring: event records may have been sent between them (R422). -/
def EventFrame (d e : Device) : Prop :=
  e = { d with tr := e.tr, ports := e.ports, parts := e.parts, mb := { d.mb with evt := e.mb.evt } } ∧
    ∀ k, EventPart (d.part k) (e.part k)

/-- Two devices alike in everything but the headers of the register pages, and what an event write changes. -/
def FlagFrame (d e : Device) : Prop :=
  e = { d with pages := e.pages, tr := e.tr, ports := e.ports, parts := e.parts, mb := { d.mb with evt := e.mb.evt } } ∧
    ∀ k, EventPart (d.part k) (e.part k)

/-- As `FlagFrame`, with the header of page `n` the only one that differs. -/
def Flagged (n : Nat) (d e : Device) : Prop := FlagFrame d e ∧ ∀ m, m ≠ n → e.page m = d.page m

/-- Bit `i` of INT_RAW of page `n` is set (R417), an INT event may be sent for it (R423), and nothing else changes. -/
def Signals (n i : Nat) (d e : Device) : Prop :=
  Flagged n d e ∧
    e.page n = { d.page n with intRaw := (d.page n).intRaw ||| BitVec.ofNat 32 (2 ^ i), intSent := (e.page n).intSent }

/-- An error is counted on page `n` (R420): COUNT grows and saturates, the first error's code and bib stand, INT_RAW[0] is
set, and nothing else changes. -/
def Errs (n code : Nat) (d e : Device) : Prop :=
  Flagged n d e ∧
    e.page n =
      { d.page n with errCnt := satInc (d.page n).errCnt,
                      errFirst := if (d.page n).errCnt = 0 then BitVec.ofNat 16 code else (d.page n).errFirst,
                      errBib := if (d.page n).errCnt = 0 then d.pageBib n else (d.page n).errBib,
                      intRaw := (d.page n).intRaw ||| 1, intSent := (e.page n).intSent }

end Sys2Proof.Machine
end

