-- ==== Sys2Proof/Safety.lean ====
section
/-! DEFINITION. What counts as a safe state and a safe step: the addressed memories keep their canonical form and no step
stops; and what it means that a command completes. -/

namespace Sys2Proof

/-- The addressed memories of the device are in canonical form. -/
def SafeState (s : Machine.State) : Prop := Machine.Memory.wf s.dev = true

/-- A step answers a next state, and that state is safe. -/
def SafeStep (s : Machine.State) : Prop := ∃ t, Machine.step s = .next t ∧ SafeState t

/-- The command `c` completes at `s`: it answers a next state, the queue is as it was, and `P` holds of the device then. -/
def Completes (c : Instr) (s : Machine.State) (P : Machine.Device → Prop) : Prop :=
  ∃ t, Machine.exec c s = .next t ∧ t.pending = s.pending ∧ P t.dev

end Sys2Proof
end

