-- ==== Sys2Proof/Certificates/Slice0/Obligations.lean ====
section
/-! DEFINITION. The statements for the provers. Each says what a command or the whole block does, in the terms of the spec's
rules; `Completes` (Sys2Proof/Safety.lean) says that the command answers a next state and what holds of the device then, and
`Signals`, `Errs`, `Flagged` (Sys2Proof/Machine/Frame.lean) say what a raised interrupt bit or a counted error may change. -/

open Sys2Proof Sys2Proof.Machine

/-! ### The block as a machine -/

/-- A step takes the command at the front of the queue and is that command's effect on the state with the queue's rest. -/
def Obligations.StepRunsFrontCommand : Prop :=
  ∀ (s : State) (c : Instr) (rest : List Instr), s.pending = c :: rest → step s = exec c { s with pending := rest }

/-- With nothing queued and no pace clock running, a step lets one TKCLK tick pass: TIME and its fraction grow by
10 × 2^32 + RATE_ADJ in units of 2^-32 unit, and nothing else changes (the pace of an idle step is the model's choice, log
entry 1). -/
def IdleStepGrowsTimeClauses : Prop :=
  ∀ s : State, s.pending = [] → s.dev.clk.gun ≠ .fired →
    ∃ t, step s = .next t ∧ t.pending = [] ∧
      t.dev = { s.dev with clk := { s.dev.clk with now := s.dev.clk.now + 1 },
                           tk := { s.dev.tk with time := t.dev.tk.time, frac := t.dev.tk.frac } } ∧
      t.dev.tk.time.toNat * 2 ^ 32 + t.dev.tk.frac.toNat =
        (s.dev.tk.time.toNat * 2 ^ 32 + s.dev.tk.frac.toNat + ((10 * 2 ^ 32 : Int) + s.dev.tk.rateAdj).toNat) % 2 ^ 96

/-- With nothing queued and the pace clocks running, a step inside a lap, of a device whose pacers, BMEs, channels and partitions are
at rest and whose regions are asked for no stretch, lets one pace cycle pass: the cycle within the lap grows by one and LAP stays
(log entry 1). -/
def IdleStepCountsCyclesClauses : Prop :=
  ∀ s : State, s.pending = [] → s.dev.clk.gun = .fired → s.dev.pacers = [] → s.dev.bmes = [] → s.dev.chans = [] →
    s.dev.parts = [] → s.dev.clk.regions = [] → s.dev.pwr.govLevel = 0 → s.dev.clk.lapCyc < 65535 → s.dev.clk.lapCyc ≠ 65503 →
    ∃ t, step s = .next t ∧ t.pending = [] ∧ t.dev.clk.lapCyc = s.dev.clk.lapCyc + 1 ∧ t.dev.clk.lap = s.dev.clk.lap ∧
      64 + s.dev.clk.phase = mult s.dev.clk.opCur * (t.dev.clk.now - s.dev.clk.now) + t.dev.clk.phase ∧
      t.dev = { s.dev with clk := { s.dev.clk with lapCyc := t.dev.clk.lapCyc, now := t.dev.clk.now, phase := t.dev.clk.phase },
                           tk := { s.dev.tk with time := t.dev.tk.time, frac := t.dev.tk.frac } }

/-- A step with nothing queued, before the starting gun and after it (log entry 1). -/
def Obligations.IdleSteps : Prop := IdleStepGrowsTimeClauses ∧ IdleStepCountsCyclesClauses

/-- Whatever waits, a step answers a next state: no command faults or is refused; and exactly the front of the queue is
gone. No command puts another one into the queue. -/
def Obligations.EveryStepAnswersAndConsumes : Prop :=
  ∀ s : State, ∃ t, step s = .next t ∧ t.pending = s.pending.tail

/-- Right after reset the addressed memories are in canonical form. Model's choice, not the spec's: the memories list nothing at
reset (log entries 4 and 10). -/
def Obligations.ResetMemoryCanonical : Prop := SafeState State.reset

/-- Every step keeps the canonical form of every addressed memory: array memories, DRAM, query sets and the request table. -/
def Obligations.MemoryStaysCanonical : Prop :=
  ∀ s t : State, SafeState s → step s = .next t → SafeState t

/-- Two burnt-fuse records: every bit of the life-cycle row, of the SCRAP pair, of REVOKE and of the SVN thermometer that was burnt
stays burnt, and so the number of burnt steps and the SVN only grow. -/
def FusesGrow (a b : Fuses) : Prop :=
  (∀ j, a.row.getLsbD j = true → b.row.getLsbD j = true) ∧ (∀ j, a.scrapPair.getLsbD j = true → b.scrapPair.getLsbD j = true) ∧
    (∀ j, a.revoke.getLsbD j = true → b.revoke.getLsbD j = true) ∧ (∀ j, a.svnBits.getLsbD j = true → b.svnBits.getLsbD j = true) ∧
    a.steps ≤ b.steps ∧ (a.scrap = true → b.scrap = true) ∧ a.fwSvn ≤ b.fwSvn

/-- No step, resets and loss of every rail included, takes a burnt fuse back: the bits of the life-cycle row, of SCRAP, REVOKE and
FW_SVN only grow. -/
def Obligations.BurntFusesStayBurnt : Prop :=
  ∀ s t : State, step s = .next t → FusesGrow s.dev.fuses t.dev.fuses

/-- The state right after reset, where the spec gives the value: TIME 0 and RATE_ADJ 0 at power-up, TIME_VALID set, no parent,
TX_PERIOD 1 ms; nothing burnt, so BLANK; BOOT_STATUS WAITING; HOST_SCOPE all ones; MY_ID unassigned; the generators at P4;
every pacer IDLE; no partition assigned; no command queued. Model's choice, not the spec's: the registers named here take the
values of log entries 4 and 6 where the spec gives none. -/
def Obligations.ResetState : Prop :=
  State.reset.pending = [] ∧ State.reset.dev.tk.time = 0 ∧ State.reset.dev.tk.frac = 0 ∧ State.reset.dev.tk.rateAdj = 0 ∧
    State.reset.dev.tk.valid = true ∧ State.reset.dev.tk.refLoss = false ∧ State.reset.dev.tk.parent = 31 ∧
    State.reset.dev.tk.txPeriod = 3 ∧ State.reset.dev.fuses.lc = 0 ∧ State.reset.dev.sec.bootStatus = 0 ∧
    State.reset.dev.sec.scopeH0 = 0x1FF ∧ State.reset.dev.sec.scopeH1 = 0x1FF ∧ State.reset.dev.tr.myId = 0xFFFF ∧
    State.reset.dev.clk.opCur = 4 ∧ (∀ p, (State.reset.dev.pacer p).state = .idle) ∧
    (∀ k, (State.reset.dev.part k).regions = 0 ∧ (State.reset.dev.part k).groups = 0 ∧ (State.reset.dev.part k).run.phase = .none) ∧
    (∀ n, State.reset.dev.page n = {}) ∧ (∀ t w, Map.get 0 (State.reset.dev.tile t).mem w = 0)

/-! ### Reset, the starting gun, sag and trip -/

/-- TIME, RATE_ADJ and the time tree, the fuses, the flash, the on-die fault store, the DSEQ history, the self-test results
and FLOW_MAX outlast a device reset; everything else is at its reset value, and the starting gun has not fired. -/
def AfterDeviceReset (d e : Device) : Prop :=
  (e.tk.time = d.tk.time ∧ e.tk.frac = d.tk.frac ∧ e.tk.rateAdj = d.tk.rateAdj ∧ e.tk.parent = d.tk.parent ∧
    e.tk.alt = d.tk.alt ∧ e.tk.txPeriod = d.tk.txPeriod ∧ e.tk.locked = d.tk.locked ∧ e.tk.refLoss = false) ∧
  e.fuses = d.fuses ∧ e.flt.onDie = d.flt.onDie ∧ e.flt.journal0 = d.flt.journal0 ∧ e.flt.journal1 = d.flt.journal1 ∧
  e.flt.crash = d.flt.crash ∧ e.flt.crashNext = d.flt.crashNext ∧ e.flt.seq = d.flt.seq ∧ e.flt.ring = [] ∧ e.mb = { lastDseq := d.mb.lastDseq } ∧ e.thr = { flowMax := d.thr.flowMax } ∧
  e.st = { results := d.st.results, nextEntry := d.st.nextEntry } ∧ e.sec.bootStatus = 0 ∧ e.sec.bootCount = d.sec.bootCount ∧ e.sec.deviceKey = none ∧
  e.sec.debug = false ∧ e.clk.gun = .inReset ∧ e.clk.opCur = 4 ∧ e.clk.lap = 0 ∧ e.pwr = {} ∧ e.tr = {} ∧ e.starter = {} ∧
  e.parts = [] ∧ e.pacers = [] ∧ e.tiles = [] ∧ e.bmes = [] ∧ e.chans = [] ∧ e.net = {} ∧ e.pages = [] ∧
  e.ports = Device.reset.ports

/-- DEVICE_RESET and RESET_N low for 10 µs reset the device; a low pulse shorter than 100 ns, or a low level while a reset is in
progress, starts nothing; while a crash record is being programmed the reset waits. RESET_RELEASE samples the straps and
starts the wait for generator lock. -/
def DeviceResetAndReleaseClauses : Prop :=
  (∀ s : State, s.dev.flt.crashBusy = none → Completes .deviceReset s (AfterDeviceReset s.dev)) ∧
  (∀ s : State, s.dev.flt.crashBusy ≠ none →
    exec .deviceReset s = .next { s with dev := { s.dev with flt := { s.dev.flt with resetDeferred := true } } }) ∧
  (∀ (s : State) (ns : Nat), s.dev.flt.inReset = false → 10000 ≤ ns → exec (.resetNLow ns) s = exec .deviceReset s) ∧
  (∀ (s : State) (ns : Nat), s.dev.flt.inReset = false → 10000 ≤ ns → s.dev.flt.crashBusy = none →
    Completes (.resetNLow ns) s (AfterDeviceReset s.dev)) ∧
  (∀ (s : State) (ns : Nat), ns < 100 ∨ s.dev.flt.inReset = true → exec (.resetNLow ns) s = .next s) ∧
  (∀ (s : State) (v : Byte), s.dev.flt.inReset = true →
    exec (.resetRelease v) s = .next { s with dev := { s.dev with
      flt := { s.dev.flt with inReset := false }, sec := { s.dev.sec with straps := v }, clk := { s.dev.clk with gun := .lockWait } } }) ∧
  (∀ (s : State) (v : Byte), s.dev.flt.inReset = false → exec (.resetRelease v) s = .next s)

/-- The rise of the always-on rail and the loss of that rail: TIME is 0, the on-die fault store, the record numbers and the DSEQ
history are gone, everything is in reset; the fuses and the journal copies stand, and so do the crash records when none was
being programmed. -/
def AlwaysOnRailEdgesClauses : Prop :=
  ∀ (s : State) (c : Instr), c = .aonPowerUp ∨ c = .aonRailLoss → Completes c s fun e =>
    e.tk = {} ∧ e.flt.onDie = [] ∧ e.flt.seq = 0 ∧ e.mb = {} ∧ e.clk.gun = .inReset ∧ e.fuses = s.dev.fuses ∧
    e.flt.journal0 = s.dev.flt.journal0 ∧ e.flt.journal1 = s.dev.flt.journal1 ∧
    (s.dev.flt.crashBusy = none → e.flt.crash = s.dev.flt.crash) ∧ e.parts = [] ∧ e.pacers = [] ∧ e.tiles = [] ∧ e.bmes = [] ∧
    e.chans = [] ∧ e.pages = [] ∧ e.starter = {} ∧ e.tr = {}

/-- Device resets, their release, and the edges of the always-on rail. Model's choice, not the spec's: what a device reset leaves
of registers without a reset value (log entry 4). -/
def Obligations.ResetsAndRails : Prop := DeviceResetAndReleaseClauses ∧ AlwaysOnRailEdgesClauses

/-- The starting gun. At the end of a lock wait every region that reports lock is locked; with all 31 locked, or after the
second wait, the gun is armed, and a region still unlocked then is FAILED. The armed gun begins cycle 0 of lap 0 at P4, GUN_SPLIT
takes TIME, every relay holds empty entries, ports H0 and H1 enter DETECT, and a device past BLANK counts the boot. -/
def Obligations.StartingGunFires : Prop :=
  (∀ (s : State) (l : BitVec 31), s.dev.clk.gun = .lockWait ∨ s.dev.clk.gun = .relock →
    Completes (.generatorLockWaitEnd l) s fun e =>
      (∀ g, g < 31 → (e.region g).locked = ((s.dev.region g).locked || l.getLsbD g)) ∧
      ((∀ g, g < 31 → (e.region g).locked = true) → e.clk.gun = .armed ∧ e.flt = s.dev.flt) ∧
      (s.dev.clk.gun = .lockWait → (∃ g, g < 31 ∧ (e.region g).locked = false) → e.clk.gun = .relock) ∧
      (s.dev.clk.gun = .relock → e.clk.gun = .armed ∧ ∀ g, g < 31 → (e.region g).locked = false → (e.region g).failed = true)) ∧
  (∀ s : State, s.dev.clk.gun = .armed →
    Completes .startingGun s fun e => e = { s.dev with
      clk := { s.dev.clk with gun := .fired, lap := 0, lapCyc := 0, phase := 0, opCur := 4, relays := [] },
      tk := { s.dev.tk with gunSplit := s.dev.tk.time },
      sec := { s.dev.sec with bootCount := if s.dev.fuses.lc = 0 then s.dev.sec.bootCount else s.dev.sec.bootCount + 1 },
      ports := e.ports } ∧
      (∀ i, i = 24 ∨ i = 25 → (e.port i).link = { (s.dev.port i).link with state := .detect, enteredAt := s.dev.clk.now }) ∧
      (∀ i, i ≠ 24 → i ≠ 25 → e.port i = s.dev.port i)) ∧
  (∀ s : State, s.dev.clk.gun ≠ .armed → exec .startingGun s = .next s)

/-- The newest record of the on-die fault store is this one. -/
def NewestRecord (d e : Device) (P : FaultRec → Prop) : Prop :=
  e.flt.seq = d.flt.seq + 1 ∧ P (Map.get {} e.flt.onDie (d.flt.seq.toNat % 256))

/-- Sag and trip. The first warning of an episode asserts SAG_WARN_N, writes a SAG_WARN record of the rail and begins the crash
record, and a further warning only counts in its record; the reset threshold of a core rail, or the absolute minimum of any
rail, writes SAG_RESET and resets the device; 115 °C writes THERMAL_TRIP and defers a reset to the end of the crash record;
MARSHAL_WDT writes its record and resets. The pin, asserted for at least 1 µs, is released when no rail is left, the episode
ends 1 ms later, and a crash record whose rails were held is kept whole, and the slot after it is erased. Model's choice, not
the spec's: the order of a crash record and of a journal update (log entry 38). -/
def Obligations.SagTripAndWatchdog : Prop :=
  (∀ (s : State) (r e w io : Nat), isRail r = true → s.dev.flt.sagEpisode = false → Completes (.sagWarn r e w io) s fun t =>
    NewestRecord s.dev t (fun x => x.code = 0x0501 ∧ x.unit = 2375 ∧ x.specific = [BitVec.ofNat 8 r] ∧ x.split = s.dev.tk.time) ∧
    t.flt.sagPin = true ∧ t.flt.sagEpisode = true ∧ t.flt.sagSeq = s.dev.flt.seq ∧ t.flt.smbAlert = true ∧
    (∃ c, t.flt.crashBusy = some c ∧ c.code = 0x0501 ∧ c.rails = [e, w, io] ∧ c.split = s.dev.tk.time ∧
      c.bootCount = s.dev.sec.bootCount) ∧
    t = { s.dev with flt := t.flt, mb := { s.dev.mb with ringMiss := t.mb.ringMiss } }) ∧
  (∀ (s : State) (r e w io : Nat), isRail r = true → s.dev.flt.sagEpisode = true → Completes (.sagWarn r e w io) s fun t =>
    t.flt.seq = s.dev.flt.seq ∧ t.flt.sagPin = true ∧ t.flt.crashBusy = s.dev.flt.crashBusy ∧ t = { s.dev with flt := t.flt }) ∧
  (∀ (s : State) (r : Nat), isSupply r = true → Completes (.sagReset r) s fun t =>
    NewestRecord s.dev t (fun x => x.code = 0x0502 ∧ x.unit = 2375 ∧ x.action = 4 ∧
      (isRail r = true → x.specific = [BitVec.ofNat 8 r])) ∧ t.clk.gun = .inReset ∧ t.pacers = [] ∧
    t.parts = [] ∧ t.tk.time = s.dev.tk.time ∧ t.flt.crashBusy = none) ∧
  (∀ (s : State) (n : Nat), n < 32 → Completes (.thermalTrip n) s fun t =>
    NewestRecord s.dev t (fun x => x.code = 0x0503 ∧ x.unit = 2376 ∧ x.action = 4 ∧ x.specific = [BitVec.ofNat 8 n]) ∧
    t.flt.resetDeferred = true ∧ t.flt.crashBusy ≠ none ∧
    t = { s.dev with flt := t.flt, mb := { s.dev.mb with ringMiss := t.mb.ringMiss }, freeCtr := t.freeCtr }) ∧
  (∀ s : State, s.dev.flt.crashBusy = none → Completes .marshalWdt s fun t =>
    NewestRecord s.dev t (fun x => x.code = 0x0601 ∧ x.unit = 2370 ∧ x.action = 4) ∧ t.clk.gun = .inReset ∧ t.pacers = []) ∧
  (∀ (s : State) (r : Nat), isRail r = true → s.dev.flt.sagAt + 1600 ≤ s.dev.clk.now → Completes (.sagWarnNRelease r) s fun t =>
    t.flt.sagRails = s.dev.flt.sagRails &&& ~~~(BitVec.ofNat 3 (2 ^ r)) ∧ (t.flt.sagPin = true ↔ t.flt.sagRails ≠ 0) ∧
    (s.dev.flt.sagPin = true → t.flt.sagPin = false → t.flt.sagAt = s.dev.clk.now) ∧
    t = { s.dev with flt := { s.dev.flt with sagRails := t.flt.sagRails, sagPin := t.flt.sagPin, sagAt := t.flt.sagAt } }) ∧
  (∀ (s : State) (r : Nat), s.dev.clk.now < s.dev.flt.sagAt + 1600 → exec (.sagWarnNRelease r) s = .next s) ∧
  (∀ s : State, s.dev.flt.sagPin = false → s.dev.flt.sagAt + 1600000 ≤ s.dev.clk.now →
    exec .sagEpisodeEnd s = .next { s with dev := { s.dev with flt := { s.dev.flt with sagEpisode := false } } }) ∧
  (∀ s : State, s.dev.flt.sagPin = true ∨ s.dev.clk.now < s.dev.flt.sagAt + 1600000 → exec .sagEpisodeEnd s = .next s) ∧
  (∀ (s : State) (c : CrashRec), s.dev.flt.crashBusy = some c → s.dev.flt.resetDeferred = false →
    Completes (.crashRecordDone true) s fun t => Map.get {} t.flt.crash s.dev.flt.crashNext = c ∧ t.flt.crashBusy = none ∧
      t.flt.crashNext = (s.dev.flt.crashNext + 1) % 64 ∧ Map.get {} t.flt.crash t.flt.crashNext = {} ∧
      (∀ n, n ≠ s.dev.flt.crashNext → n ≠ t.flt.crashNext → Map.get {} t.flt.crash n = Map.get {} s.dev.flt.crash n) ∧
      t = { s.dev with flt := { s.dev.flt with crash := t.flt.crash, crashNext := t.flt.crashNext, crashBusy := none } })

/-! ### The timekeeper -/

/-- TIME_SET while no pacer is RUNNING, WAITING, HOLD, SLEEP or DRAINING sets TIME to the pair's value and clears the fraction; any
other TIME_SET is refused and counted in ERR_CNT of the timekeeper page, and TIME stays. -/
def Obligations.TimeSetOnlyWhenQuiet : Prop :=
  ∀ (s : State) (hi : W32),
    ((∀ e ∈ s.dev.pacers, e.2.state ∉ [PState.running, .waiting, .hold, .sleep, .draining]) →
      exec (.timeSet hi) s = .next { s with dev := { s.dev with
        tk := { s.dev.tk with time := hi ++ s.dev.tk.setLo, frac := 0, outDone := hi ++ s.dev.tk.setLo } } }) ∧
    ((∃ e ∈ s.dev.pacers, e.2.state ∈ [PState.running, .waiting, .hold, .sleep, .draining]) →
      Completes (.timeSet hi) s (Errs pgTime errState s.dev))

/-- RATE_ADJ takes a signed value within ±8,589,934; a value beyond is refused with RANGE_REFUSED and counted. A TIME_IN edge is
stamped into TIN_SPLIT and counted; TIME_OUT rises when TIME reaches TOUT_PHASE + k × TOUT_PERIOD, once for each k, and moves nothing
else. The model's choice: edges passed by a step of TIME, or when the registers are written, are not raised (log entry 37). -/
def RateAndTimePinsClauses : Prop :=
  (∀ (s : State) (v : W32), v.toInt.natAbs ≤ 8589934 →
    exec (.rateAdjWrite v) s = .next { s with dev := { s.dev with tk := { s.dev.tk with rateAdj := v.toInt } } }) ∧
  (∀ (s : State) (v : W32), 8589934 < v.toInt.natAbs → Completes (.rateAdjWrite v) s (Errs pgTime errRange s.dev)) ∧
  (∀ s : State, (s.dev.tk.tinDisc = false ∨ s.dev.tk.parent ≠ 31) → Completes .timeInEdge s fun e =>
    Signals pgTime 3 { s.dev with
      tk := { s.dev.tk with tinSplit := s.dev.tk.time, tinCnt := satInc s.dev.tk.tinCnt, tinExpect := none } } e) ∧
  (∀ s : State, s.dev.tk.tinDisc = true → s.dev.tk.parent = 31 → Completes .timeInEdge s fun e =>
    e.tk.tinSplit = s.dev.tk.time ∧ e.tk.tinCnt = satInc s.dev.tk.tinCnt ∧
    (∀ x, s.dev.tk.tinExpect = some x → e.tk.tinExpect = some (x + s.dev.tk.tinPeriod)) ∧
    (s.dev.tk.tinExpect = none → e.tk.tinExpect = some (s.dev.tk.time + s.dev.tk.tinPeriod) ∧ e.tk.time = s.dev.tk.time) ∧
    Flagged pgTime { s.dev with tk := e.tk } e) ∧
  (∀ (s : State) (k : Nat), 3200 ≤ s.dev.tk.toutPeriod.toNat →
    s.dev.tk.outDone.toNat < s.dev.tk.toutPhase.toNat + k * s.dev.tk.toutPeriod.toNat →
    s.dev.tk.toutPhase.toNat + k * s.dev.tk.toutPeriod.toNat ≤ s.dev.tk.time.toNat →
    s.dev.tk.time.toNat < s.dev.tk.toutPhase.toNat + (k + 1) * s.dev.tk.toutPeriod.toNat →
    (k = 0 ∨ s.dev.tk.toutPhase.toNat + (k - 1) * s.dev.tk.toutPeriod.toNat ≤ s.dev.tk.outDone.toNat) →
    exec .timeOutPulse s = .next { s with dev := { s.dev with
      tk := { s.dev.tk with outDone := s.dev.tk.time },
      out := s.dev.out ++ [.timePulse (s.dev.tk.toutPhase + BitVec.ofNat 64 (k * s.dev.tk.toutPeriod.toNat))] } }) ∧
  (∀ s : State, s.dev.tk.toutPeriod.toNat < 3200 ∨ s.dev.tk.time.toNat < s.dev.tk.toutPhase.toNat ∨
    s.dev.tk.time.toNat ≤ s.dev.tk.outDone.toNat → exec .timeOutPulse s = .next s)

/-- The exchange with the parent. Every TX_PERIOD a device with a parent on an active port sends TIME_REQ there with the next
exchange number and stamps t1, which the lane pins see 640 units later (TXL); every active port answers a TIME_REQ with
TIME_RSP carrying its own XID, and T2 the reception time less RXL; a stale cell is discarded and counted. (The model keeps the latest
16 unanswered exchanges, log entry 37.) -/
def TimeRequestAndAnswerClauses : Prop :=
  (∀ s : State, s.dev.tk.onAlt = false → s.dev.tk.parent ≠ 31 → (s.dev.port s.dev.tk.parent).active = true →
    s.dev.tk.lastExch + s.dev.tk.period ≤ s.dev.clk.now → s.dev.tk.exchs.length < 16 → Completes .timeExchange s fun e =>
      e.tk = { s.dev.tk with
        lastExch := s.dev.clk.now
        nextXid := s.dev.tk.nextXid + 1
        exchs := s.dev.tk.exchs ++ [{ xid := s.dev.tk.nextXid, port := s.dev.tk.parent, t1 := s.dev.tk.time + 640, sentNow := s.dev.clk.now }] } ∧
      (e.port s.dev.tk.parent).egReq = (s.dev.port s.dev.tk.parent).egReq ++
        [{ kind := .cell, loc := true, dstId := 0xFFFF, srcId := s.dev.tr.myId, stamp := s.dev.stampNow,
           body := .timeReq s.dev.tk.nextXid }] ∧
      e = { s.dev with tk := e.tk, ports := e.ports }) ∧
  (∀ (s : State) (i : Nat) (u : XUnit) (x : W32), isPort i = true → (s.dev.port i).active = true → u.kind = .cell → u.loc = true →
    u.body = .timeReq x → s.dev.flt.upsets = [] → s.dev.stale u = false → u.mir = false → Completes (.timeReq i u) s fun e =>
      (∃ v ∈ (e.port i).egRsp, v.loc = true ∧ v.body = .timeRsp x (s.dev.tk.time - 1280) 0) ∧
      e = { s.dev with ports := e.ports, tr := e.tr, flt := e.flt, mb := e.mb, pages := e.pages, parts := e.parts }) ∧
  (∀ (s : State) (i : Nat) (u : XUnit) (x : W32) (t2 t3 : W64) (d1 : Device), isPort i = true → (s.dev.port i).active = true →
    u.kind = .cell → u.loc = true → s.dev.flt.upsets = [] → s.dev.stale u = true → d1 = s.dev.takeRx i u →
    (u.body = .timeReq x → exec (.timeReq i u) s =
      .next { s with dev := { d1 with tr := { d1.tr with ageDiscard := satInc d1.tr.ageDiscard } } }) ∧
    (u.body = .timeRsp x t2 t3 → exec (.timeRsp i u) s =
      .next { s with dev := { d1 with tr := { d1.tr with ageDiscard := satInc d1.tr.ageDiscard } } }))

/-- A TIME_RSP that answers an exchange in time, none of its cells replayed and no word of a memory upset: theta is half the difference of the two directions,
rounded down. Off by at most 16,000 units, or while plans run, the rate is slewed and TIME is not stepped; off by more with no
plan running, TIME is stepped by theta. An offset above 64 units clears TIME_LOCKED. -/
def TimeResponseSteersClauses : Prop :=
  ∀ (s : State) (i : Nat) (u : XUnit) (x : W32) (t2 t3 : W64) (ex : Exchange),
    isPort i = true → (s.dev.port i).active = true → u.kind = .cell → u.loc = true → u.body = .timeRsp x t2 t3 →
    i = s.dev.tk.source → s.dev.tk.exchs = [ex] → ex.xid = x → ex.port = i → ex.replayed = false → ex.missed = false →
    s.dev.stale u = false → u.mir = false →
    s.dev.clk.now ≤ ex.sentNow + 2 * s.dev.tk.period → s.dev.flt.upsets = [] →
    Completes (.timeRsp i u) s fun e =>
      let theta := ((t2 - ex.t1).toInt - (s.dev.tk.time - 1280 - t3).toInt) / 2
      e.tk.exchs = [] ∧ e.tk.badRun = 0 ∧ e.tk.voidCnt = s.dev.tk.voidCnt ∧
      (theta.natAbs ≤ 16000 ∨ s.dev.quiet = false → e.tk.time = s.dev.tk.time ∧ e.tk.acc = s.dev.tk.acc + theta ∧
        e.tk.rateAdj = servoRate theta (s.dev.tk.acc + theta) s.dev.tk.period) ∧
      (16000 < theta.natAbs ∧ s.dev.quiet = true → e.tk.time = BitVec.ofInt 64 ((s.dev.tk.time.toNat : Int) + theta) ∧
        e.tk.acc = 0 ∧ e.tk.rateAdj = s.dev.tk.rateAdj) ∧
      (64 < theta.natAbs → e.tk.locked = false)

/-- The worked example of the servo: t1 = 1,000,000, t4 = 1,001,300, t2 = 1,000,900, t3 = 1,001,500, TX_PERIOD 1 ms, acc 0 give
theta 550 and RATE_ADJ 98,041. -/
def ServoWorkedExampleClauses : Prop :=
  (((1000900 - 1000000 : Int) - (1001300 - 1001500)) / 2 = 550) ∧ servoRate 550 550 1600000 = 98041

/-- What an answer does to TIME and RATE_ADJ, with the worked example. -/
def Obligations.TimeSteering : Prop := TimeResponseSteersClauses ∧ ServoWorkedExampleClauses

/-- An exchange unanswered for more than 2 × TX_PERIOD is missing: TIME_VOID_CNT, RATE_ADJ, acc and TIME stay. The fourth bad
exchange in a row on the steering port clears TIME_LOCKED, and moves the device to TIME_ALT if one is named. An answer that comes
after all makes the exchange void: TIME_VOID_CNT grows, it steers nothing, and it is no second bad one. With every exchange answered,
reckoned as missing or not yet due, nothing changes. -/
def UnansweredExchangeIsVoidClauses : Prop :=
  (∀ (s : State) (ex : Exchange) (before rest : List Exchange), s.dev.tk.exchs = before ++ ex :: rest →
    (∀ y ∈ before, y.missed = true ∨ s.dev.clk.now ≤ y.sentNow + 2 * s.dev.tk.period) → ex.missed = false →
    ex.sentNow + 2 * s.dev.tk.period < s.dev.clk.now → Completes .timeExchangeVoid s fun e =>
      e.tk.exchs = s.dev.tk.exchs.map (fun x => if x.xid = ex.xid then { x with missed := true } else x) ∧
      e.tk.voidCnt = s.dev.tk.voidCnt ∧ e.tk.rateAdj = s.dev.tk.rateAdj ∧ e.tk.acc = s.dev.tk.acc ∧
      e.tk.time = s.dev.tk.time ∧
      (ex.port = s.dev.tk.source → 3 ≤ s.dev.tk.badRun →
        e.tk.locked = false ∧ (s.dev.tk.onAlt = false → s.dev.tk.alt ≠ 31 → e.tk.onAlt = true)) ∧
      (ex.port = s.dev.tk.source → s.dev.tk.badRun < 3 → e.tk.locked = s.dev.tk.locked ∧ e.tk.badRun = s.dev.tk.badRun + 1) ∧
      Flagged pgTime { s.dev with tk := e.tk } e) ∧
  (∀ s : State, (∀ y ∈ s.dev.tk.exchs, y.missed = true ∨ s.dev.clk.now ≤ y.sentNow + 2 * s.dev.tk.period) →
    exec .timeExchangeVoid s = .next s) ∧
  (∀ (s : State) (i : Nat) (u : XUnit) (x : W32) (t2 t3 : W64) (ex : Exchange) (d1 : Device), isPort i = true →
    (s.dev.port i).active = true → u.kind = .cell → u.loc = true → u.body = .timeRsp x t2 t3 → s.dev.tk.exchs = [ex] →
    ex.xid = x → ex.port = i → ex.missed = true → s.dev.stale u = false → u.mir = false → s.dev.flt.upsets = [] →
    d1 = s.dev.takeRx i u → exec (.timeRsp i u) s =
      .next { s with dev := { d1 with tk := { d1.tk with exchs := [], voidCnt := satInc d1.tk.voidCnt } } })

/-- Requests for time, their answers, and exchanges that stay unanswered. Model's choice, not the spec's: a port that cannot send
makes a missing exchange, and on TIME_ALT the device goes on asking TIME_PARENT (log entry 37). -/
def Obligations.TimeExchange : Prop := TimeRequestAndAnswerClauses ∧ UnansweredExchangeIsVoidClauses

/-- The loss of the reference: REF_LOSS sets and TIME_VALID clears, a fault record 0x0401 is written, and in lockstep mode every
running partition is aborted with cause 0x01; in cadence mode none is. A second loss changes nothing. -/
def ReferenceLossClauses : Prop :=
  (∀ s : State, s.dev.tk.refLoss = false → Completes .refLoss s fun e =>
    e.tk = { s.dev.tk with refLoss := true, valid := false } ∧
    NewestRecord s.dev e (fun r => r.code = 0x0401 ∧ r.action = if s.dev.lockstep then 5 else 0) ∧
    (∀ k, k < 8 → s.dev.lockstep = true → s.dev.running k = true →
      (e.part k).run.phase = .aborted ∧ ∃ a, (e.part k).run.abort = some a ∧ a.cause = 1 ∧ a.cyc = s.dev.cyc) ∧
    (s.dev.lockstep = false → (∀ k, (e.part k).run = (s.dev.part k).run) ∧ e.pacers = s.dev.pacers)) ∧
  (∀ s : State, s.dev.tk.refLoss = true → exec .refLoss s = .next s)

/-- RATE_ADJ, the pins of the timekeeper, and the loss of the reference. Model's choice, not the spec's: the first edge under
discipline sets the expectation (log entry 22), and edges that a step of TIME or a register write passes are not raised (log
entry 37). -/
def Obligations.PinsAndReferenceLoss : Prop := RateAndTimePinsClauses ∧ ReferenceLossClauses

/-! ### Boot, life cycle and attestation -/

/-- The boot ROM, which runs from the starting gun on. FW_GO starts a verification, a second one while it runs or firmware runs is ignored and counted; firmware that
passes every check in order runs: BOOT_STATUS RUNNING, its measurement and SVN recorded, a device key generated, the request
table zero; firmware that fails sets BOOT_STATUS to the code of the first failed check and counts a try. A source of entropy that
has not passed makes the verification wait. -/
def BootRomVerifiesThenRunsClauses : Prop :=
  (∀ s : State, s.dev.clk.gun ≠ .fired → exec .fwGo s = .next s ∧ exec .firmwareVerifyDone s = .next s) ∧
  (∀ s : State, s.dev.clk.gun = .fired → s.dev.sec.bootStatus ≠ 1 → s.dev.sec.bootStatus ≠ 2 →
    exec .fwGo s = .next { s with dev := { s.dev with
      sec := { s.dev.sec with bootStatus := 1, verifying := true, fwLenGo := s.dev.sec.fwLen } } }) ∧
  (∀ s : State, s.dev.clk.gun = .fired → s.dev.sec.bootStatus = 1 ∨ s.dev.sec.bootStatus = 2 → Completes .fwGo s (Errs pgMailbox 0x0170 s.dev)) ∧
  (∀ (s : State) (c : Nat), s.dev.clk.gun = .fired → s.dev.sec.bootStatus = 1 → s.dev.sec.entropyOk = true → s.dev.fwCheck = some c →
    exec .firmwareVerifyDone s = .next { s with dev := { s.dev with
      sec := { s.dev.sec with bootStatus := c, verifying := false, bootTries := satInc s.dev.sec.bootTries } } }) ∧
  (∀ s : State, s.dev.clk.gun = .fired → s.dev.sec.bootStatus = 1 → s.dev.sec.entropyOk = true → s.dev.fwCheck = none →
    Completes .firmwareVerifyDone s fun e =>
      e.sec.bootStatus = 2 ∧ e.sec.fwMeas = sha3_512 (s.dev.staged 0 0xAA0) ∧ e.sec.fwSvn = s.dev.fwField 8 1 ∧
      e.sec.deviceKey = some s.dev.sec.nextKey ∧ e.sec.nextKey = s.dev.sec.nextKey + 1 ∧ e.starter.table = [] ∧
      e.fuses = s.dev.fuses ∧ e.parts = s.dev.parts ∧ e.tk = s.dev.tk) ∧
  (∀ s : State, s.dev.sec.bootStatus = 1 → s.dev.sec.entropyOk = false → exec .firmwareVerifyDone s = .next s)

/-- The check order: an image whose header is malformed fails with 0x10 whatever else is wrong with it; no image passes in BLANK or
SCRAPPED (0x10 or 0x11); one that passes all checks has a key whose hash is a fuse's, a slot that is not revoked, an SVN not below the
fuses', and a signature that verifies. -/
def BootChecksInOrderClauses : Prop :=
  (∀ d : Device, d.fwField 0 4 ≠ 0x4D574654 ∨ d.fwField 4 2 ≠ 1 ∨ d.fwBodyLen % 64 ≠ 0 ∨ 8388608 < d.fwBodyLen ∨
    d.sec.fwLenGo.toNat ≠ 8192 + d.fwBodyLen → d.fwCheck = some 0x10) ∧
  (∀ d : Device, d.fuses.lc = 0 ∨ d.fuses.lc = 5 → d.fwCheck = some 0x10 ∨ d.fwCheck = some 0x11) ∧
  (∀ d : Device, d.fwCheck = none → sha3_512 (d.staged 0x80 2592) = Map.get 0 d.fuses.vendorHash (d.fwField 0x0C 1) ∧
    d.fuses.revoke.getLsbD (d.fwField 0x0C 1) = false ∧ d.fuses.fwSvn ≤ d.fwField 8 1 ∧
    Config.mldsaVerify (d.staged 0x80 2592) (d.staged 0 0xAA0) (d.staged 0xAA0 4627) = true)

/-- A failing entropy source is noted and told to the device ring; a source that passes again serves the key requests that waited, a
partition's first key among them. -/
def EntropySourceClauses : Prop :=
  (∀ s : State, Completes .entFail s fun e =>
    EventFrame { s.dev with sec := { s.dev.sec with entropyOk := false }, freeCtr := e.freeCtr } e) ∧
  (∀ s : State, s.dev.sec.keyWait = [] →
    exec .entropyHealthPass s = .next { s with dev := { s.dev with sec := { s.dev.sec with entropyOk := true, keyWait := [] } } }) ∧
  (∀ (s : State) (k : Nat), s.dev.sec.keyWait = [.partition k] → (s.dev.part k).key = none →
    Completes .entropyHealthPass s fun e => (e.part k).key = some s.dev.sec.nextKey ∧ e.sec.nextKey = s.dev.sec.nextKey + 1 ∧
      e.sec.entropyOk = true ∧ e.sec.keyWait = [])

/-- The boot ROM, the order of its checks, and the source of entropy it waits for. -/
def Obligations.BootRom : Prop := BootRomVerifiesThenRunsClauses ∧ BootChecksInOrderClauses ∧ EntropySourceClauses

/-- A transition that a security command asks for settles with `code`, its result is signalled, and the fuses are `f`. -/
def LcSettles (d e : Device) (code : Nat) (f : Fuses) : Prop :=
  e.sec.lcResult = code ∧ e.sec.lcValid = true ∧ e.fuses = f ∧ ((e.page pgSecurity).intRaw &&& 2) = 2 ∧ e.tiles = d.tiles ∧
    e.chans = d.chans ∧ e.pacers = d.pacers

/-- Nothing that makes an LC_REQ BUSY is under way. -/
def LcFree (d : Device) : Prop := d.sec.lcWait = none ∧ d.sec.bootStatus ≠ 1 ∧ d.sec.keyWait = []

/-- The life cycle's forward transitions. BLANK becomes MANUFACTURE by JTAG alone; MANUFACTURE becomes PROVISIONED with a seed and the
two hashes burnt; PROVISIONED and RETURNED become DEPLOYED with debug locked at once, until step 9 would be burnt: then EXHAUSTED
and no fuse moves; a transition that Table 16.2 does not list is NOT_PERMITTED, and a request that meets another is BUSY. -/
def LifeCycleForwardClauses : Prop :=
  (∀ (s : State) (f : MfgFuses), s.dev.fuses.lc = 0 → Completes (.jtagFuseManufacture f true) s fun e =>
    e.fuses.lc = 1 ∧ e.fuses.serial = f.serial ∧ e.fuses.tileFuses = f.tileFuses ∧ e.fuses.grade176 = f.grade176 ∧
    e.fuses.row = s.dev.fuses.step.row ∧ e = { s.dev with fuses := e.fuses }) ∧
  (∀ (s : State) (f : MfgFuses) (b : Bool), s.dev.fuses.lc ≠ 0 → exec (.jtagFuseManufacture f b) s = .next s) ∧
  (∀ (s : State) (h g : BitVec 512), LcFree s.dev → s.dev.fuses.lc = 1 → s.dev.sec.entropyOk = true →
    Completes (.lcReqProvisioned h g true) s fun e => e.fuses.idSeed.isSome = true ∧
      LcSettles s.dev e 0 { s.dev.fuses.step with idSeed := e.fuses.idSeed, drillHash := h, debugHash := g } ∧ e.fuses.lc = 2) ∧
  (∀ (s : State) (h g : BitVec 512) (b : Bool), LcFree s.dev → s.dev.fuses.lc ≠ 1 →
    Completes (.lcReqProvisioned h g b) s fun e => LcSettles s.dev e 2 s.dev.fuses) ∧
  (∀ s : State, LcFree s.dev → s.dev.fuses.lc = 2 ∨ s.dev.fuses.lc = 4 → s.dev.fuses.steps < 8 →
    Completes (.lcReqDeployed true) s fun e => LcSettles s.dev e 0 s.dev.fuses.step ∧
      e.fuses.steps = s.dev.fuses.steps + 1 ∧ e.fuses.lc = 3 ∧ e.sec.debug = false ∧ e.sec.scope = 0 ∧
      e.sec.unlocked = s.dev.sec.unlocked) ∧
  (∀ (s : State) (b : Bool), LcFree s.dev → s.dev.fuses.lc = 2 ∨ s.dev.fuses.lc = 4 → 8 ≤ s.dev.fuses.steps →
    Completes (.lcReqDeployed b) s fun e => LcSettles s.dev e 4 s.dev.fuses) ∧
  (∀ (s : State) (b : Bool), LcFree s.dev → s.dev.fuses.lc ≠ 2 → s.dev.fuses.lc ≠ 4 →
    Completes (.lcReqDeployed b) s fun e => LcSettles s.dev e 2 s.dev.fuses) ∧
  (∀ (s : State) (c : Instr) (b : Bool) (h g : BitVec 512), s.dev.lcBusy = true →
    c ∈ [Instr.lcReqProvisioned h g b, .lcReqDeployed b, .lcReqReturned b, .lcReqScrapped b, .lcReqRevoke b] →
    Completes c s fun e => LcSettles s.dev e 3 s.dev.fuses)

/-- The device as a token is read for an LC_REQ that is not BUSY. -/
def lcAsked (d : Device) : Device := { d with sec := { d.sec with lcValid := false, lcFuseOk := true } }

/-- The transitions with a token, `b` being the bytes at LC_TOKEN and `d2` the device after they have been read. A wrong token leaves
the fuses alone with TOKEN; a return token that is right, on a device with no partition assigned, burns at once and the device is
RETURNED. A scrap in a state but DEPLOYED needs no token: the device is SCRAPPED and reset. A transition that waited for the last
partition settles then, and not before. A revocation burns bit j of REVOKE and nothing else. -/
def LifeCycleTokensClauses : Prop :=
  (∀ (s : State) (b : List Byte) (d2 : Device), LcFree s.dev → s.dev.fuses.lc = 3 →
    (lcAsked s.dev).tokenAt s.dev.sec.lcToken = (b, d2) → d2.lcTokenOk 0x54524E52 b = false →
    Completes (.lcReqReturned true) s fun e => LcSettles d2 e 1 s.dev.fuses) ∧
  (∀ (s : State) (b : List Byte) (d2 : Device), LcFree s.dev → s.dev.fuses.lc = 3 →
    (lcAsked s.dev).tokenAt s.dev.sec.lcToken = (b, d2) → d2.lcTokenOk 0x54524E52 b = true → d2.allReleased = true →
    Completes (.lcReqReturned true) s fun e =>
      LcSettles d2 e 0 s.dev.fuses.step ∧ e.fuses.lc = 4) ∧
  (∀ (s : State) (b : List Byte) (d2 : Device), LcFree s.dev → s.dev.fuses.lc = 3 →
    (lcAsked s.dev).tokenAt s.dev.sec.lcToken = (b, d2) → d2.lcTokenOk 0x50415253 b = false →
    Completes (.lcReqScrapped true) s fun e => LcSettles d2 e 1 s.dev.fuses) ∧
  (∀ s : State, LcFree s.dev → s.dev.fuses.lc ≠ 3 → s.dev.fuses.lc ≠ 5 → s.dev.allReleased = true → s.dev.flt.crashBusy = none →
    Completes (.lcReqScrapped true) s fun e => e.fuses = s.dev.fuses.scrapped ∧ e.fuses.lc = 5 ∧
      AfterDeviceReset { s.dev with fuses := e.fuses } e) ∧
  (∀ (s : State) (t : List Byte), s.dev.fuses.lc ≠ 3 → s.dev.fuses.lc ≠ 5 → s.dev.sec.lcWait = none → s.dev.allReleased = true →
    s.dev.flt.crashBusy = none → Completes (.jtagScrap t true) s fun e => e.fuses = s.dev.fuses.scrapped ∧
      e.clk.gun = .inReset) ∧
  (∀ (s : State) (t : List Byte) (b : Bool), s.dev.fuses.lc = 5 → Completes (.jtagScrap t b) s fun e => e.fuses = s.dev.fuses) ∧
  (∀ s : State, s.dev.sec.lcWait = some .returned → s.dev.sec.lcFuseOk = true → s.dev.allReleased = true →
    Completes .lcReqSettle s fun e => LcSettles s.dev e 0 s.dev.fuses.step ∧
      e.sec.lcWait = none) ∧
  (∀ s : State, s.dev.allReleased = false → exec .lcReqSettle s = .next s) ∧
  (∀ (s : State) (b : List Byte) (d2 : Device) (j k : Nat), LcFree s.dev → s.dev.fuses.lc ≠ 5 →
    (lcAsked s.dev).tokenAt s.dev.sec.lcToken = (b, d2) → tokenField b 6 2 % 16 = j → tokenField b 6 2 / 16 % 4 = k →
    k ≠ j → 0 < j → j < 4 → s.dev.fuses.revoke.getLsbD k = false →
    d2.tokenOk 0x564B4552 s.dev.sec.lcNonce (Map.get 0 s.dev.fuses.vendorHash k) b = true →
    Completes (.lcReqRevoke true) s fun e =>
      LcSettles d2 e 0 { s.dev.fuses with revoke := s.dev.fuses.revoke ||| BitVec.ofNat 4 (2 ^ j) })

/-- The transitions of the life cycle, forward and by token. Model's choice, not the spec's: the corners of log entry 26. -/
def Obligations.LifeCycle : Prop := LifeCycleForwardClauses ∧ LifeCycleTokensClauses

/-- SVN_REQ burns the thermometer up to n and no further than the running firmware's own SVN; a lower n is done without a burn, a
higher one is NOT_PERMITTED. -/
def SvnThermometerClauses : Prop :=
  (∀ (s : State) (n : Nat), LcFree s.dev → s.dev.sec.bootStatus = 2 → n ≤ s.dev.sec.fwSvn → s.dev.fuses.fwSvn < n →
    Completes (.svnReq n true) s fun e => LcSettles s.dev e 0 (s.dev.fuses.svn n) ∧
      (n ≤ 64 → n ≤ e.fuses.fwSvn ∧ (s.dev.fuses.svnBits = BitVec.ofNat 64 (2 ^ s.dev.fuses.fwSvn - 1) → e.fuses.fwSvn = n))) ∧
  (∀ (s : State) (n : Nat) (b : Bool), LcFree s.dev → s.dev.sec.bootStatus = 2 → n ≤ s.dev.sec.fwSvn → n ≤ s.dev.fuses.fwSvn →
    Completes (.svnReq n b) s fun e => LcSettles s.dev e 0 s.dev.fuses) ∧
  (∀ (s : State) (n : Nat) (b : Bool), LcFree s.dev → s.dev.sec.fwSvn < n →
    Completes (.svnReq n b) s fun e => LcSettles s.dev e 2 s.dev.fuses)

/-- The unlock. With a token that is right, on a DEPLOYED device that is locked and has no partition assigned, the device key is
destroyed, DEBUG is set and SCOPE takes the token's bits; in another life-cycle state it is accepted without effect, and in SCRAPPED JTAG has
no TOKEN register; a token that is not right
sets result 1, counts in ERR_CNT and opens nothing. -/
def DebugUnlockClauses : Prop :=
  (∀ (s : State) (t : List Byte) (hi : W32), LcFree s.dev → s.dev.fuses.lc = 3 → s.dev.sec.debug = false →
    s.dev.allReleased = true → s.dev.tokenOk 0x4B4C4255 s.dev.sec.dbgNonce s.dev.fuses.debugHash t = true →
    Completes (.dbgTokenPresent (some t) hi) s fun e => e.sec.debug = true ∧ e.sec.deviceKey = none ∧
      e.sec.scope = s.dev.sec.scope ||| BitVec.ofNat 4 (tokenField t 6 2) ∧ e.sec.dbgResult = 0 ∧ e.sec.dbgValid = true ∧
      e.sec.unlocked = true ∧ e.fuses = s.dev.fuses) ∧
  (∀ (s : State) (t : List Byte) (hi : W32), s.dev.fuses.lc = 5 → exec (.dbgTokenPresent (some t) hi) s = .next s) ∧
  (∀ (s : State) (t : List Byte) (hi : W32), LcFree s.dev → s.dev.fuses.lc ≠ 3 → s.dev.fuses.lc ≠ 5 →
    s.dev.tokenOk 0x4B4C4255 s.dev.sec.dbgNonce s.dev.fuses.debugHash t = true →
    Completes (.dbgTokenPresent (some t) hi) s fun e => e.sec.debug = s.dev.sec.debug ∧ e.sec.scope = s.dev.sec.scope ∧
      e.sec.dbgResult = 0 ∧ e.sec.dbgValid = true ∧ e.sec.deviceKey = s.dev.sec.deviceKey ∧ e.fuses = s.dev.fuses) ∧
  (∀ (s : State) (t : List Byte) (hi : W32), LcFree s.dev → s.dev.fuses.lc ≠ 5 →
    s.dev.tokenOk 0x4B4C4255 s.dev.sec.dbgNonce s.dev.fuses.debugHash t = false →
    Completes (.dbgTokenPresent (some t) hi) s fun e => e.sec.debug = s.dev.sec.debug ∧ e.sec.scope = s.dev.sec.scope ∧
      e.sec.dbgResult = 1 ∧ e.sec.dbgValid = true ∧ (e.page pgSecurity).errCnt = satInc (s.dev.page pgSecurity).errCnt ∧
      e.sec.deviceKey = s.dev.sec.deviceKey ∧ e.fuses = s.dev.fuses)

/-- Attestation requests queue four deep and a fifth is BUSY; running firmware serves the oldest between two load requests: the
result is signalled when the last PUT has been handed over, at once where the report stays on the device. HOST_SCOPE changes only by a
unit that carries DEVICE, and no more once both ports lack it. -/
def AttestationAndHostScopeClauses : Prop :=
  (∀ s : State, s.dev.sec.attQueue.length < 4 →
    exec .attGo s = .next { s with dev := { s.dev with sec := { s.dev.sec with
      attValid := false
      attQueue := s.dev.sec.attQueue ++ [⟨s.dev.sec.attNonce, s.dev.sec.attDest, s.dev.sec.attPart, s.dev.sec.attEpoch⟩] } } }) ∧
  (∀ s : State, 4 ≤ s.dev.sec.attQueue.length → Completes .attGo s
    (Signals pgSecurity 2 { s.dev with sec := { s.dev.sec with attResult := 1, attValid := true } })) ∧
  (∀ (s : State) (q : AttReq) (rest : List AttReq), s.dev.sec.bootStatus = 2 → s.dev.mb.placing = none →
    s.dev.sec.attQueue = q :: rest →
    s.dev.tr.myId = 0xFFFF ∨ (q.dest + 4096).toNat / 2 ^ 48 ≠ s.dev.tr.myId.toNat → Completes .attestSnapshot s fun e =>
      (∃ u, u.kind = .put ∧ u.dstPart = q.part ∧ u.dstEpoch = q.epoch ∧ u.addr = (q.dest + 4096).toNat % 2 ^ 48 ∧
        e.sec = { s.dev.sec with attQueue := rest, attOut := s.dev.sec.attOut ++ [u] }) ∧
      e = { s.dev with sec := e.sec, tr := e.tr, ports := e.ports, parts := e.parts, freeCtr := e.freeCtr }) ∧
  (∀ (s : State) (q : AttReq) (rest : List AttReq), s.dev.sec.bootStatus = 2 → s.dev.mb.placing = none →
    s.dev.sec.attQueue = q :: rest → s.dev.tr.myId ≠ 0xFFFF → (q.dest + 4096).toNat / 2 ^ 48 = s.dev.tr.myId.toNat →
    Completes .attestSnapshot s fun e =>
      e.sec = { s.dev.sec with attQueue := rest, attResult := 0, attValid := true } ∧
      ((e.page pgSecurity).intRaw &&& 4) = 4 ∧ e.fuses = s.dev.fuses ∧ e.pacers = s.dev.pacers ∧ e.tiles = s.dev.tiles ∧
      e.chans = s.dev.chans) ∧
  (∀ (s : State) (v : BitVec 9), (s.dev.sec.scopeH0.getLsbD 8 || s.dev.sec.scopeH1.getLsbD 8) = true →
    exec (.hostScopeWrite 24 v true) s = .next { s with dev := { s.dev with sec := { s.dev.sec with scopeH0 := v } } } ∧
    exec (.hostScopeWrite 25 v true) s = .next { s with dev := { s.dev with sec := { s.dev.sec with scopeH1 := v } } }) ∧
  (∀ (s : State) (h : Nat) (v : BitVec 9), s.dev.sec.scopeH0.getLsbD 8 = false → s.dev.sec.scopeH1.getLsbD 8 = false →
    exec (.hostScopeWrite h v true) s = .next s) ∧
  (∀ (s : State) (h : Nat) (v : BitVec 9), exec (.hostScopeWrite h v false) s = .next s)

/-- The other requests of the security page. Model's choice, not the spec's: the corners of log entries 26 and 29. -/
def Obligations.SvnDebugAndAttestation : Prop := SvnThermometerClauses ∧ DebugUnlockClauses ∧ AttestationAndHostScopeClauses

/-! ### Self-test -/

/-- The command that starts test `j` of Table 17.3. -/
def testCommand (j : Nat) (c : StCond) : Instr :=
  match j with
  | 0 => .lscanRegion c | 1 => .lscanTile c | 2 => .tileMem c | 3 => .bmeMem c | 4 => .reqtabMem c | 5 => .portMem c
  | 6 => .sdNear c | 7 => .sdFar c | 8 => .ddrLoop c | 9 => .ddrMargin c | 10 => .genLock c | 11 => .droopCal c
  | 12 => .tempXchk c | _ => .adcRef c

/-- The state in which the request `r` at the head of the queue runs: in DEPLOYED one run of the authorisation is spent. -/
def testRuns (r : StReq) (rest : List StReq) (s : State) : State :=
  { s with dev := { s.dev with st := { s.dev.st with
      queue := rest, running := some r, checkedAt := s.dev.clk.now,
      runsLeft := if s.dev.fuses.lc = 3 then s.dev.st.runsLeft - 1 else s.dev.st.runsLeft } } }

/-- No partition is assigned and no pacer runs or is loaded. -/
def NothingAssigned (d : Device) : Prop :=
  (∀ k, k < 8 → (d.part k).regions = 0 ∧ (d.part k).groups = 0 ∧ (d.part k).lent = []) ∧
    ∀ e ∈ d.pacers, e.2.state ∉ [PState.running, .waiting, .hold, .sleep, .draining, .loaded]

/-- The life-cycle state permits test `j`: every test in MANUFACTURE and RETURNED, and in DEPLOYED a field test of an active authorisation
with runs left (R401, R411). -/
def TestPermitted (j : Nat) (d : Device) : Prop :=
  d.fuses.lc = 1 ∨ d.fuses.lc = 4 ∨
    (d.fuses.lc = 3 ∧ j ≠ 0 ∧ j ≠ 4 ∧ (∃ m, d.st.auth = some m ∧ m.testBit j = true) ∧ d.st.runsLeft ≠ 0)

/-- Every condition of R403 is met for a request: what the bench reports, no loss of the reference, the generators that the test clocks
locked, and every junction sensor in range. -/
def ConditionsMet (r : StReq) (c : StCond) (d : Device) : Prop :=
  c.vddOk = true ∧ c.refOk = true ∧ c.tempOk = true ∧ d.tk.refLoss = false ∧ d.thr.testable = true ∧
    ∀ g ∈ stClocks r.test r.target.toNat, (d.region g).locked = true ∧ (d.region g).failed = false

/-- The fourteen tests run on a device on which nothing is assigned: the request at the head of the queue, of a test that the life-cycle
state permits, with every condition of R403 met, starts. The target of a port test is DISABLED, that of a tile test is no partition's, and
no operating-point change is pending at the target of test 10. -/
def SelfTestOfAFreeDeviceClauses : Prop :=
  ∀ (s : State) (c : StCond) (r : StReq) (rest : List StReq), s.dev.st.running = none → s.dev.st.queue = r :: rest →
    NothingAssigned s.dev → TestPermitted r.test s.dev → ConditionsMet r c s.dev →
    (r.test = 0 → exec (.lscanRegion c) s = .next (testRuns r rest s)) ∧
    (r.test = 1 → (s.dev.tile r.target.toNat).owner = 0 → exec (.lscanTile c) s = .next (testRuns r rest s)) ∧
    (r.test = 2 → (s.dev.tile r.target.toNat).owner = 0 → exec (.tileMem c) s = .next (testRuns r rest s)) ∧
    (r.test = 3 → exec (.bmeMem c) s = .next (testRuns r rest s)) ∧
    (r.test = 4 → exec (.reqtabMem c) s = .next (testRuns r rest s)) ∧
    (r.test = 5 → (s.dev.port r.target.toNat).link.state = .disabled → exec (.portMem c) s = .next (testRuns r rest s)) ∧
    (r.test = 6 → (s.dev.port (r.target.toNat % 256)).link.state = .disabled → exec (.sdNear c) s = .next (testRuns r rest s)) ∧
    (r.test = 7 → (s.dev.port r.target.toNat).link.state = .disabled → exec (.sdFar c) s = .next (testRuns r rest s)) ∧
    (r.test = 8 → exec (.ddrLoop c) s = .next (testRuns r rest s)) ∧
    (r.test = 9 → exec (.ddrMargin c) s = .next (testRuns r rest s)) ∧
    (r.test = 10 → s.dev.clk.opPend = false → exec (.genLock c) s = .next (testRuns r rest s)) ∧
    (r.test = 11 → exec (.droopCal c) s = .next (testRuns r rest s)) ∧
    (r.test = 12 → exec (.tempXchk c) s = .next (testRuns r rest s)) ∧
    (r.test = 13 → exec (.adcRef c) s = .next (testRuns r rest s))

/-- A request at the head of the queue for one of the fourteen tests starts, when the state, the target and the conditions permit it:
it runs, and in DEPLOYED one run is spent. Where the state does not permit it, it is settled 0x12; where the target is not free
0x10; where a condition of R403 fails 0x11, with the condition in FLAGS; nothing runs then. -/
def SelfTestStartsClauses : Prop :=
  ∀ (s : State) (j : Nat) (c : StCond) (r : StReq) (rest : List StReq), j < 14 → s.dev.st.running = none →
    s.dev.st.queue = r :: rest → r.test = j →
    (s.dev.stState j = true → s.dev.stFree j r.target.toNat = true → condOk (s.dev.stCond j r.target.toNat c) = true →
      exec (testCommand j c) s = .next (testRuns r rest s)) ∧
    (s.dev.stState j = false → Completes (testCommand j c) s fun e => e.st.running = none ∧ e.st.queue = rest ∧
      (Map.get {} e.st.results s.dev.st.nextEntry).result = 0x12 ∧ (Map.get {} e.st.results s.dev.st.nextEntry).reqId = r.id) ∧
    (s.dev.stState j = true → s.dev.stFree j r.target.toNat = false →
      Completes (testCommand j c) s fun e => e.st.running = none ∧ e.st.queue = rest ∧
        (Map.get {} e.st.results s.dev.st.nextEntry).result = 0x10 ∧ (Map.get {} e.st.results s.dev.st.nextEntry).reqId = r.id) ∧
    (s.dev.stState j = true → s.dev.stFree j r.target.toNat = true → condOk (s.dev.stCond j r.target.toNat c) = false →
      Completes (testCommand j c) s fun e => e.st.running = none ∧ e.st.queue = rest ∧
        (Map.get {} e.st.results s.dev.st.nextEntry).result = 0x11 ∧
        (Map.get {} e.st.results s.dev.st.nextEntry).flags =
          BitVec.ofNat 8 (condFlags (s.dev.stCond j r.target.toNat c)))

/-- The device once the address of an authorisation has been written. -/
def presented (hi : W32) (d : Device) : Device :=
  { d with st := { d.st with tokenAddr := BitVec.ofNat 64 (d.st.tokenAddr.toNat % 2 ^ 32 + hi.toNat * 2 ^ 32) } }

/-- ST_GO numbers the request and queues it, eight at most: the ninth is settled 0x13, one that the state does not permit 0x12, and
one whose target the test does not have 0x14; a settled request is queued nowhere. An authorisation is read from the address given:
a wrong MAGIC, VERSION, key or signature gives result 1, another device's SERIAL 2, a boot count outside the range 3, a state but DEPLOYED 4,
and it becomes the active one only where none of these is so. -/
def SelfTestRequestsClauses : Prop :=
  (∀ s : State, s.dev.st.queue.length < 8 → s.dev.stState s.dev.st.test = true →
    stTarget s.dev.st.test s.dev.st.target.toNat = true →
    exec .stGo s = .next { s with dev := { s.dev with st := { s.dev.st with
      lastReq := s.dev.st.lastReq + 1
      queue := s.dev.st.queue ++ [⟨s.dev.st.lastReq + 1, s.dev.st.test, s.dev.st.target⟩] } } }) ∧
  (∀ s : State, 8 ≤ s.dev.st.queue.length → Completes .stGo s fun e => e.st.queue = s.dev.st.queue ∧
    (Map.get {} e.st.results s.dev.st.nextEntry).result = 0x13) ∧
  (∀ s : State, s.dev.st.queue.length < 8 → s.dev.stState s.dev.st.test = false → Completes .stGo s fun e =>
    e.st.queue = s.dev.st.queue ∧ (Map.get {} e.st.results s.dev.st.nextEntry).result = 0x12 ∧
      (Map.get {} e.st.results s.dev.st.nextEntry).reqId = s.dev.st.lastReq + 1) ∧
  (∀ s : State, s.dev.st.queue.length < 8 → s.dev.stState s.dev.st.test = true →
    stTarget s.dev.st.test s.dev.st.target.toNat = false → Completes .stGo s fun e =>
      e.st.queue = s.dev.st.queue ∧ (Map.get {} e.st.results s.dev.st.nextEntry).result = 0x14 ∧
        (Map.get {} e.st.results s.dev.st.nextEntry).reqId = s.dev.st.lastReq + 1) ∧
  (∀ (s : State) (hi : W32) (b : List Byte) (d2 : Device),
    (presented hi s.dev).tokenAt (presented hi s.dev).st.tokenAddr = (b, d2) → Completes (.stTokenPresent hi) s fun e =>
      let keyOk := sha3_512 (tokenKey b) = d2.fuses.drillHash ∧
        Config.mldsaVerify (tokenKey b) (b.take 64) ((b.drop 0x40).take 4627) = true
      let boot := d2.sec.bootCount.toNat
      e = { d2 with st := e.st } ∧ e.st.tokenValid = true ∧
      (tokenField b 0 4 ≠ 0x54534553 ∨ tokenField b 4 2 ≠ 1 ∨ ¬keyOk → e.st.tokenResult = 1) ∧
      (tokenField b 0 4 = 0x54534553 → tokenField b 4 2 = 1 → keyOk →
        (tokenField b 8 8 ≠ d2.fuses.serial.toNat → e.st.tokenResult = 2) ∧
        (tokenField b 8 8 = d2.fuses.serial.toNat →
          (boot < tokenField b 0x10 4 ∨ tokenField b 0x14 4 < boot → e.st.tokenResult = 3) ∧
          (tokenField b 0x10 4 ≤ boot → boot ≤ tokenField b 0x14 4 →
            (d2.fuses.lc ≠ 3 → e.st.tokenResult = 4) ∧
            (d2.fuses.lc = 3 → e.st.tokenResult = 0 ∧ e.st.auth = some (tokenField b 6 2) ∧
              e.st.runsLeft = BitVec.ofNat 32 (tokenField b 0x18 4))))) ∧
      (e.st.tokenResult ≠ 0 → e.st.auth = d2.st.auth ∧ e.st.runsLeft = d2.st.runsLeft))

/-- The newest record of the result store, of a request that has been served: its request, the life-cycle state, the split, and what
the test reported. -/
def TestRecord (r : StReq) (result : Nat) (o : StOutcome) (d e : Device) : Prop :=
  e.st.nextEntry = (d.st.nextEntry + 1) % 64 ∧
    ∃ x, Map.get {} e.st.results d.st.nextEntry = x ∧ x.result = result ∧ x.reqId = r.id ∧ x.test = r.test ∧
      x.target = r.target ∧ x.lc = d.fuses.lc ∧ x.duration = o.durationUs ∧ x.coverage = o.coverage ∧ x.split = d.tk.time ∧
      x.fails = o.fails ∧ x.first = o.first ∧ x.measure = fitBytes 28 o.measure

/-- A running test ends: with its verdict 0 or 1; without one when a condition fails at a check, 20 µs after the last (2); or pre-empted
(3), which tests 0 and 4 cannot be. Its record carries its request, the life-cycle state and what was measured. -/
def SelfTestEndsClauses : Prop :=
  (∀ (s : State) (r : StReq) (o : StOutcome), s.dev.st.running = some r → s.dev.st.waits = [] →
    Completes (.stTestEnd o) s fun e => e.st.running = none ∧ TestRecord r (if stVerdict r.test r.target.toNat o then 0 else 1) o s.dev e) ∧
  (∀ (j tg : Nat) (o : StOutcome), o.pass = false → stVerdict j tg o = false) ∧
  (∀ (j tg : Nat) (o : StOutcome), stVerdict j tg o = true → j ≠ 6 → j ≠ 7 → j ≠ 9 →
    o.fails = 0 ∧ (j = 0 ∨ j = 1 → 9500 ≤ o.coverage)) ∧
  (∀ (s : State) (r : StReq) (c : StCond) (o : StOutcome), s.dev.st.running = some r →
    s.dev.st.checkedAt + 32000 ≤ s.dev.clk.now → ConditionsMet r c s.dev →
    exec (.stConditionCheck c o) s = .next { s with dev := { s.dev with st := { s.dev.st with checkedAt := s.dev.clk.now } } }) ∧
  (∀ (s : State) (r : StReq) (c : StCond) (o : StOutcome), s.dev.st.running = some r → s.dev.st.waits = [] →
    s.dev.st.checkedAt + 32000 ≤ s.dev.clk.now →
    ¬ConditionsMet r c s.dev →
    Completes (.stConditionCheck c o) s fun e => e.st.running = none ∧ TestRecord r 2 o s.dev e) ∧
  (∀ (s : State) (c : StCond) (o : StOutcome), s.dev.st.running = none ∨ s.dev.clk.now < s.dev.st.checkedAt + 32000 →
    exec (.stConditionCheck c o) s = .next s) ∧
  (∀ (s : State) (r : StReq) (o : StOutcome), s.dev.st.running = some r → s.dev.st.waits = [] → r.test ≠ 0 → r.test ≠ 4 →
    Completes (.stPreempt o) s fun e => e.st.running = none ∧ TestRecord r 3 o s.dev e) ∧
  (∀ (s : State) (o : StOutcome), s.dev.deepTest = true → exec (.stPreempt o) s = .next s)

/-- A self-test from its request to its record. Model's choice, not the spec's: the order of the checks at a start, and MAX_RUNS
counted at the start (log entry 27). -/
def Obligations.SelfTest : Prop := SelfTestOfAFreeDeviceClauses ∧ SelfTestStartsClauses ∧ SelfTestRequestsClauses ∧ SelfTestEndsClauses

/-! ### The load gate -/

/-- The load request that the registers of the mailbox page hold (R173). -/
def registersRequest (d : Device) : LoadReq :=
  { addr := d.mb.imageAddr.toNat, part := d.mb.part, cadence := d.mb.mode, strict := d.mb.strict, autoStart := d.mb.autoStart,
    pwrAlloc := d.mb.pwrAlloc }

/-- The record `r` as a request of partition `k` that is not accepted leaves it: with the split, and the PCID that the image would
have had. -/
def refusedRecord (k : Nat) (r : LoadResult) (d : Device) : LoadResult :=
  { r with split := d.split, pcid := BitVec.ofNat 16 (k * 8192 + nextGen (d.part k).gen % 8192) }

/-- A request of partition `k` ends with the record `r`: it stands in the result area and in LAST_LOAD, INT_RAW[1] of the partition's
mailbox page is set, events may be sent, and nothing else changes. -/
def LoadSettles (k : Nat) (r : LoadResult) (d e : Device) : Prop :=
  e = { d with mb := e.mb, parts := e.parts, pages := e.pages, tr := e.tr, ports := e.ports } ∧
  e.mb = { d.mb with results := d.mb.results ++ [r], evt := e.mb.evt } ∧
  EventPart { d.part k with lastLoad := some r } (e.part k) ∧ (∀ j, j ≠ k → EventPart (d.part j) (e.part j)) ∧
  ((e.page (pgMailboxP k)).intRaw &&& 2) = 2

/-- LOAD_GO queues the request that the registers hold, or settles it at once with the code of the first check that fails:
PARTITION_STATE on a device with a FAILED I/O region, BUSY with eight requests queued or one of the partition queued or in progress, then
PARTITION_STATE for a partition without resources, with a reset under way, or an address that is not its own line, then MODE against
the device's repeatability mode. While a test 0 or 4 runs the request waits. -/
def Obligations.LoadRequests : Prop :=
  (∀ s : State, s.dev.deepTest = false → s.dev.loadCheck (registersRequest s.dev) = none →
    exec .loadGo s = .next { s with dev := { s.dev with mb := { s.dev.mb with
      queue := s.dev.mb.queue ++ [registersRequest s.dev] } } }) ∧
  (∀ s : State, s.dev.deepTest = true → exec .loadGo s = .next { s with dev := { s.dev with st := { s.dev.st with
    waits := s.dev.st.waits ++ [.load (registersRequest s.dev)] } } }) ∧
  (∀ (s : State) (c : Nat), s.dev.deepTest = false → s.dev.loadCheck (registersRequest s.dev) = some c → Completes .loadGo s
    (LoadSettles s.dev.mb.part (refusedRecord s.dev.mb.part { code := c } s.dev) s.dev)) ∧
  (∀ (d : Device) (r : LoadReq), d.ioFailed = true → d.loadCheck r = some 0x21) ∧
  (∀ (d : Device) (r : LoadReq), d.ioFailed = false → 8 ≤ d.mb.queue.length ∨ d.loading r.part = true → d.loadCheck r = some 0x20) ∧
  (∀ (d : Device) (r : LoadReq), d.mb.queue.length < 8 → d.loading r.part = false →
    (d.part r.part).regions = 0 ∨ (d.part r.part).groups = 0 ∨ (d.part r.part).run.reset.isSome = true ∨ r.addr % 64 ≠ 0 ∨
      d.pacersIdle r.part = false ∨ d.inPartDram r.part r.addr = false →
    d.loadCheck r = some 0x21) ∧
  (∀ (d : Device) (r : LoadReq), d.mb.devMode = some (!r.cadence) →
    d.loadCheck r = some 0x20 ∨ d.loadCheck r = some 0x21 ∨ d.loadCheck r = some 0x22)

/-- The load gate may take a request of partition `k` now. -/
def GateFree (k : Nat) (d : Device) : Prop :=
  d.sec.bootStatus = 2 ∧ d.mb.placing = none ∧ d.deepTest = false ∧ d.testOnChannel k = false

/-- The device once the request at the head has been taken. -/
def gateTaken (rest : List LoadReq) (d : Device) : Device := { d with mb := { d.mb with queue := rest } }

/-- The load gate serves the oldest request, once firmware runs. An image that cannot be read or is not for this mode ends with its
code; one that a phase rejects ends with the record of the violation; one that passes all phases gets its map and goes to
placement, or, where the repair mode only reports, ends accepted as far as phase 3 with nothing placed. Model's choice, not the
spec's: where a map record stands and how a remap that only reports ends (log entry 33). -/
def Obligations.LoadGateServes : Prop :=
  (∀ s : State, s.dev.sec.bootStatus ≠ 2 ∨ s.dev.mb.queue = [] ∨ s.dev.mb.placing.isSome = true →
    exec .loadGateServe s = .next s) ∧
  (∀ (s : State) (r : LoadReq) (rest : List LoadReq) (c ph : Nat) (d2 : Device), GateFree r.part s.dev →
    s.dev.mb.queue = r :: rest → (gateTaken rest s.dev).readImage r = (.error (c, ph), d2) → c ≠ 0 →
    Completes .loadGateServe s (LoadSettles r.part (refusedRecord r.part { code := c, phase := ph } d2) d2)) ∧
  (∀ (s : State) (r : LoadReq) (rest : List LoadReq) (bs : List Byte) (v : Verdict) (d2 : Device), GateFree r.part s.dev →
    s.dev.mb.queue = r :: rest → (gateTaken rest s.dev).readImage r = (.ok bs, d2) →
    ({ d2 with freeCtr := d2.freeCtr + 1 } : Device).judge r (readOf bs) = .error v → v.code ≠ 0 →
    Completes .loadGateServe s fun e => ∃ us, LoadSettles r.part (refusedRecord r.part (v.record us) d2)
      { d2 with freeCtr := d2.freeCtr + 1 } e) ∧
  (∀ (s : State) (r : LoadReq) (rest : List LoadReq) (bs : List Byte) (im : Image) (d2 : Device), GateFree r.part s.dev →
    s.dev.mb.queue = r :: rest → (gateTaken rest s.dev).readImage r = (.ok bs, d2) →
    ({ d2 with freeCtr := d2.freeCtr + 1 } : Device).judge r (readOf bs) = .ok im → r.mapOnly = false →
    Completes .loadGateServe s fun e => e = { d2 with mb := e.mb, freeCtr := d2.freeCtr + 1 } ∧ e.mb.placing = some r ∧
      (∃ a, e.mb.plan = some { im with mapAddr := a, strict := r.strict, pwrAlloc := r.pwrAlloc }) ∧ e.mb.verdict.code = 0 ∧
      e.mb.verdict.phase = 5 ∧ e.mb.queue = d2.mb.queue ∧ e.mb.results = d2.mb.results) ∧
  (∀ (s : State) (r : LoadReq) (rest : List LoadReq) (bs : List Byte) (im : Image) (d2 : Device), GateFree r.part s.dev →
    s.dev.mb.queue = r :: rest → (gateTaken rest s.dev).readImage r = (.ok bs, d2) →
    ({ d2 with freeCtr := d2.freeCtr + 1 } : Device).judge r (readOf bs) = .ok im → r.mapOnly = true →
    Completes .loadGateServe s fun e => e.mb.placing = d2.mb.placing ∧ e.pacers = d2.pacers ∧ e.tiles = d2.tiles ∧
      ∃ x, e.mb.results = d2.mb.results ++ [x] ∧ x.code = 0 ∧ x.phase = 3 ∧ (e.part r.part).lastLoad = some x)

/-- The end of a placement. When everything could be written the image is accepted: the partition's load generation moves on, its
run is loaded, its completion counters read zero, the repeatability mode of the device is set, every placed pacer is LOADED,
every placed tile carries the new PCID; with no automatic start the pacers wait for a start. Where a line of the image cannot
be read, placement ends with code 0x24, nothing is accepted, and no pacer of the image has a bank ready. Model's choice, not
the spec's: what a placement writes beside the memories (log entry 43). -/
def Obligations.PlacementEnds : Prop :=
  (∀ (s : State) (k : Nat) (r : LoadReq) (im : Image) (d2 : Device), k < 8 → s.dev.mb.placing = some r → s.dev.mb.plan = some im →
    r.part = k → (s.dev.part k).run.reset = none → s.dev.testOnTile im = false → s.dev.place_ r im = (true, d2) →
    (d2.part k).qlists = [] → r.autoStart = false → Completes (.placementDone k) s fun e =>
      (e.part k).image = some im ∧ (e.part k).gen = nextGen (d2.part k).gen ∧ (e.part k).run.phase = .loaded ∧
      (e.part k).cc = [] ∧ (e.part k).verified = some im.measurement ∧ (e.part k).pwrAlloc = im.pwrAlloc ∧
      (∀ x ∈ im.pacers, (e.pacer x.2).state = .loaded) ∧ (∀ x ∈ im.tiles, (e.tile x.2).owner = e.pcid k) ∧
      e.mb.placing = none ∧ e.mb.devMode = d2.mb.devMode.or (some r.cadence) ∧
      (∃ x, (e.part k).lastLoad = some x ∧ e.mb.results = d2.mb.results ++ [x] ∧
        (d2.mb.verdict.code = 0 → x.code = 0 ∧ x.pcid = e.pcid k)) ∧
      ((e.page (pgMailboxP k)).intRaw &&& 2) = 2) ∧
  (∀ (s : State) (k : Nat) (r : LoadReq) (im : Image) (d2 : Device), k < 8 → s.dev.mb.placing = some r → s.dev.mb.plan = some im →
    r.part = k → (s.dev.part k).run.reset = none → s.dev.testOnTile im = false → s.dev.place_ r im = (false, d2) →
    Completes (.placementDone k) s (LoadSettles k (refusedRecord k { d2.mb.verdict with code := 0x24, phase := 4, mapAddr := 0 } d2)
      (({ d2 with mb := { d2.mb with placing := none, plan := none } } : Device).forAll (im.pacers.map (·.2)) fun p d =>
        d.updPacer p fun x => { x with ready := false })))

/-- The load gate stores the alternative maps of an accepted image and sets ALT_READY; a line of the copy that cannot be read leaves
the bit clear. -/
def AlternativeMapsClauses : Prop :=
  (∀ (s : State) (k : Nat) (im : Image) (bs : List Byte) (d2 : Device), k < 8 → (s.dev.part k).image = some im →
    (s.dev.part k).altReady = false → s.dev.loading k = false → s.dev.strictBytes k im.addr im.size = (some bs, d2) →
    Completes (.altMapCompute k) s fun e => e = { d2 with parts := e.parts } ∧ (e.part k).altReady = true ∧
      e.part k = { d2.part k with altReady := true, alts := (e.part k).alts } ∧ (∀ j, j ≠ k → e.part j = d2.part j) ∧
      ∀ a ∈ (e.part k).alts, ∃ x ∈ im.tiles, a.1 = x.2) ∧
  (∀ (s : State) (k : Nat) (im : Image) (d2 : Device), k < 8 → (s.dev.part k).image = some im →
    (s.dev.part k).altReady = false → s.dev.loading k = false → s.dev.strictBytes k im.addr im.size = (none, d2) →
    exec (.altMapCompute k) s = .next { s with dev := d2 })

/-- A refill writes the inactive bank of its pacer and no stride or descriptor of the active one; its end sets BANK_READY. -/
def BankRefillsClauses : Prop :=
  (∀ (s : State) (k p c v : Nat) (rest : List (Nat × Nat)) (im : Image) (q : Pair) (n : Nat) (d2 : Device), k < 8 →
    (s.dev.part k).run.refilling = none → (s.dev.part k).run.refills = (p, c) :: rest → (s.dev.part k).image = some im →
    im.pacers.find? (fun e => e.2 == p) = some (v, p) → s.dev.nextSeq k p (s.dev.pacer p).seqPos = some n →
    (Map.get [] im.pairs p).find? (·.seq == n) = some q → (s.dev.pacer p).state.active = true → im.phys v = p →
    q.tabSize ≤ 32768 → q.descSize ≤ 16384 →
    (s.dev.updRun k fun r => { r with refills := rest }).writeBank k im v (!(s.dev.pacer p).bank) q = (true, d2) →
    Completes (.bankRefill k) s fun e => (e.part k).run.refills = rest ∧ (e.part k).run.refilling = some (p, c) ∧
      (e.pacer p).ready = false ∧
      (∀ i, i < 2048 → Map.get 0 (e.pacer p).table (2048 * b2n (s.dev.pacer p).bank + i) =
        Map.get 0 (s.dev.pacer p).table (2048 * b2n (s.dev.pacer p).bank + i)) ∧
      (∀ i, i < 64 → Map.get 0 (e.pacer p).descs (64 * b2n (s.dev.pacer p).bank + i) =
        Map.get 0 (s.dev.pacer p).descs (64 * b2n (s.dev.pacer p).bank + i))) ∧
  (∀ (s : State) (k p c : Nat), k < 8 → (s.dev.part k).run.refilling = some (p, c) →
    Completes (.bankRefillDone k) s fun e => e = { s.dev with parts := e.parts, pacers := e.pacers } ∧
      (e.part k).run = { (s.dev.part k).run with refilling := none } ∧
      e.pacer p = { s.dev.pacer p with ready := true, readyCyc := s.dev.cyc } ∧
      ∀ q, q ≠ p → e.pacer q = s.dev.pacer q)

/-- The background work of an accepted load: alternative maps and the refill of shadow banks. Model's choice, not the spec's: the
time and slots of a refill (log entry 41) and the place of the map record (log entry 33). -/
def Obligations.MapsAndRefills : Prop := AlternativeMapsClauses ∧ BankRefillsClauses

/-! ### Partitions -/

/-- PART_GO. A second request before the first is settled is counted and changes nothing; one that a rule forbids settles with its code
and assigns nothing; one with no joining group is assigned at once; joining groups get a new key and wait for their zero fill; a
release begins a teardown: the epoch moves on. In BLANK and SCRAPPED no partition is assigned: INVALID (the model's choice of the code,
log entry 24). -/
def PartitionAssignmentClauses : Prop :=
  (∀ s : State, s.dev.mb.partPending.isSome = true → Completes .partGo s (Errs pgMailbox 2 s.dev)) ∧
  (∀ (s : State) (c : Nat), s.dev.mb.partPending = none → s.dev.st.waits = [] → s.dev.deepTest = false →
    s.dev.partCode s.dev.mb.paPart s.dev.mb.paRegions s.dev.mb.paGroups = some c →
    Completes .partGo s (Signals pgMailbox 2 { s.dev with mb := { s.dev.mb with partResult := c, partValid := true } })) ∧
  (∀ s : State, s.dev.mb.partPending = none → s.dev.st.waits = [] → s.dev.deepTest = false →
    s.dev.partCode s.dev.mb.paPart s.dev.mb.paRegions s.dev.mb.paGroups = none → s.dev.mb.paRegions ≠ 0 →
    s.dev.joining s.dev.mb.paPart s.dev.mb.paGroups = [] → Completes .partGo s
      (Signals pgMailbox 2 ({ s.dev with mb := { s.dev.mb with partResult := 0, partValid := true } }.updPart s.dev.mb.paPart
        fun p => { p with regions := s.dev.mb.paRegions, groups := s.dev.mb.paGroups }))) ∧
  (∀ s : State, s.dev.mb.partPending = none → s.dev.st.waits = [] → s.dev.deepTest = false →
    s.dev.partCode s.dev.mb.paPart s.dev.mb.paRegions s.dev.mb.paGroups = none → s.dev.mb.paRegions ≠ 0 →
    s.dev.joining s.dev.mb.paPart s.dev.mb.paGroups ≠ [] → (s.dev.part s.dev.mb.paPart).key = none → s.dev.sec.entropyOk = true →
    Completes .partGo s fun e => (e.part s.dev.mb.paPart).key = some s.dev.sec.nextKey ∧ e.sec.nextKey = s.dev.sec.nextKey + 1 ∧
      e.mb.partPending = some (s.dev.mb.paPart, s.dev.mb.paRegions, s.dev.mb.paGroups) ∧ e.mb.partValid = false ∧
      (e.part s.dev.mb.paPart).regions = (s.dev.part s.dev.mb.paPart).regions ∧
      e = { s.dev with sec := e.sec, mb := e.mb, parts := e.parts }) ∧
  (∀ s : State, s.dev.mb.partPending = none → s.dev.st.waits = [] → s.dev.deepTest = false →
    s.dev.partCode s.dev.mb.paPart s.dev.mb.paRegions s.dev.mb.paGroups = none → s.dev.mb.paRegions = 0 →
    (s.dev.part s.dev.mb.paPart).run.reset = none → Completes .partGo s fun e =>
      (e.part s.dev.mb.paPart).epoch = (s.dev.part s.dev.mb.paPart).epoch + 1 ∧
      (e.part s.dev.mb.paPart).run.teardown = true ∧ e.mb.partValid = false ∧
      e.mb.partPending = some (s.dev.mb.paPart, 0, s.dev.mb.paGroups)) ∧
  (∀ (d : Device) (k : Nat) (rs : BitVec 24) (gs : Byte), d.fuses.lc = 0 ∨ d.fuses.lc = 5 → d.partCode k rs gs = some 3) ∧
  (∀ (d : Device) (k : Nat) (rs : BitVec 24) (gs : Byte), d.fuses.lc ≠ 0 → d.fuses.lc ≠ 5 →
    d.sec.lcWait.isSome = true ∨ d.pacersIdle k = false → d.partCode k rs gs = some 1) ∧
  (∀ (d : Device) (k j : Nat) (rs : BitVec 24) (gs : Byte), d.fuses.lc ≠ 0 → d.fuses.lc ≠ 5 → j < 8 → j ≠ k → (d.part j).regions &&& rs ≠ 0 ∨ (d.part j).groups &&& gs ≠ 0 →
    d.partCode k rs gs = some 1 ∨ d.partCode k rs gs = some 2)

/-- The zero fill of joining groups ends: the assignment holds, and every line of the partition area of their channels reads as zero
under the partition's key. It waits for a channel in bring-up, and a channel that has failed meanwhile makes the request INVALID. -/
def JoiningGroupsAreZeroedClauses : Prop :=
  (∀ (s : State) (k key : Nat) (rs : BitVec 24) (gs : Byte), k < 8 → s.dev.mb.partPending = some (k, rs, gs) → rs ≠ 0 →
    (s.dev.part k).key = some key →
    (∀ c, c < 24 → c / 3 ∈ s.dev.joining k gs → (s.dev.chan c).state ≠ .failed ∧ (s.dev.chan c).state ≠ .training) →
    Completes (.groupZeroFillDone k) s fun e =>
      (e.part k).regions = rs ∧ (e.part k).groups = gs ∧ (e.part k).key = some key ∧ e.mb.partResult = 0 ∧ e.mb.partValid = true ∧
      e.mb.partPending = none ∧
      (∀ c l, c / 3 ∈ s.dev.joining k gs → 64 * l < (s.dev.chan c).area →
        (e.chan c).filled = some key ∧ Map.get none (e.chan c).lines l = none) ∧
      (∀ c, c / 3 ∉ s.dev.joining k gs → e.chan c = s.dev.chan c)) ∧
  (∀ (s : State) (k key c : Nat) (rs : BitVec 24) (gs : Byte), k < 8 → s.dev.mb.partPending = some (k, rs, gs) → rs ≠ 0 →
    (s.dev.part k).key = some key → c / 3 ∈ s.dev.joining k gs → (s.dev.chan c).state = .failed →
    Completes (.groupZeroFillDone k) s (Signals pgMailbox 2 { s.dev with mb := { s.dev.mb with
      partPending := none, partResult := 3, partValid := true } })) ∧
  (∀ (s : State) (k key c : Nat) (rs : BitVec 24) (gs : Byte), k < 8 → s.dev.mb.partPending = some (k, rs, gs) → rs ≠ 0 →
    (s.dev.part k).key = some key → (∀ c, c < 24 → c / 3 ∈ s.dev.joining k gs → (s.dev.chan c).state ≠ .failed) →
    c / 3 ∈ s.dev.joining k gs → (s.dev.chan c).state = .training → exec (.groupZeroFillDone k) s = .next s)

/-- A teardown ends: the partition holds no region, group, key, image, completion count or verified measurement, no tile's,
BME's or channel's OWNER names it, and a release that asked for it settles 0, where no life-cycle request waits for it. Without a
teardown nothing happens. -/
def TeardownLeavesNothingClauses : Prop :=
  (∀ (s : State) (k : Nat), k < 8 → (s.dev.part k).run.teardown = true → s.dev.sec.lcWait = none →
    Completes (.teardownDrainDone k) s fun e =>
    (e.part k).regions = 0 ∧ (e.part k).groups = 0 ∧ (e.part k).key = none ∧ (e.part k).image = none ∧ (e.part k).cc = [] ∧
    (e.part k).verified = none ∧ (e.part k).run.phase = .none ∧ (e.part k).run.teardown = false ∧
    (∀ t, (e.tile t).owner = 0 ∨ pcidPart (e.tile t).owner ≠ k) ∧ (∀ c, (e.bme c).owner = 0 ∨ pcidPart (e.bme c).owner ≠ k) ∧
    (∀ c, (e.chan c).owner = 0 ∨ pcidPart (e.chan c).owner ≠ k) ∧
    (s.dev.mb.partPending = some (k, 0, 0) → e.mb.partPending = none ∧ e.mb.partResult = 0 ∧ e.mb.partValid = true)) ∧
  (∀ (s : State) (k : Nat), (s.dev.part k).run.teardown = false → s.dev.sec.lcWait = none →
    exec (.teardownDrainDone k) s = .next s)

/-- Assigning a partition, zeroing what joins it, and its teardown. Model's choice, not the spec's: the order in which PART_GO's
checks are made (log entry 24). -/
def Obligations.AssignmentAndTeardown : Prop := PartitionAssignmentClauses ∧ JoiningGroupsAreZeroedClauses ∧ TeardownLeavesNothingClauses

/-- A start request. One that a rule forbids settles with its code and starts nothing; an accepted one settles 0, the partition is
STARTING, and its gated regions are ungated by a staggered start that begins 10 µs later, with the forewarning of its dies; regions
that are not gated need 10 µs of forewarning only. During a test 0 or 4 it waits. -/
def StartRequestsClauses : Prop :=
  (∀ (s : State) (k c : Nat) (h : Bool), k < 8 → s.dev.deepTest = false → s.dev.startCode k h = some c →
    Completes (if h then .heatStart k else .startGo k) s
      (Signals (pgMailboxP k) 3 (s.dev.updPart k fun p => { p with startResult := c, startValid := true }))) ∧
  (∀ (s : State) (k : Nat) (h : Bool), k < 8 → s.dev.deepTest = false → s.dev.startCode k h = none → s.dev.regionsIn k .gated ≠ [] →
    Completes (if h then .heatStart k else .startGo k) s fun e =>
      (e.part k).startResult = 0 ∧ (e.part k).startValid = true ∧ (e.part k).run.phase = .starting ∧ (e.part k).run.heat = h ∧
      (e.part k).run.heatAt = (s.dev.part k).tH ∧ (e.part k).run.heatNo = (s.dev.part k).heatNo ∧
      ((e.page (pgMailboxP k)).intRaw &&& 8) = 8 ∧ e.clk.staggers = s.dev.clk.staggers ++
        [{ part := k, left := s.dev.regionsIn k .gated, purpose := .start, lastAt := s.dev.clk.now + 16000,
           lap := some (s.dev.lapFrom (max (s.dev.clk.now + 17600 + 400 * ((s.dev.regionsIn k .gated).length - 1))
             (if h then s.dev.clk.now + ((s.dev.part k).tH.toNat - s.dev.tk.time.toNat) / 10 else 0))) }] ∧
      ((s.dev.regionsIn k .gated).any (· < 12) = true → e.pwr.lsfW = true ∧ s.dev.clk.now + 16000 ≤ e.pwr.lsfWUntil) ∧
      e.pacers = s.dev.pacers ∧ e.tiles = s.dev.tiles ∧ e.clk.regions = s.dev.clk.regions) ∧
  (∀ (s : State) (k : Nat) (h : Bool), k < 8 → s.dev.deepTest = false → s.dev.startCode k h = none → s.dev.regionsIn k .gated = [] →
    Completes (if h then .heatStart k else .startGo k) s fun e =>
      (e.part k).startResult = 0 ∧ (e.part k).run.phase = .starting ∧ (e.part k).run.startAt = s.dev.clk.now + 16000 ∧
      e.clk = s.dev.clk ∧ e.pacers = s.dev.pacers) ∧
  (∀ (s : State) (k : Nat) (h : Bool), k < 8 → s.dev.deepTest = true → Completes (if h then .heatStart k else .startGo k) s fun e =>
    e.st.waits = s.dev.st.waits ++ [.start k h] ∧ (e.part k).run = (s.dev.part k).run ∧ (e.part k).startValid = false) ∧
  (∀ (d : Device) (k : Nat) (h : Bool), (d.part k).image = none ∨ (d.part k).run.phase ≠ .loaded → d.startCode k h = some 8) ∧
  (∀ (d : Device) (k : Nat) (h : Bool) (im : Image), (d.part k).image = some im → (d.part k).run.phase = .loaded →
    d.clk.opCur < im.opDecl ∨ im.opMin < d.clk.opCur → d.startCode k h = some 4) ∧
  (∀ (d : Device) (k : Nat) (h : Bool), 1050 ≤ d.thr.hotT → d.startCode k h ≠ none)

/-- One region of a staggered start is ungated: the lowest of all that wait for the same lap mark, and no sooner than its sequence allows.
A compute region goes to FILL, its tiles in service are no longer gated, and a spare that is substituted for none stays gated; an I/O
region runs, and its enabled ports begin to train. The next region of the sequence follows 250 ns later at the earliest. -/
def StaggeredUngatingClauses : Prop :=
  (∀ (s : State) (g : Nat) (q : Stagger), q ∈ s.dev.clk.staggers → g ∈ q.left → q.lastAt ≤ s.dev.clk.now →
    (∀ x ∈ s.dev.clk.staggers, q.joins x = true → ∀ y ∈ x.left, g ≤ y) →
    (∀ x ∈ s.dev.clk.staggers, g ∈ x.left → q.joins x = true) → Completes (.regionUngate g) s fun e =>
      (∀ x ∈ e.clk.staggers, g ∉ x.left) ∧
      (∀ x ∈ s.dev.clk.staggers, q.joins x = true → (∃ y ∈ x.left, y ≠ g) → ∃ z ∈ e.clk.staggers, z.part = x.part ∧
        z.left = x.left.filter (· != g) ∧ s.dev.clk.now + 400 ≤ z.lastAt) ∧
      (∀ j, j ≠ g → e.region j = s.dev.region j) ∧ e.pacers = s.dev.pacers ∧ e.parts = s.dev.parts ∧
      (g < 24 → (e.region g).power = .fill ∧ (∀ t ∈ regionTiles g, (e.tile t).gated = !s.dev.inService t) ∧ e.ports = s.dev.ports) ∧
      (24 ≤ g → (e.region g).power = .run ∧ e.tiles = s.dev.tiles ∧
        ∀ i, i < 24 → portRegion i = g → (s.dev.port i).enable = true → (s.dev.port i).link.state = .disabled →
          (e.port i).link.state = .detect ∧ (e.port i).enable = true)) ∧
  (∀ (s : State) (g : Nat), (∀ q ∈ s.dev.clk.staggers, g ∈ q.left → q.lastAt ≤ s.dev.clk.now →
    ∃ x ∈ s.dev.clk.staggers, q.joins x = true ∧ ∃ y ∈ x.left, y < g) → exec (.regionUngate g) s = .next s)

/-- S, the start of a run: the first lap mark at which the partition is prepared. Its run is RUNNING from this cycle and split, every
pacer of its image stands before stride 0 of bank 0 with its counters and comparators at zero, and its regions leave FILL. Off
a lap mark nothing starts. -/
def PartitionStartsClauses : Prop :=
  (∀ (s : State) (k : Nat), k < 8 → (s.dev.part k).run.phase = .starting → s.dev.clk.lapCyc = 0 → s.dev.clk.gun = .fired →
    s.dev.prepared k = true → (s.dev.part k).run.heat = true → (s.dev.part k).run.heatAt.toNat ≤ s.dev.tk.time.toNat →
    Completes (.partitionStart k) s fun e => (e.part k).run.phase = .running ∧ (e.part k).run.startCyc = s.dev.cyc ∧
      (e.part k).run.startSplit = s.dev.split ∧ (e.part k).run.runSeq = (s.dev.part k).run.runSeq + 1 ∧
      (e.part k).heatSkew = s.dev.split - (s.dev.part k).run.heatAt ∧ (e.part k).run.hold = none ∧
      (∀ p ∈ s.dev.pacersOf k, (e.pacer p).state = .running ∧ (e.pacer p).next = 0 ∧ (e.pacer p).bank = false ∧
        (e.pacer p).lcCur = [] ∧ (e.pacer p).cmps = [] ∧ (e.pacer p).lastIssue = s.dev.cyc ∧
        (e.pacer p).table = (s.dev.pacer p).table) ∧
      (∀ g ∈ s.dev.regionsIn k .fill, (e.region g).power = .run) ∧
      (∀ j, j ≠ k → e.part j = s.dev.part j)) ∧
  (∀ (s : State) (k : Nat), k < 8 → (s.dev.part k).run.phase = .starting → s.dev.clk.lapCyc = 0 → s.dev.clk.gun = .fired →
    s.dev.prepared k = true → (s.dev.part k).run.heat = false → Completes (.partitionStart k) s fun e =>
      (e.part k).run.phase = .running ∧ (e.part k).run.startCyc = s.dev.cyc ∧ (e.part k).heatSkew = (s.dev.part k).heatSkew ∧
      (∀ p ∈ s.dev.pacersOf k, (e.pacer p).state = .running)) ∧
  (∀ (s : State) (k : Nat), s.dev.clk.lapCyc ≠ 0 → exec (.partitionStart k) s = .next s)

/-- A start from its request to S. Model's choice, not the spec's: a staggered start begins at the request (log entry 36). -/
def Obligations.Starts : Prop := StartRequestsClauses ∧ PartitionStartsClauses

/-! ### Pacers -/

/-- Operation `op` of pacer `p` issues now as issue `n` of its stride: operand `o`, configuration `cfg`, and the device `d1` once the
pacer has moved past it. -/
def Issues (d : Device) (p op n : Nat) (ok : Nat → Bool) (o : Nat) (cfg : Cfg) (d1 : Device) : Prop :=
  d.fetch p op n ok = some (o, cfg, d1)

/-- Two devices alike in everything but pacer `p`. -/
def OnlyPacer (p : Nat) (d e : Device) : Prop := e = { d with pacers := e.pacers } ∧ ∀ q, q ≠ p → e.pacer q = d.pacer q

/-- The commands that issue a stride of pacer `p`, or work at one. -/
def pacerCommands (p n : Nat) : List Instr :=
  [.nop p, .ldesc p, .start p, .setcnt p, .setcmp p, .swap p, .trace p, .frame p, .step p, .halt p, .endRun p, .loopBegin p,
   .loopEnd p, .waitResolve p, .rdb p n, .pass p n, .bankMode p, .readout p, .ladd p, .vadd p, .vsub p, .vmul p,
   .vfma p, .vmin p, .vmax p, .vabs p, .vneg p, .vmov p, .vcvt p, .vqnt p, .vredadd p, .vredmax p, .vbcast p, .vexp2 p, .vrcp p,
   .vrsq p, .vlog p, .openScan p, .drdPattern p n, .drdBmeScan p n, .dref p, .qxfer p]

/-- A stride whose words are not upset issues exactly when it is due, its loop entered or its wait resolved: the pacer then stands past
it, an operation that repeats is outstanding with the configuration of its first issue, and nothing but the pacer changes; a later
issue of a repeat comes GAP cycles after the one before and starts the stall timer anew. The units of a frozen pacer issue nothing. -/
def Obligations.StridesIssue : Prop :=
  (∀ (d : Device) (p op c : Nat) (ok : Nat → Bool), d.flt.upsets = [] → d.pacerCyc p = some c →
    (d.pacer p).canIssue c = true → Stride.op (d.pacer p).nextStride = op → ok (Stride.opnd (d.pacer p).nextStride) = true →
    ∃ d1, Issues d p op 0 ok (Stride.opnd (d.pacer p).nextStride) (d.cfgNow p c) d1 ∧ OnlyPacer p d d1 ∧
      (d1.pacer p).next = (d.pacer p).next + 1 ∧ (d1.pacer p).lastIssue = c ∧ (d1.pacer p).strideIdx = (d.pacer p).next ∧
      (d1.pacer p).stall = 0 ∧ (d1.pacer p).entered = false ∧ (d1.pacer p).waitOk = none ∧
      (repOf op (Stride.opnd (d.pacer p).nextStride) = 0 → (d1.pacer p).outst = (d.pacer p).outst) ∧
      (d1.pacer p).table = (d.pacer p).table ∧ (d1.pacer p).activeCfg = (d.pacer p).activeCfg ∧
      (d1.pacer p).lcCur = (d.pacer p).lcCur ∧ (d1.pacer p).cmps = (d.pacer p).cmps) ∧
  (∀ (d : Device) (p op n c : Nat) (ok : Nat → Bool) (o : Outst), n ≠ 0 → d.pacerCyc p = some c → (d.pacer p).outst = [o] →
    o.op = op → o.next = n → ok o.opnd.toNat = true → o.issued + n * gapOf op o.opnd.toNat = c →
    ∃ d1, Issues d p op n ok o.opnd.toNat o.cfg d1 ∧ OnlyPacer p d d1 ∧
      d1.pacer p = { d.pacer p with stall := 0, outst := if n < repOf op o.opnd.toNat then [{ o with next := n + 1 }] else [] }) ∧
  (∀ (s : State) (p n : Nat) (c : Instr), s.dev.pacerCyc p = none → c ∈ pacerCommands p n → exec c s = .next s) ∧
  (∀ (s : State) (p : Nat), (s.dev.asMet p).pacerCyc p = none → exec (.waitWindowExpiry p) s = .next s)

/-- The operations that set a pacer up. NOP has no effect of its own. LDESC brings descriptor DREF of the active bank into the shadow set
four cycles later, and no active register changes; START makes the shadow set active and returns the beat counters of the unit to zero;
SETCNT writes one LC_INIT; SETCMP configures one comparator; TRACE queues a record of kind 1, or counts it when sixteen wait. -/
def Obligations.PacerSetup : Prop :=
  (∀ (s : State) (p o : Nat) (cfg : Cfg) (d1 : Device), Issues s.dev p 0x00 0 anyOpnd o cfg d1 →
    exec (.nop p) s = .next { s with dev := d1 }) ∧
  (∀ (s : State) (p o c : Nat) (cfg : Cfg) (d1 : Device), s.dev.flt.upsets = [] → Issues s.dev p 0x01 0 anyOpnd o cfg d1 →
    d1.pacerCyc p = some c → Completes (.ldesc p) s fun e => OnlyPacer p d1 e ∧ (e.pacer p).activeCfg = (d1.pacer p).activeCfg ∧
      (e.pacer p).ldesc = some (c + 4, Map.get 0 (s.dev.pacer p).descs
        (64 * b2n (s.dev.pacer p).bank + Stride.dref (s.dev.pacer p).nextStride)) ∧
      (∀ x, x < c + 4 → (d1.pacer p).ldesc = none → (e.pacer p).shadowNow x = (d1.pacer p).shadowNow x) ∧
      (e.pacer p).shadowNow (c + 4) = Map.get 0 (s.dev.pacer p).descs
        (64 * b2n (s.dev.pacer p).bank + Stride.dref (s.dev.pacer p).nextStride)) ∧
  (∀ (s : State) (p o c : Nat) (cfg : Cfg) (d1 : Device), Issues s.dev p 0x02 0 anyOpnd o cfg d1 → d1.pacerCyc p = some c →
    Completes (.start p) s fun e => (e.pacer p).activeCfg = (d1.pacer p).shadowNow c ∧
      (e.pacer p).shadowNow c = (d1.pacer p).shadowNow c ∧ (∀ q, q ≠ p → e.pacer q = d1.pacer q) ∧
      (p < 208 → (e.tile p).rdBeat = [] ∧ (e.tile p).wrBeat = []) ∧
      (320 ≤ p → p < 344 → (e.chan (p - 320)).beats = [] ∧ (e.chan (p - 320)).cursors = []) ∧
      e = { d1 with pacers := e.pacers, tiles := e.tiles, chans := e.chans }) ∧
  (∀ (s : State) (p o : Nat) (cfg : Cfg) (d1 : Device), Issues s.dev p 0x03 0 anyOpnd o cfg d1 →
    Completes (.setcnt p) s fun e => OnlyPacer p d1 e ∧ (e.pacer p).lcCur = (d1.pacer p).lcCur ∧
      Map.get 0 (e.pacer p).lcInit (bits o 24 3) = BitVec.ofNat 24 o ∧
      ∀ j, j ≠ bits o 24 3 → Map.get 0 (e.pacer p).lcInit j = Map.get 0 (d1.pacer p).lcInit j) ∧
  (∀ (s : State) (p o : Nat) (cfg : Cfg) (d1 : Device), Issues s.dev p 0x04 0 anyOpnd o cfg d1 →
    Completes (.setcmp p) s fun e => OnlyPacer p d1 e ∧
      (∃ m, Map.get {} (e.pacer p).cmps (bits o 58 2) = m ∧ m.value = BitVec.ofNat 48 o ∧ m.src = bits o 48 2 ∧
        m.index = bits o 50 6 ∧ m.rel = bits o 56 2 ∧ m.enable = bit o 60) ∧
      ∀ j, j ≠ bits o 58 2 → Map.get {} (e.pacer p).cmps j = Map.get {} (d1.pacer p).cmps j) ∧
  (∀ (s : State) (p o : Nat) (cfg : Cfg) (d1 : Device), Issues s.dev p 0x06 0 anyOpnd o cfg d1 →
    Completes (.trace p) s fun e => OnlyPacer p d1 e ∧
      ((d1.pacer p).traceQ.length < 16 → ∃ r, (e.pacer p).traceQ = (d1.pacer p).traceQ ++ [r] ∧ r.kind = 1 ∧ r.pacer = p ∧
        r.stride = (s.dev.pacer p).next ∧ r.bib = Cfg.bib cfg) ∧
      (16 ≤ (d1.pacer p).traceQ.length → (e.pacer p).traceQ = (d1.pacer p).traceQ ∧
        (e.pacer p).traceDrop = satInc (d1.pacer p).traceDrop))

/-- Flow. SWAP with BANK_READY set before this cycle makes the other bank pair active, clears BANK_READY and continues at stride ENTRY; FRAME puts the
pacer to sleep, and a compute region whose pacers all sleep is gated when the frame's lap mark lies 40 µs or more ahead; STEP registers a boundary and clears counter 63; HALT ends the pacer's part; END puts the commit pacer into DRAINING until
DRAIN cycles later; a loop latches its count or is skipped when the count is zero, and its end decrements and jumps back until the count is
zero; a wait that is satisfied within its window resolves. -/
def Obligations.PacerFlow : Prop :=
  (∀ (s : State) (p o : Nat) (cfg : Cfg) (d1 : Device), (s.dev.pacer p).ready = true → (s.dev.pacer p).readyCyc < s.dev.cyc →
    Issues s.dev p 0x05 0 anyOpnd o cfg d1 → Completes (.swap p) s fun e => (e.pacer p).bank = !(d1.pacer p).bank ∧ (e.pacer p).ready = false ∧
      (e.pacer p).next = bits o 0 11 ∧ (e.pacer p).table = (d1.pacer p).table ∧ (e.pacer p).activeCfg = (d1.pacer p).activeCfg ∧
      (∀ q, q ≠ p → e.pacer q = d1.pacer q) ∧ e = { d1 with pacers := e.pacers, parts := e.parts }) ∧
  (∀ (s : State) (p : Nat), (s.dev.pacer p).ready = false ∨ s.dev.cyc ≤ (s.dev.pacer p).readyCyc → exec (.swap p) s = .next s) ∧
  (∀ (s : State) (p k o : Nat) (cfg : Cfg) (d1 : Device), Issues s.dev p 0x07 0 anyOpnd o cfg d1 → d1.pacerPart p = some k →
    Completes (.frame p) s fun e => (e.pacer p).state = .sleep ∧ (e.part k).run.lastFrame = d1.cyc ∧
      (∀ q, q ≠ p → e.pacer q = d1.pacer q) ∧
      (∀ q ∈ d1.pacersOf k, pacerRegion q < 24 → (d1.part k).image.isSome = true →
        (∀ r ∈ e.regionPacers k (pacerRegion q), (e.pacer r).state = .sleep) → e.tk.time.toNat + 640000 ≤ e.frameMark k →
        (e.region (pacerRegion q)).power = .gated) ∧
      (e.frameMark k < e.tk.time.toNat + 640000 → e.clk = d1.clk ∧ e.tiles = d1.tiles)) ∧
  (∀ (s : State) (p k o : Nat) (cfg : Cfg) (d1 : Device), s.dev.commitOf p = some k → Issues s.dev p 0x08 0 anyOpnd o cfg d1 →
    Completes (.step p) s fun e => (e.ccOf k 63).count = 0 ∧ (e.part k).serving.stepCnt = (d1.part k).serving.stepCnt + 1 ∧
      (e.part k).serving.boundary = some (d1.split, Cfg.bib cfg) ∧ e = { d1 with parts := e.parts } ∧
      ∀ j, j ≠ 63 → e.ccOf k j = d1.ccOf k j) ∧
  (∀ (s : State) (p o : Nat) (cfg : Cfg) (d1 : Device), Issues s.dev p 0x09 0 anyOpnd o cfg d1 →
    Completes (.halt p) s fun e => OnlyPacer p d1 e ∧ e.pacer p = { d1.pacer p with state := PState.done, stall := 0 }) ∧
  (∀ (s : State) (p o c : Nat) (cfg : Cfg) (d1 : Device), (s.dev.commitOf p).isSome = true → Issues s.dev p 0x0A 0 anyOpnd o cfg d1 →
    d1.pacerCyc p = some c → Completes (.endRun p) s fun e => OnlyPacer p d1 e ∧
      e.pacer p = { d1.pacer p with state := PState.draining, commitCyc := some (c + bits o 0 16) }) ∧
  (∀ (s : State) (p c ctr e0 : Nat), s.dev.pacerCyc p = some c →
    lwDecode (Stride.lw (s.dev.pacer p).nextStride) = .loopBegin ctr false e0 → (s.dev.pacer p).atStride = true →
    (s.dev.pacer p).entered = false → (s.dev.pacer p).dueAt = c → Completes (.loopBegin p) s fun e => OnlyPacer p s.dev e ∧
      Map.get 0 (e.pacer p).lcCur ctr = Map.get 0 (s.dev.pacer p).lcInit ctr ∧
      (Map.get 0 (s.dev.pacer p).lcInit ctr = 0 → (e.pacer p).next = e0 + 1 ∧ (e.pacer p).lastIssue = c) ∧
      (Map.get 0 (s.dev.pacer p).lcInit ctr ≠ 0 → (e.pacer p).entered = true ∧ (e.pacer p).next = (s.dev.pacer p).next)) ∧
  (∀ (s : State) (p c i ctr b : Nat), s.dev.pacerCyc p = some c → (s.dev.pacer p).pendingEnd = some i →
    (s.dev.pacer p).loopOf i = some (ctr, false, b) → Completes (.loopEnd p) s fun e => OnlyPacer p s.dev e ∧
      Map.get 0 (e.pacer p).lcCur ctr = Map.get 0 (s.dev.pacer p).lcCur ctr - 1 ∧ (e.pacer p).pendingEnd = none ∧
      (Map.get 0 (s.dev.pacer p).lcCur ctr = 1 → (e.pacer p).next = (s.dev.pacer p).next) ∧
      (Map.get 0 (s.dev.pacer p).lcCur ctr ≠ 1 → (e.pacer p).next = b ∧ (e.pacer p).entered = true)) ∧
  (∀ (s : State) (p c cmp w : Nat), s.dev.pacerCyc p = some c →
    lwDecode (Stride.lw (s.dev.pacer p).nextStride) = .wait cmp w → (s.dev.pacer p).atStride = true →
    (s.dev.pacer p).waitOk = none → (s.dev.pacer p).dueAt ≤ c → c ≤ (s.dev.pacer p).dueAt + w → s.dev.waitTrue p c = true →
    Completes (.waitResolve p) s fun e => OnlyPacer p s.dev e ∧
      e.pacer p = { s.dev.pacer p with waitOk := some c, missed := false, lapsed := false }) ∧
  (∀ (s : State) (p c cmp w : Nat), s.dev.pacerCyc p = some c →
    lwDecode (Stride.lw (s.dev.pacer p).nextStride) = .wait cmp w → s.dev.waitTrue p c = false → exec (.waitResolve p) s = .next s)

/-- A plan's end. A planned event outside its window is a lap hold of the partition in cadence mode (the first cause, counted once; a further cause of the same cycle joins it) and a
false start in lockstep mode; the commit cycle with every other pacer DONE commits the run, which is COMPLETED, with its record, when the
cycle ends without an abort; a host abort of a running partition, one that commits in this cycle among them, is accepted with cause 3 and
stops every pacer of it, while the repeats of operations already issued still come; one without effect is refused with its code; an
aborted run writes its record once. -/
def Obligations.RunsEnd : Prop :=
  (∀ (s : State) (p k c cause : Nat), s.dev.pacerCyc p = some c → s.dev.windowMissed p c = some cause → s.dev.pacerPart p = some k →
    s.dev.running k = true → s.dev.lockstep = false → (s.dev.part k).run.hold = none →
    (∀ st, (s.dev.pacer p).stopped ≠ some (s.dev.cyc, st)) → Completes (.waitWindowExpiry p) s fun e =>
      (∃ h, (e.part k).run.hold = some h ∧ h.fMin = s.dev.cyc ∧ h.unit = p ∧ h.cause = cause) ∧
      (e.part k).run.holds = min ((s.dev.part k).run.holds + 1) 0xFFFF ∧ (e.pacer p).missed = true ∧
      e = { s.dev with pacers := e.pacers, parts := e.parts }) ∧
  (∀ (s : State) (p k c cause : Nat) (h : Hold), s.dev.pacerPart p = some k → s.dev.running k = true → s.dev.lockstep = false →
    (s.dev.part k).run.hold = some h → Map.get 0 h.own (pacerRegion p) = s.dev.cyc → s.dev.cyc ≠ 0 →
    (s.dev.asMet p).pacerCyc p = some c → (s.dev.asMet p).windowMissed p c = some cause → Completes (.waitWindowExpiry p) s fun e =>
      (∃ g, (e.part k).run.hold = some g ∧ g.fMin = h.fMin ∧ g.unit = h.unit ∧ g.cause = h.cause ∧ (p, cause) ∈ g.causes ∧
        g.own = h.own) ∧ (e.part k).run.holds = (s.dev.part k).run.holds ∧
      e = { s.dev with pacers := e.pacers, parts := e.parts }) ∧
  (∀ (s : State) (p k c cause : Nat), s.dev.pacerCyc p = some c → s.dev.windowMissed p c = some cause → s.dev.pacerPart p = some k →
    s.dev.lockstep = true → (s.dev.part k).run.action = none → (s.dev.part k).run.phase = .running → (s.dev.part k).run.hold = none →
    (∀ st, (s.dev.pacer p).stopped ≠ some (s.dev.cyc, st)) →
    Completes (.waitWindowExpiry p) s fun e => (e.part k).run.phase = .aborted ∧ (e.part k).run.reset.isSome = true ∧
      (∃ a, (e.part k).run.abort = some a ∧ a.cause = 1 ∧ a.cyc = s.dev.cyc) ∧
      (Map.get {} e.flt.onDie (s.dev.flt.seq.toNat % 256)).code = 0x0101 ∧
      (Map.get {} e.flt.onDie (s.dev.flt.seq.toNat % 256)).unit = p ∧
      (Map.get {} e.flt.onDie (s.dev.flt.seq.toNat % 256)).cause = cause ∧ e.flt.seq = s.dev.flt.seq + 1) ∧
  (∀ (s : State) (k tc : Nat) (im : Image), (s.dev.part k).image = some im → s.dev.running k = true →
    (s.dev.pacer im.commitPacer).commitCyc = some tc → s.dev.pacerCyc im.commitPacer = some tc →
    (s.dev.pacer im.commitPacer).state = .draining → s.dev.othersDone k = true → Completes (.commit k) s fun e =>
      (e.pacer im.commitPacer).state = .done ∧
      e.part k = { s.dev.part k with run := { (s.dev.part k).run with
        commit := some (s.dev.cyc, s.dev.splitIn (pacerRegion im.commitPacer), s.dev.bib im.commitPacer) } } ∧
      (∀ q, q ≠ im.commitPacer → e.pacer q = s.dev.pacer q) ∧ (∀ j, j ≠ k → e.part j = s.dev.part j) ∧
      e = { s.dev with pacers := e.pacers, parts := e.parts }) ∧
  (∀ (d : Device) (k at_ : Nat) (sp : W64) (b : W32) (im : Image), (d.part k).image = some im → (d.part k).run.commit = some (at_, sp, b) →
    (d.part k).shadow.role = 0 → im.serving = false → d.flt.upsets = [] →
    ((d.finishCommit k).part k).run.phase = .completed ∧ ((d.finishCommit k).part k).run.commit = none ∧
      ((d.finishCommit k).part k).run.abort = (d.part k).run.abort ∧
      ((d.finishCommit k).part k).run.cplPos = ((d.part k).run.cplPos % 256 + 1) % 256 ∧ (d.finishCommit k).pacers = d.pacers) ∧
  (∀ (s : State) (p k : Nat), isPacer p = true → s.dev.commitOf p = some k → (s.dev.part k).run.phase = .running →
    Completes (.abort p) s fun e => (e.part k).run.phase = .aborted ∧
      (∃ a, (e.part k).run.abort = some a ∧ a.cause = 3 ∧ a.cyc = s.dev.cyc ∧ a.split = s.dev.splitIn (pacerRegion p) ∧
        a.written = false) ∧ (e.part k).run.commit = none ∧
      (e.pacer p).abortResult = 0 ∧ (e.pacer p).abortValid = true ∧
      (∀ q ∈ s.dev.pacersOf k, (s.dev.pacer q).state.active = true → (e.pacer q).state = .aborted ∧
        (e.pacer q).outst = (s.dev.pacer q).outst) ∧
      ((e.page (pgPacer p)).intRaw &&& 4) = 4) ∧
  (∀ (s : State) (p k : Nat), isPacer p = true → s.dev.commitOf p = some k → (s.dev.part k).run.phase ≠ .running →
    (s.dev.part k).run.phase ≠ .aborted → Completes (.abort p) s
      (Signals (pgPacer p) 2 (s.dev.updPacer p fun x =>
        { x with abortResult := if (s.dev.part k).run.phase = .completed then 2 else 3, abortValid := true }))) ∧
  (∀ (s : State) (p : Nat), isPacer p = true → s.dev.commitOf p = none → Completes (.abort p) s (Errs (pgPacer p) 0x0102 s.dev)) ∧
  (∀ (s : State) (k : Nat) (a : AbortReq), (s.dev.part k).run.phase = .aborted → (s.dev.part k).run.abort = some a →
    a.written = false → s.dev.flt.upsets = [] → (s.dev.part k).run.heat = false → (∀ im, (s.dev.part k).image = some im → im.serving = false) →
    Completes (.abortedRecordWrite k) s fun e => (e.part k).run.phase = .aborted ∧
      (∃ b, (e.part k).run.abort = some b ∧ b.written = true ∧ b.cause = a.cause) ∧ e.pacers = s.dev.pacers) ∧
  (∀ (s : State) (k : Nat) (a : AbortReq), (s.dev.part k).run.abort = some a → a.written = true →
    exec (.abortedRecordWrite k) s = .next s)

/-! ### Tiles -/

/-- Tile operation `op` of pacer `p` issues now in plan cycle `c`, its tile brought up to that cycle: `d2`. -/
def TileIssues (d : Device) (p op n : Nat) (ok : Nat → Bool) (o : Nat) (cfg : Cfg) (c : Nat) (d2 : Device) : Prop :=
  p < 208 ∧ ∃ d1, Issues d p op n ok o cfg d1 ∧ c = d1.now p ∧ d2 = d1.settleTile p c

/-- The part of the tile that `key` names has not been used in cycle `c` (R79). -/
def PortFree (d : Device) (t key c : Nat) : Prop := ∀ u ∈ (d.tile t).used c, u.1 ≠ key

/-- No write of vector register `r`, and none through write port `port` of the vector register file, is under way that ends in cycle
`due` (R79). -/
def RegisterFree (d : Device) (t due port r : Nat) : Prop :=
  ∀ q ∈ (d.tile t).pend, q.due = due → match q.w.dest with
    | some (x, _) => x ≠ r ∧ q.port ≠ port
    | none => True

/-- Two devices alike in everything but tile `t`. -/
def OnlyTile (t : Nat) (d e : Device) : Prop := e = { d with tiles := e.tiles } ∧ ∀ j, j ≠ t → e.tile j = d.tile j

/-- The operation puts the write `q` under way in tile `p`; registers, rows and array memory stand as they did. -/
def PutsUnderWay (p : Nat) (q : TPend) (d e : Device) : Prop :=
  OnlyTile p d e ∧ (e.tile p).pend = (d.tile p).pend ++ [q] ∧ (e.tile p).vregs = (d.tile p).vregs ∧
    (e.tile p).accs = (d.tile p).accs ∧ (e.tile p).mem = (d.tile p).mem

/-- Vector command `i` is sub-operation `sub` of VOP: `lat` cycles after its issue, register VD takes the 128 lanes that `f` makes of
the tile's registers as they stand in the issue cycle. -/
def LaneOperation (i : Instr) (p sub : Nat) (lat : Cfg → Nat) (f : OpVop → Cfg → Tile → List W32) : Prop :=
  ∀ (s : State) (o c : Nat) (cfg : Cfg) (d2 : Device), TileIssues s.dev p 0x16 0 (fun o => (vopFields o).subop == sub) o cfg c d2 →
    PortFree d2 p 34 c → RegisterFree d2 p (c + lat cfg) 0 (vopFields o).vd →
    Completes i s (PutsUnderWay p { due := c + lat cfg, w := .vreg (vopFields o).vd (f (vopFields o) cfg (d2.tile p)) } d2)

/-- The vector operations: each lane of VD is the function of the same lane of its operands, reductions and broadcasts work within slot
lane groups, VQNT writes codes and scales, the special functions come after their own latency. A second ALU issue of one cycle is
blocked and raises PORT_CONFLICT. -/
def VectorOperationsClauses : Prop :=
  ∀ p : Nat,
  LaneOperation (.vadd p) p 0 (fun _ => 4) (fun o _ t => List.zipWith fpAdd (t.vreg o.va) (t.vreg o.vb)) ∧
  LaneOperation (.vsub p) p 1 (fun _ => 4) (fun o _ t => List.zipWith fpSub (t.vreg o.va) (t.vreg o.vb)) ∧
  LaneOperation (.vmul p) p 2 (fun _ => 4) (fun o _ t => List.zipWith fpMul (t.vreg o.va) (t.vreg o.vb)) ∧
  LaneOperation (.vfma p) p 3 (fun _ => 4) (fun o _ t => (List.range 128).map fun j =>
    fpFma ((t.vreg o.va).getD j 0) ((t.vreg o.vb).getD j 0) ((t.vreg o.vc).getD j 0)) ∧
  LaneOperation (.vmin p) p 4 (fun _ => 4) (fun o _ t => List.zipWith fpMin (t.vreg o.va) (t.vreg o.vb)) ∧
  LaneOperation (.vmax p) p 5 (fun _ => 4) (fun o _ t => List.zipWith fpMax (t.vreg o.va) (t.vreg o.vb)) ∧
  LaneOperation (.vabs p) p 6 (fun _ => 4) (fun o _ t => (t.vreg o.va).map fpAbs) ∧
  LaneOperation (.vneg p) p 7 (fun _ => 4) (fun o _ t => (t.vreg o.va).map fpNeg) ∧
  LaneOperation (.vmov p) p 8 (fun _ => 4) (fun o _ t => t.vreg o.va) ∧
  LaneOperation (.vredadd p) p 11 (fun cfg => 2 + 2 * cfg.slg)
    (fun o cfg t => byGroup cfg.slg (fun g => (treeFold fpAdd cfg.slg g).headD 0) (t.vreg o.va)) ∧
  LaneOperation (.vredmax p) p 12 (fun cfg => 2 + 2 * cfg.slg)
    (fun o cfg t => byGroup cfg.slg (fun g => (treeFold fpMax cfg.slg g).headD 0) (t.vreg o.va)) ∧
  LaneOperation (.vbcast p) p 13 (fun _ => 4) (fun o cfg t => byGroup cfg.slg (fun g => g.headD 0) (t.vreg o.va)) ∧
  (∀ (s : State) (o c : Nat) (cfg : Cfg) (d2 : Device), TileIssues s.dev p 0x16 0 (fun o => (vopFields o).subop == 9) o cfg c d2 →
    PortFree d2 p 34 c → RegisterFree d2 p (c + 3) 0 (vopFields o).vd → Completes (.vcvt p) s fun e =>
      PutsUnderWay p { due := c + 3, w := .vreg (vopFields o).vd (((d2.tile p).vreg (vopFields o).va).map fun x =>
        BitVec.ofNat 32 (convert (vopFields o).fmt (vopFields o).rz (vopFields o).nonsat x).1) } d2 e) ∧
  (∀ (s : State) (o c : Nat) (cfg : Cfg) (d2 : Device), TileIssues s.dev p 0x16 0 (fun o => (vopFields o).subop == 10) o cfg c d2 →
    PortFree d2 p 34 c → RegisterFree d2 p (c + 6) 0 (vopFields o).vd → RegisterFree d2 p (c + 6) 0 (vopFields o).vd2 →
    Completes (.vqnt p) s fun e => OnlyTile p d2 e ∧ ∃ codes scales,
      (e.tile p).pend = (d2.tile p).pend ++ [{ due := c + 6, w := .vreg (vopFields o).vd codes },
        { due := c + 6, w := .vreg (vopFields o).vd2 scales }] ∧ codes.length = 128 ∧ scales.length = 128 ∧
      ∀ j, j < 128 → (j % 32 ≠ 0 → scales.getD j 1 = 0) ∧
        codes.getD j 0 = BitVec.ofNat 32 (((quantise (vopFields o).fmt (vopFields o).rz
          ((((d2.tile p).vreg (vopFields o).va).drop (32 * (j / 32))).take 32)).2).getD (j % 32) 0)) ∧
  (∀ (s : State) (fn o c : Nat) (cfg : Cfg) (d2 : Device), fn < 4 →
    TileIssues s.dev p 0x17 0 (fun o => (vsfuFields o).fn == fn) o cfg c d2 → PortFree d2 p 35 c →
    RegisterFree d2 p (c + ((if d2.fuses.stepB0 then 12 else 14) + (d2.tile p).sfuPad)) 1 (vsfuFields o).vd →
    Completes (match fn with | 0 => .vexp2 p | 1 => .vrcp p | 2 => .vrsq p | _ => .vlog p) s
      (PutsUnderWay p {
        due := c + ((if d2.fuses.stepB0 then 12 else 14) + (d2.tile p).sfuPad)
        port := 1
        w := .vreg (vsfuFields o).vd (((d2.tile p).vreg (vsfuFields o).va).map
          (match fn with | 0 => sfuExp2 | 1 => sfuRcp | 2 => sfuRsq | _ => sfuLog)) } d2)) ∧
  (∀ (s : State) (o c : Nat) (cfg : Cfg) (d2 : Device), TileIssues s.dev p 0x16 0 (fun o => (vopFields o).subop == 0) o cfg c d2 →
    ((d2.tile p).used c).find? (fun u => u.1 == 34) = some (34, 0) → (d2.tile p).owner = 0 → Completes (.vadd p) s fun e => e.tiles = d2.tiles ∧
      (Map.get {} e.flt.onDie (d2.flt.seq.toNat % 256)).code = 0x0103 ∧ e.flt.seq = d2.flt.seq + 1)

/-- A vector result lands in its register no sooner than its cycle and whole: before it the register reads as it did, from it on it reads
the 128 lanes that were put under way, those of a vector load being the lanes of the lines that its beats have read, in ascending
order of channel. -/
def ResultsLandOnTimeClauses : Prop :=
  (∀ (d : Device) (t c r fmt m : Nat) (w : TPend) (ls : List (Nat × Line)) (xs : List Line) (sc : List Nat), (d.tile t).pend = [w] →
    w.w = .load r fmt m ls sc → r < 32 → w.due ≤ c → expectLines (fmtLines fmt) m ls = xs.map some →
    ((d.settleTile t c).tile t).vreg r = loadLanes fmt (linesNat xs) sc ∧ ((d.settleTile t c).tile t).pend = [] ∧
      ∀ q, q < 32 → q ≠ r → ((d.settleTile t c).tile t).vreg q = (d.tile t).vreg q) ∧
  ∀ (d : Device) (t c r : Nat) (w : TPend) (xs : List W32), (d.tile t).pend = [w] → w.w = .vreg r xs → r < 32 → xs.length = 128 →
    (w.due ≤ c → ((d.settleTile t c).tile t).vreg r = xs ∧ ((d.settleTile t c).tile t).pend = [] ∧
      ∀ q, q < 32 → q ≠ r → ((d.settleTile t c).tile t).vreg q = (d.tile t).vreg q) ∧
    (c < w.due → ((d.settleTile t c).tile t).vreg r = (d.tile t).vreg r ∧ ((d.settleTile t c).tile t).pend = [w])

/-- The vector operations and when their results are there. Model's choice, not the spec's: results land after their latency (log
entry 39), and special functions give a free choice within their bound (log entry 12). -/
def Obligations.VectorUnit : Prop := VectorOperationsClauses ∧ ResultsLandOnTimeClauses

/-- Column `col` of a resident block, as values: its codes stand one after another, column by column. -/
def blockColumn (cfg : Cfg) (blk col : Nat) : List FV :=
  (List.range (passInputs cfg.sfmt cfg.rfmt)).map fun i =>
    elemValue cfg.rfmt (elemAt cfg.rfmt blk (col * passInputs cfg.sfmt cfg.rfmt + i))

/-- The streamed vector as values. -/
def streamCodes (cfg : Cfg) (v : Nat) : List FV :=
  (List.range (passInputs cfg.sfmt cfg.rfmt)).map fun i => elemValue cfg.sfmt (elemAt cfg.sfmt v i)

/-- The array and its streams. RDB takes one line of every channel named, to the array's input, the staging register, a vector
register or the long-add input, each after its latency; WRB lays the lines of a vector register on its channels; a PASS in a
bank in compute mode adds the arrived vector times its block, column by column, to its own row (unscaled long pairings are
stated in full), and changes no other row and no word of array memory; MODE makes the banks named busy for 16 cycles; READOUT
reads its row and clears it when asked; LADD adds a long value to every column of its row. Model's choice, not the spec's: the
arrival of stream vectors and of LADD records by their due cycle (log entry 39). -/
def Obligations.ArrayOperations : Prop :=
  (∀ (s : State) (p n o c : Nat) (cfg : Cfg) (d2 d3 : Device) (ls : List (Nat × Line)),
    TileIssues s.dev p 0x10 n anyOpnd o cfg c d2 → d2.readBeats p c cfg (maskList 8 (rdbFields o).chmask) = (ls, d3) →
    ((rdbFields o).dest = 0 ∨ (rdbFields o).dest = 3 → Completes (.rdb p n) s fun e => OnlyTile p d3 e ∧
      e.tile p = { d3.tile p with arr := (d3.tile p).arr ++ ls.map fun x =>
        { due := c + 5, ch := x.1, ladd := (rdbFields o).dest == 3, data := x.2 } }) ∧
    (∀ x, (rdbFields o).dest = 1 → ls = [x] → Completes (.rdb p n) s (PutsUnderWay p { due := c + 5, w := .stage x.2, ch := some x.1, at_ := c } d3)) ∧
    ((rdbFields o).dest = 2 → ls = [] → fmtMx (rdbFields o).fmt = false → Completes (.rdb p n) s fun e => OnlyTile p d3 e ∧
      (e.tile p).pend = (d3.tile p).pend ∧ (e.tile p).vregs = (d3.tile p).vregs) ∧
    ((rdbFields o).dest = 2 → ls ≠ [] → fmtMx (rdbFields o).fmt = false → RegisterFree d3 p (c + 7) 2 (((rdbFields o).vreg + n) % 32) →
      Completes (.rdb p n) s (PutsUnderWay p {
        due := c + 7
        port := 2
        ch := (ls.head?).map (·.1)
        at_ := c
        w := .load (((rdbFields o).vreg + n) % 32) (rdbFields o).fmt (rdbFields o).chmask ls [] } d3))) ∧
  (∀ (s : State) (p n o c : Nat) (cfg : Cfg) (d2 : Device), TileIssues s.dev p 0x11 n anyOpnd o cfg c d2 → (wrbFields o).src = 1 →
    Completes (.wrb p n) s fun e => OnlyTile p d2 e ∧ (e.tile p).mem = (d2.tile p).mem ∧ (e.tile p).vregs = (d2.tile p).vregs ∧
      (e.tile p).pend = (d2.tile p).pend ++ layBeats (maskList 2 (wrbFields o).chmask) cfg 8 (c + 2)
        (storeLines (d2.tile p) (wrbFields o) n).1 ∧
      (e.tile p).cvtNan = satAdd (d2.tile p).cvtNan (storeLines (d2.tile p) (wrbFields o) n).2) ∧
  (∀ (s : State) (p n o c : Nat) (cfg : Cfg) (d2 : Device), TileIssues s.dev p 0x12 n anyOpnd o cfg c d2 → PortFree d2 p 32 c →
    PortFree d2 p (64 + (passPlace (passFields o) n).2.2) c → (d2.tile p).computeBank (passFields o).bank c = true → d2.flt.upsets = [] → Completes (.pass p n) s fun e =>
      (e.tile p).mem = (d2.tile p).mem ∧ (e.tile p).vregs = (d2.tile p).vregs ∧ (∀ j, j ≠ p → e.tile j = d2.tile j) ∧
      (∀ row col, row ≠ (passPlace (passFields o) n).2.2 → col < 64 → (e.tile p).acc row col = (d2.tile p).acc row col) ∧
      (∀ xs blk col, expectLines (passLines cfg) (passFields o).chmask ((d2.tile p).streamed (passFields o).chmask c) = xs.map some →
        fmtMx cfg.sfmt = false →
        fmtMx cfg.rfmt = false → cfg.sfmt ≠ 1 → col < 64 →
        wordsNat (d2.readTileWords p (Cfg.bib cfg) (blockWords (passFields o) cfg n)).1 = blk →
        (e.tile p).acc (passPlace (passFields o) n).2.2 col = ((d2.tile p).acc (passPlace (passFields o) n).2.2 col).passLong cfg
          (blockColumn cfg blk col) (streamCodes cfg (linesNat xs)) (fun _ => 0x7F) (fun _ => 0x7F)) ∧
      e.pacers = d2.pacers ∧ e.chans = d2.chans ∧ e.bmes = d2.bmes ∧ e.flt = d2.flt) ∧
  (∀ (s : State) (p o c : Nat) (cfg : Cfg) (d2 : Device), TileIssues s.dev p 0x13 0 anyOpnd o cfg c d2 →
    Completes (.bankMode p) s fun e => OnlyTile p d2 e ∧ ∀ b, b < 16 →
      (o.testBit b = true → (e.tile p).compute.getLsbD b = bit o 16 ∧ Map.get 0 (e.tile p).modeBusy b = c + 16) ∧
      (o.testBit b = false → (e.tile p).compute.getLsbD b = (d2.tile p).compute.getLsbD b ∧
        Map.get 0 (e.tile p).modeBusy b = Map.get 0 (d2.tile p).modeBusy b)) ∧
  (∀ (s : State) (p o c : Nat) (cfg : Cfg) (d2 : Device), TileIssues s.dev p 0x14 0 anyOpnd o cfg c d2 → PortFree d2 p 33 c →
    PortFree d2 p (64 + (readoutFields o).row) c → (readoutFields o).toCh = false →
    (∀ a ∈ (d2.tile p).rowAccs (readoutFields o).row, a.bf = true ∨
      (a.n ≤ 32768 ∧ (cfg.sfmt = 1 → (readoutFields o).fmt = 0 → a.n = 0))) →
    (∀ q ∈ (d2.tile p).pend, q.due ≠ c + 4) → Completes (.readout p) s fun e => OnlyTile p d2 e ∧
      (e.tile p).pend = (d2.tile p).pend ++ [{
        due := c + 4
        port := 2
        w := .half (readoutFields o).vreg (if (readoutFields o).half then 64 else 0)
          (((d2.tile p).rowAccs (readoutFields o).row).map fun a => BitVec.ofNat 32 (a.read cfg (readoutFields o).fmt)) }] ∧
      ((readoutFields o).clear = true → ∀ col, col < 64 → (e.tile p).acc (readoutFields o).row col = {}) ∧
      ((readoutFields o).clear = false → (e.tile p).accs = (d2.tile p).accs) ∧
      (∀ row col, row ≠ (readoutFields o).row → col < 64 → (e.tile p).acc row col = (d2.tile p).acc row col)) ∧
  (∀ (s : State) (p o c : Nat) (cfg : Cfg) (d2 : Device) (ls : List Line), TileIssues s.dev p 0x15 0 anyOpnd o cfg c d2 →
    ls = ((List.range 8).filterMap fun ch => ((d2.tile p).arr.find? fun a => a.due == c - 1 && a.ch == ch && a.ladd).map (·.data)) ++
      ((List.range 8).filterMap fun ch => ((d2.tile p).arr.find? fun a => a.due == c && a.ch == ch && a.ladd).map (·.data)) →
    ls.length = 10 → d2.openSum p = false → Completes (.ladd p) s fun e => OnlyTile p d2 e ∧
      (∀ col, col < 64 → (e.tile p).acc (bits o 0 7) col = ((d2.tile p).acc (bits o 0 7) col).addLong (bits (linesNat ls) (80 * col) 80)) ∧
      ∀ row col, row ≠ bits o 0 7 → col < 64 → (e.tile p).acc row col = (d2.tile p).acc row col)

/-- The long accumulator is exact and its order of contributions makes no difference: what a contribution adds, once rounded, does
not depend on what the accumulator holds; lists of contributions that are permutations of
one another leave the same accumulator, contribution counts and flags included; a pass split in two, between blocks where it is
an MX pairing, leaves what the whole pass leaves; and the integer dot product of two lists of INT8 codes joins it without rounding,
modulo 2^80. -/
def Obligations.AccumulationIsExact : Prop :=
  (∀ (a b : Acc) (dd : Int) (c : Contrib), (a.contribute dd c).a - a.a = (b.contribute dd c).a - b.a) ∧
  (∀ (a : Acc) (xs ys : List (Int × Contrib)), xs.Perm ys →
    xs.foldl (fun a x => a.contribute x.1 x.2) a = ys.foldl (fun a x => a.contribute x.1 x.2) a) ∧
  (∀ (a : Acc) (cfg : Cfg) (ws ss : List Nat), cfg.sfmt = 7 → cfg.rfmt = 7 → ws.length = ss.length →
    (∀ w ∈ ws, w < 256) → (∀ x ∈ ss, x < 256) →
    (a.passLong cfg (ws.map (elemValue 7)) (ss.map (elemValue 7)) (fun _ => 0x7F) (fun _ => 0x7F)).a =
      a.a + BitVec.ofInt 80 ((List.zipWith (fun w x => (BitVec.ofNat 8 w).toInt * (BitVec.ofNat 8 x).toInt) ws ss).foldl (· + ·) 0)) ∧
  (∀ (a : Acc) (cfg : Cfg) (ws ss : List FV) (f g : Nat → Nat), fmtMx cfg.sfmt = false → fmtMx cfg.rfmt = false →
    (a.passLong cfg ws ss f g).n = a.n + min ws.length ss.length) ∧
  (∀ (a : Acc) (cfg : Cfg) (ws vs ss us : List FV) (f g : Nat → Nat), fmtMx cfg.sfmt = false → fmtMx cfg.rfmt = false →
    ws.length = ss.length → a.passLong cfg (ws ++ vs) (ss ++ us) f g = (a.passLong cfg ws ss f g).passLong cfg vs us f g) ∧
  (∀ (a : Acc) (cfg : Cfg) (ws vs ss us : List FV) (f g : Nat → Nat) (k : Nat), fmtMx cfg.sfmt = true ∨ fmtMx cfg.rfmt = true →
    ws.length = 32 * k → ss.length = 32 * k → vs.length + 32 * k ≤ 256 → a.passLong cfg (ws ++ vs) (ss ++ us) f g =
      (a.passLong cfg ws ss f g).passLong cfg vs us (fun j => f (j + k)) (fun j => g (j + k)))

/-! ### Beside-memory engines and DRAM channels -/

/-- Two devices alike in everything but channel `c`. -/
def OnlyChan (c : Nat) (d e : Device) : Prop := e = { d with chans := e.chans } ∧ ∀ j, j ≠ c → e.chan j = d.chan j

/-- The oldest flit at the ingress port of pacer `p` has been taken, and no other port's. -/
def TakesFlit (p : Nat) (d e : Device) : Prop :=
  e.net.flits = d.net.flits ∧ Map.get [] e.net.ingress (ingressKey p) = (Map.get [] d.net.ingress (ingressKey p)).tail ∧
    ∀ k, k ≠ ingressKey p → Map.get [] e.net.ingress k = Map.get [] d.net.ingress k

/-- The partition that owns pacer `p` is held from this cycle on, by this unit and for `cause` (R245, R246). -/
def HoldBegins (p k cause : Nat) (d e : Device) : Prop :=
  (∃ h, (e.part k).run.hold = some h ∧ h.fMin = d.cyc ∧ h.unit = p ∧ h.cause = cause) ∧ e = { d with parts := e.parts } ∧
    ∀ j, j ≠ k → e.part j = d.part j

/-- An operation that takes a flit finds none at the start of its cycle: it consumes nothing, its pacer does not move past it, and in
cadence mode its partition is held for cause 4; a page slot whose entries have not been fetched is held for cause 3. -/
def MissingInputHoldsClauses : Prop :=
  (∀ (s : State) (p k n op o : Nat) (ok : Nat → Bool) (cfg : Cfg) (d1 : Device) (c : Instr),
    (c = .qload p n ∧ op = 0x20 ∧ 256 ≤ p ∧ p < 280 ∧ ok = anyOpnd) ∨
    (c = .dwrPattern p n ∧ op = 0x29 ∧ 320 ≤ p ∧ p < 344 ∧ ok = fun o => (dramFields o).asrc == 0) ∨
    (c = .dwrAppend p n ∧ op = 0x29 ∧ 320 ≤ p ∧ p < 344 ∧ ok = fun o => (dramFields o).asrc == 1) →
    Issues s.dev p op n ok o cfg d1 → s.dev.ingressHead p = none → s.dev.pacerPart p = some k → s.dev.running k = true →
    s.dev.lockstep = false → (s.dev.part k).run.hold = none → Completes c s (HoldBegins p k 4 s.dev)) ∧
  (∀ (s : State) (p k o : Nat) (cfg : Cfg) (d1 : Device) (sc : Scan), 256 ≤ p → p < 280 → Issues s.dev p 0x22 0 anyOpnd o cfg d1 →
    (s.dev.bme (p - 256)).scan = some sc → sc.page = none → sc.fetched = false → s.dev.pacerPart p = some k →
    s.dev.running k = true → s.dev.lockstep = false → (s.dev.part k).run.hold = none →
    Completes (.page p) s (HoldBegins p k 3 s.dev))

/-- The engine's commands, where no stored word is upset. QLOAD writes the flit's words into its query; OPEN starts a scan with every
triple of its queries empty and the slot's entry as it stands; PAGE begins the page slot of the entry at the cursor when its first line
has stood in the input buffer since an earlier cycle, and passes a slot with a bad entry; EMIT sends five flits for every query; a page
all of whose tokens lie beyond a query's limit leaves that query's triple as it is. -/
def EngineOperationsClauses : Prop :=
  (∀ (s : State) (p n o : Nat) (cfg : Cfg) (d1 : Device) (x : BitVec 1024), 256 ≤ p → p < 280 →
    Issues s.dev p 0x20 n anyOpnd o cfg d1 → s.dev.ingressHead p = some x → Completes (.qload p n) s fun e =>
      TakesFlit p d1 e ∧ (e.bme (p - 256)).triples = (d1.bme (p - 256)).triples ∧
      (e.bme (p - 256)).scan = (d1.bme (p - 256)).scan ∧ (∀ c, c ≠ p - 256 → e.bme c = d1.bme c) ∧
      (Cfg.qbytes cfg = 128 → ∀ j, j < 16 → Map.get 0 (e.bme (p - 256)).queries
        (queryWord (qloadFields o).qs ((qloadFields o).qfirst + n) + j) = BitVec.ofNat 64 (x.toNat / 2 ^ (64 * j))) ∧
      (Cfg.qbytes cfg = 64 → ∀ j, j < 8 → Map.get 0 (e.bme (p - 256)).queries
        (queryWord (qloadFields o).qs ((qloadFields o).qfirst + 2 * n + 1) + j) = BitVec.ofNat 64 (x.toNat / 2 ^ (64 * (j + 8)))) ∧
      (Cfg.qbytes cfg = 256 → ∀ j, j < 16 → Map.get 0 (e.bme (p - 256)).queries
        (queryWord (qloadFields o).qs ((qloadFields o).qfirst + n / 2) + 16 * (n % 2) + j) =
          BitVec.ofNat 64 (x.toNat / 2 ^ (64 * j)))) ∧
  (∀ (s : State) (p o : Nat) (cfg : Cfg) (d1 : Device), 256 ≤ p → p < 280 → Issues s.dev p 0x21 0 anyOpnd o cfg d1 →
    s.dev.flt.upsets = [] → Completes (.openScan p) s fun e =>
      (∃ sc, (e.bme (p - 256)).scan = some sc ∧ sc.slot = (openFields o).slot ∧ sc.ts = (openFields o).ts ∧
        sc.layer = (openFields o).layer ∧ sc.kvh = (openFields o).kvh ∧ sc.qn = (openFields o).qn + 1 ∧ sc.cursor = 0 ∧
        sc.pagesDone = 0 ∧ sc.page = none ∧ sc.entry = Map.get {} (d1.bme (p - 256)).slots (openFields o).slot ∧
        (sc.entry.pages = 0 → sc.fetched = true ∧ sc.entries = [])) ∧
      (∀ q, q ≤ (openFields o).qn → Map.get 0 (e.bme (p - 256)).triples (tripleKey (openFields o).ts q 128) = 0xFF800000 ∧
        Map.get 0 (e.bme (p - 256)).triples (tripleKey (openFields o).ts q 129) = 0 ∧
        ∀ j, j < 128 → Map.get 0 (e.bme (p - 256)).triples (tripleKey (openFields o).ts q j) = 0) ∧
      (e.bme (p - 256)).queries = (d1.bme (p - 256)).queries ∧ e.pacers = d1.pacers ∧ e.chans = d1.chans ∧ e.tiles = d1.tiles) ∧
  (∀ (s : State) (p o : Nat) (cfg : Cfg) (d1 : Device) (sc : Scan) (x : PageEntry), 256 ≤ p → p < 280 →
    Issues s.dev p 0x22 0 anyOpnd o cfg d1 → s.dev.flt.upsets = [] → (s.dev.bme (p - 256)).scan = some sc → sc.page = none →
    sc.fetched = true → sc.entries[sc.cursor]? = some x →
    (sc.live x = true → (∀ l, (({ sc with cfg := cfg } : Scan).keyLines x).head? = some l →
        ((s.dev.bme (p - 256)).line s.dev.cyc l).isSome = true) → Completes (.page p) s fun e =>
      ∃ t, (e.bme (p - 256)).scan = some t ∧ t.page = some (s.dev.now p, x) ∧ t.cursor = sc.cursor + 1 ∧
        t.slotsDone = sc.slotsDone + 1 ∧ (e.bme (p - 256)).triples = (d1.bme (p - 256)).triples ∧ e = { d1 with bmes := e.bmes }) ∧
    (x.bad = true → Completes (.page p) s fun e =>
      ∃ t, (e.bme (p - 256)).scan = some t ∧ t.page = none ∧ t.cursor = sc.cursor + 1 ∧ t.sawBad = true ∧
        (e.bme (p - 256)).triples = (d1.bme (p - 256)).triples ∧ e = { d1 with bmes := e.bmes })) ∧
  (∀ (s : State) (p o : Nat) (cfg : Cfg) (d1 : Device), 256 ≤ p → p < 280 → Issues s.dev p 0x23 0 anyOpnd o cfg d1 →
    s.dev.flt.upsets = [] → ((s.dev.bme (p - 256)).scanOf (emitFields o).ts).overrun = false →
    (routeFields (Cfg.route cfg p (emitFields o).route)).valid = true →
    (nodeUnit (routeFields (Cfg.route cfg p (emitFields o).route)).x (routeFields (Cfg.route cfg p (emitFields o).route)).y).isSome = true →
    Completes (.emit p) s fun e => e = { d1 with net := e.net, clk := { d1.clk with relays := e.clk.relays } } ∧
      e.net.ingress = d1.net.ingress ∧
      ∃ fs : List Flit, e.net.flits = d1.net.flits ++ fs ∧ fs.length = 5 * ((emitFields o).qn + 1) ∧
        ∀ f ∈ fs, f.node = sinkKey (routeFields (Cfg.route cfg p (emitFields o).route)).x
          (routeFields (Cfg.route cfg p (emitFields o).route)).y (routeFields (Cfg.route cfg p (emitFields o).route)).sink) ∧
  (∀ (cfg : Cfg) (limit pos : Nat) (scores : List W32) (vals : List Nat) (o : List W32) (m l : W32), scores.length ≤ 256 →
    (∀ t, t < scores.length → limit < 256 * pos + t) → pageQuery cfg limit pos scores vals o m l = (o, m, l))

/-- A missing input and the operations of the engines. Model's choice, not the spec's: when results land (log entry 39) and the
order of an entry fetch (log entry 40). -/
def Obligations.HoldsAndEngines : Prop := MissingInputHoldsClauses ∧ EngineOperationsClauses

/-- The line of channel `c` at index `i` reads as `l` for the partition that owns pacer `p`, undisturbed: it was written under the
partition's key, it lies in the partition area and in no image copy, it holds no bit error, and no DWR replaced it lately. -/
def ReadsAs (p i : Nat) (l : Line) (d : Device) : Prop :=
  ∃ k key, d.pacerPart p = some k ∧ (d.part k).key = some key ∧ Map.get none (d.chan (p - 320)).lines i = some ⟨key, l⟩ ∧
    64 * i < (d.chan (p - 320)).area ∧ d.imageLine (p - 320) i = false ∧ d.upset (.dram (p - 320) i) = none ∧ ∀ r ∈ (d.chan (p - 320)).recent, r.2.1 ≠ i

/-- Planned accesses. A DRD puts the line that its pattern names next under way to the BME's input buffer, or two as one flit, to be
delivered after DRL cycles; a DRD for a scan takes the line the scan needs next, and nothing for a slot that passes unused; a DWR writes
the two lines of its flit under the partition's key; DREF pays one refresh interval; a delivery takes the line off the channel and puts it
into the buffer or the network, in its cycle exactly, or in one of the 1,024 after it when its access fell inside a self-directed
refresh. -/
def PlannedAccessesClauses : Prop :=
  (∀ (s : State) (p n o : Nat) (cfg : Cfg) (d1 : Device) (l : Line), 320 ≤ p → p < 344 →
    Issues s.dev p 0x28 n (fun o => (dramFields o).asrc == 0) o cfg d1 → (dramFields o).dest = 0 →
    ReadsAs p (cfg.patBeat (dramFields o).pat (Map.get 0 (d1.chan (p - 320)).beats (dramFields o).pat)) l d1 →
    Completes (.drdPattern p n) s fun e => OnlyChan (p - 320) d1 e ∧
      Map.get 0 (e.chan (p - 320)).beats (dramFields o).pat = Map.get 0 (d1.chan (p - 320)).beats (dramFields o).pat + 1 ∧
      (e.chan (p - 320)).lines = (d1.chan (p - 320)).lines ∧
      ∃ f, (e.chan (p - 320)).inFlight = (d1.chan (p - 320)).inFlight ++ [f] ∧ f.data = l ∧ f.bad = false ∧ f.toBme = true ∧
        f.due = d1.cyc + d1.drl (p - 320) ∧
        f.line = cfg.patBeat (dramFields o).pat (Map.get 0 (d1.chan (p - 320)).beats (dramFields o).pat)) ∧
  (∀ (s : State) (p n o i j : Nat) (cfg : Cfg) (d1 : Device) (l m : Line), 320 ≤ p → p < 344 →
    Issues s.dev p 0x28 n (fun o => (dramFields o).asrc == 0) o cfg d1 → (dramFields o).dest = 1 →
    i = cfg.patBeat (dramFields o).pat (Map.get 0 (d1.chan (p - 320)).beats (dramFields o).pat) → ReadsAs p i l d1 →
    j = cfg.patBeat (dramFields o).pat (Map.get 0 (d1.chan (p - 320)).beats (dramFields o).pat + 1) → ReadsAs p j m d1 →
    Completes (.drdPattern p n) s fun e => OnlyChan (p - 320) d1 e ∧ (e.chan (p - 320)).lines = (d1.chan (p - 320)).lines ∧
      ∃ f, (e.chan (p - 320)).inFlight = (d1.chan (p - 320)).inFlight ++ [f] ∧ f.data = l ∧ f.data2 = m ∧ f.bad = false ∧ f.bad2 = false ∧ f.toBme = false ∧
        f.route = Cfg.route cfg p (dramFields o).route ∧ f.due = d1.now p + d1.drl (p - 320)) ∧
  (∀ (s : State) (p n o i : Nat) (cfg : Cfg) (d1 : Device) (l : Line) (sc : Scan) (rest : List Nat), 320 ≤ p → p < 344 →
    Issues s.dev p 0x28 n (fun o => (dramFields o).asrc == 1) o cfg d1 → (d1.bme (p - 320)).scan = some sc → sc.wanted = i :: rest →
    (i ≠ noLine → ReadsAs p i l d1 → Completes (.drdBmeScan p n) s fun e =>
      (e.bme (p - 320)).scan = some { sc with wanted := rest } ∧
      ∃ f, (e.chan (p - 320)).inFlight = (d1.chan (p - 320)).inFlight ++ [f] ∧ f.line = i ∧ f.data = l ∧ f.toBme = true) ∧
    (i = noLine → Completes (.drdBmeScan p n) s fun e => (e.bme (p - 320)).scan = some { sc with wanted := rest } ∧
      e = { d1 with bmes := e.bmes })) ∧
  (∀ (s : State) (p n o i j k key : Nat) (cfg : Cfg) (d1 : Device) (x : BitVec 1024), 320 ≤ p → p < 344 →
    Issues s.dev p 0x29 n (fun o => (dramFields o).asrc == 0) o cfg d1 → s.dev.ingressHead p = some x →
    s.dev.flt.upsets = [] → d1.pacerPart p = some k → (d1.part k).key = some key →
    i = cfg.patBeat (dramFields o).pat (Map.get 0 (d1.chan (p - 320)).beats (dramFields o).pat) →
    j = cfg.patBeat (dramFields o).pat (Map.get 0 (d1.chan (p - 320)).beats (dramFields o).pat + 1) → i ≠ j →
    64 * i < (d1.chan (p - 320)).area → 64 * j < (d1.chan (p - 320)).area →
    d1.imageLine (p - 320) i = false → d1.imageLine (p - 320) j = false →
    Completes (.dwrPattern p n) s fun e => TakesFlit p d1 e ∧
      Map.get none (e.chan (p - 320)).lines i = some ⟨key, flitLo x⟩ ∧ Map.get none (e.chan (p - 320)).lines j = some ⟨key, flitHi x⟩ ∧
      (∀ l, l ≠ i → l ≠ j → Map.get none (e.chan (p - 320)).lines l = Map.get none (d1.chan (p - 320)).lines l) ∧
      Map.get 0 (e.chan (p - 320)).beats (dramFields o).pat = Map.get 0 (d1.chan (p - 320)).beats (dramFields o).pat + 2 ∧
      (∀ c, c ≠ p - 320 → e.chan c = d1.chan c) ∧ e.tiles = d1.tiles ∧ e.bmes = d1.bmes ∧ e.parts = d1.parts) ∧
  (∀ (s : State) (p o k s0 : Nat) (im : Image) (cfg : Cfg) (d1 : Device) (x : BitVec 1024), 320 ≤ p → p < 344 →
    Issues s.dev p 0x29 0 (fun o => (dramFields o).asrc == 1) o cfg d1 → s.dev.ingressHead p = some x → d1.pacerPart p = some k →
    (d1.part k).image = some im → (d1.part k).shadow.role ≠ 2 →
    s0 = ((List.range im.chans.length).find? fun i => im.chans.getD i 99 == p - 320).getD 0 + (d1.part k).serving.nch *
      (Map.get 0 (d1.chan (p - 320)).cursors (dramFields o).pat / max (d1.part k).serving.npos 1) →
    im.slots ≤ s0 ∨ (Map.get {} (d1.bme (p - 320)).slots s0).empty = true → Completes (.dwrAppend p 0) s fun e => TakesFlit p d1 e ∧
      (e.chan (p - 320)).lines = (d1.chan (p - 320)).lines ∧
      Map.get 0 (e.chan (p - 320)).cursors (dramFields o).pat = Map.get 0 (d1.chan (p - 320)).cursors (dramFields o).pat + 1) ∧
  (∀ (s : State) (p o : Nat) (cfg : Cfg) (d1 : Device), 320 ≤ p → p < 344 → Issues s.dev p 0x2A 0 anyOpnd o cfg d1 →
    Completes (.dref p) s fun e => OnlyChan (p - 320) d1 e ∧ (e.chan (p - 320)).lastDref = some d1.cyc ∧
      (e.chan (p - 320)).debt = (if d1.lockstepRun (p - 320) then 0 else max ((d1.chan (p - 320)).debt - 1) (-4)) ∧
      e.chan (p - 320) = { d1.chan (p - 320) with debt := (e.chan (p - 320)).debt, lastDref := some d1.cyc }) ∧
  (∀ (s : State) (c : Nat) (f : InFlight) (rest : List InFlight), c < 24 → (s.dev.chan c).inFlight = f :: rest →
    s.dev.deliverable c f = true → f.bad = false → f.bad2 = false → f.toBme = true → Completes (.dramLineDelivery c) s fun e =>
      (e.chan c).inFlight = rest ∧ (∃ slot, (e.bme c).lines = (s.dev.bme c).lines ++
        [{ slot := slot, line := f.line, data := f.data, at_ := s.dev.cyc }]) ∧ (e.bme c).scan = (s.dev.bme c).scan ∧
      e = { s.dev with chans := e.chans, bmes := e.bmes, flt := { s.dev.flt with upsets := e.flt.upsets },
                       mb := { s.dev.mb with drillVoid := e.mb.drillVoid } }) ∧
  (∀ (s : State) (c : Nat) (f : InFlight) (rest : List InFlight), c < 24 → (s.dev.chan c).inFlight = f :: rest →
    s.dev.deliverable c f = true → f.bad = false → f.bad2 = false → f.toBme = false → (routeFields f.route).valid = true →
    (nodeUnit (routeFields f.route).x (routeFields f.route).y).isSome = true → Completes (.dramLineDelivery c) s fun e =>
      (e.chan c).inFlight = rest ∧ (∃ g, e.net.flits = s.dev.net.flits ++ [g] ∧ g.data = flitOf f.data f.data2 ∧
        g.node = sinkKey (routeFields f.route).x (routeFields f.route).y (routeFields f.route).sink) ∧
      e = { s.dev with chans := e.chans, net := e.net, clk := { s.dev.clk with relays := e.clk.relays } }) ∧
  (∀ (d : Device) (c n : Nat) (f : InFlight), f.toBme = true ∧ n = d.cyc ∨ f.toBme = false ∧ d.pacerCyc (320 + c) = some n →
    (f.late = false → (d.deliverable c f = true ↔ n = f.due)) ∧
    (f.late = true → (d.deliverable c f = true ↔ f.due < n ∧ n ≤ f.due + 1024))) ∧
  (∀ (s : State) (c : Nat), (∀ f ∈ (s.dev.chan c).inFlight, s.dev.deliverable c f = false) →
    exec (.dramLineDelivery c) s = .next s)

/-- A slot append writes the two lines of its flit, under the partition's key, at the place of its token, and moves its cursor on. `d3` is
the device when the place is looked up: the flit taken, the cursor moved, the bytes digested. -/
def SlotAppendWritesClauses : Prop :=
  ∀ (s : State) (p o k key b : Nat) (cfg : Cfg) (d1 d2 d3 d4 : Device) (x : BitVec 1024), 320 ≤ p → p < 344 →
    Issues s.dev p 0x29 0 (fun o => (dramFields o).asrc == 1) o cfg d1 → s.dev.ingressHead p = some x →
    d2 = ((d1.takeIngress p).updChan (p - 320) fun y =>
      { y with cursors := Map.set 0 y.cursors (dramFields o).pat (Map.get 0 (d1.chan (p - 320)).cursors (dramFields o).pat + 1) }) →
    d3 = ((d2.updPacer p fun y => { y with outst := y.outst.map fun z => if z.op == 0x29 && z.issued == (d1.takeIngress p).now p then
      { z with aux := Map.get 0 (d1.chan (p - 320)).cursors (dramFields o).pat } else z }).takeDigest p (Line.bytes (flitLo x))).takeDigest p
        (Line.bytes (flitHi x)) →
    d3.appendBase p (Map.get 0 (d1.chan (p - 320)).cursors (dramFields o).pat) (dramFields o).pat = (some b, d4) →
    d4.flt.upsets = [] → d4.pacerPart p = some k → (d4.part k).key = some key →
    (∀ m, m < 2 → d4.imageLine (p - 320) ((b + cfg.patBeat (dramFields o).pat m) % 2 ^ 33) = false ∧
      64 * ((b + cfg.patBeat (dramFields o).pat m) % 2 ^ 33) < (d4.chan (p - 320)).area) →
    (b + cfg.patBeat (dramFields o).pat 0) % 2 ^ 33 ≠ (b + cfg.patBeat (dramFields o).pat 1) % 2 ^ 33 →
    Completes (.dwrAppend p 0) s fun e =>
      Map.get none (e.chan (p - 320)).lines ((b + cfg.patBeat (dramFields o).pat 0) % 2 ^ 33) = some ⟨key, flitLo x⟩ ∧
      Map.get none (e.chan (p - 320)).lines ((b + cfg.patBeat (dramFields o).pat 1) % 2 ^ 33) = some ⟨key, flitHi x⟩ ∧
      (∀ l, l ≠ (b + cfg.patBeat (dramFields o).pat 0) % 2 ^ 33 → l ≠ (b + cfg.patBeat (dramFields o).pat 1) % 2 ^ 33 →
        Map.get none (e.chan (p - 320)).lines l = Map.get none (d4.chan (p - 320)).lines l) ∧
      (e.chan (p - 320)).cursors = (d4.chan (p - 320)).cursors

/-- Planned accesses of the channels and the appends of slots. Model's choice, not the spec's: what a line that nothing has written
reads as (log entry 10). -/
def Obligations.DramAndSlots : Prop := PlannedAccessesClauses ∧ SlotAppendWritesClauses

/-- Care of a channel. An unplanned write that the controller admits stores its line under the key of its area, one beyond the capacity
is counted and stores nothing, and neither a read there nor an access that is not admitted yet does anything; a read of a sound line
changes no line. Scrubbing, a SCRUB_PERIOD after the last and only while QUIESCE is clear, moves on by one line and clears an error it can correct; the refresh debt
grows by one interval once that much time has passed and at three is paid at once and counted, but never while a lockstep plan runs; a
self-directed refresh takes a planned gap; a module above 95 °C, read a millisecond after the last read, sets its bit and full coolant flow;
bring-up makes a clocked channel AVAILABLE exactly when every step passes, its marshal area zero under the device key. -/
def Obligations.ChannelCare : Prop :=
  (∀ (s : State) (c off key wait : Nat) (l : Line), c < 24 → off < capBytes (s.dev.chan c).cap → s.dev.chanKey c (off / 64) = some key →
    s.dev.admitsLine c (off / 64) true = true → s.dev.imageLine c (off / 64) = false →
    (∀ i, i < 8 → s.dev.upset (.arriving c (16 + i)) = none) →
    Completes (.unplannedAccess c (.write off l) wait) s fun e => Map.get none (e.chan c).lines (off / 64) = some ⟨key, l⟩ ∧
      (∀ i, i ≠ off / 64 → Map.get none (e.chan c).lines i = Map.get none (s.dev.chan c).lines i) ∧
      (∀ j, j ≠ c → e.chan j = s.dev.chan j) ∧ e.upset (.dram c (off / 64)) = none) ∧
  (∀ (s : State) (c off wait : Nat) (l : Line), c < 24 → capBytes (s.dev.chan c).cap ≤ off →
    Completes (.unplannedAccess c (.write off l) wait) s fun e => e.chans = s.dev.chans ∧
      (e.page (pgChan c)).errCnt = satInc (s.dev.page (pgChan c)).errCnt) ∧
  (∀ (s : State) (c off wait : Nat), capBytes (s.dev.chan c).cap ≤ off →
    exec (.unplannedAccess c (.read off) wait) s = .next s) ∧
  (∀ (s : State) (c off wait : Nat) (l : Line), off < capBytes (s.dev.chan c).cap →
    (s.dev.admitsLine c (off / 64) true = false → exec (.unplannedAccess c (.write off l) wait) s = .next s) ∧
    (s.dev.admitsLine c (off / 64) false = false → exec (.unplannedAccess c (.read off) wait) s = .next s)) ∧
  (∀ (s : State) (c off wait : Nat), c < 24 → off < capBytes (s.dev.chan c).cap → s.dev.admitsLine c (off / 64) false = true →
    s.dev.upset (.dram c (off / 64)) = none →
    Completes (.unplannedAccess c (.read off) wait) s fun e => (e.chan c).lines = (s.dev.chan c).lines ∧
      (e.chan c).enqWait.toNat = max (s.dev.chan c).enqWait.toNat (min wait 0xFFFFFFFF) ∧ e.flt = s.dev.flt ∧
      e.pacers = s.dev.pacers ∧ ∀ j, j ≠ c → e.chan j = s.dev.chan j) ∧
  (∀ (s : State) (c i : Nat), c < 24 → (s.dev.chan c).state = .available →
    (s.dev.page (pgChan c)).quiesce = false →
    s.dev.since (s.dev.chan c).scrubbedAt (us (s.dev.chan c).scrubPeriod) = true →
    i = (s.dev.chan c).scrubAt % (capBytes (s.dev.chan c).cap / 64) → s.dev.admitsLine c i false = true →
    s.dev.upset (.dram c i) = none → Completes (.scrub c) s fun e => OnlyChan c s.dev e ∧
      e.chan c = { s.dev.chan c with scrubAt := (i + 1) % (capBytes (s.dev.chan c).cap / 64), scrubbedAt := s.dev.clk.now,
                                     xfers := (e.chan c).xfers }) ∧
  (∀ (s : State) (c i j : Nat) (u : Upset) (rs : List Nat), c < 24 → (s.dev.chan c).state = .available →
    (s.dev.page (pgChan c)).quiesce = false →
    s.dev.since (s.dev.chan c).scrubbedAt (us (s.dev.chan c).scrubPeriod) = true →
    i = (s.dev.chan c).scrubAt % (capBytes (s.dev.chan c).cap / 64) → s.dev.admitsLine c i false = true →
    s.dev.upset (.dram c i) = some u →
    burstDecode (u.mask.map BitVec.toNat) (u.outer.map BitVec.toNat) = .corrected rs (some j) → errLine rs = 0 →
    Completes (.scrub c) s fun e => e.upset (.dram c i) = none ∧ (e.chan c).ceCnt = satInc (s.dev.chan c).ceCnt ∧
      Map.get 0 (e.chan c).devCe j = satInc (Map.get 0 (s.dev.chan c).devCe j) ∧ (e.chan c).lines = (s.dev.chan c).lines) ∧
  (∀ (s : State) (c : Nat), s.dev.since (s.dev.chan c).scrubbedAt (us (s.dev.chan c).scrubPeriod) = false ∨
    (s.dev.page (pgChan c)).quiesce = true → exec (.scrub c) s = .next s) ∧
  (∀ (s : State) (c : Nat), c < 24 → (s.dev.chan c).state = .available →
    s.dev.since (s.dev.chan c).debtAt (s.dev.chan c).interval = true →
    s.dev.lockstepRun c = true ∨ (s.dev.chan c).debt + 1 < 3 ∨ (s.dev.lockstep = true ∧ s.dev.planGap c = false) →
    Completes (.refreshDebtTick c) s fun e => OnlyChan c s.dev e ∧ e.chan c = { s.dev.chan c with
      debt := (s.dev.chan c).debt + 1, debtAt := (s.dev.chan c).debtAt + (if 85 < (s.dev.chan c).temp then 3120 else 6240) }) ∧
  (∀ (s : State) (c : Nat), c < 24 → (s.dev.chan c).state = .available →
    s.dev.since (s.dev.chan c).debtAt (s.dev.chan c).interval = true →
    s.dev.lockstepRun c = false → 2 ≤ (s.dev.chan c).debt → s.dev.lockstep = false ∨ s.dev.planGap c = true →
    Completes (.refreshDebtTick c) s fun e => (e.chan c).debt = (s.dev.chan c).debt ∧
      (e.chan c).forcedRef = satInc (s.dev.chan c).forcedRef ∧ (e.chan c).refreshUntil = s.dev.cyc + rfc s.dev.clk.opCur ∧
      ((e.page (pgChan c)).intRaw &&& 8) = 8 ∧ ∀ j, j ≠ c → e.chan j = s.dev.chan j) ∧
  (∀ (s : State) (c : Nat), (s.dev.chan c).state ≠ .available ∨ s.dev.since (s.dev.chan c).debtAt (s.dev.chan c).interval = false →
    exec (.refreshDebtTick c) s = .next s) ∧
  (∀ (s : State) (c : Nat), c < 24 → s.dev.lockstepRun c = false → 1 ≤ (s.dev.chan c).debt → s.dev.planGap c = true →
    Completes (.selfRefresh c) s fun e => OnlyChan c s.dev e ∧ (e.chan c).debt = (s.dev.chan c).debt - 1 ∧
      (e.chan c).selfRef = satInc (s.dev.chan c).selfRef ∧ (e.chan c).refreshUntil = s.dev.cyc + rfc s.dev.clk.opCur ∧
      (e.chan c).lines = (s.dev.chan c).lines) ∧
  (∀ (s : State) (c : Nat), s.dev.lockstepRun c = true ∨ s.dev.planGap c = false → exec (.selfRefresh c) s = .next s) ∧
  (∀ (s : State) (c : Nat) (t : Int), c < 24 → s.dev.since (s.dev.chan c).tempAt (us 1000) = true → (s.dev.chan c).debt < 3 →
    Completes (.moduleTempRead c t) s fun e =>
    (e.chan c).temp = t ∧ e.thr.modHot.getLsbD c = decide (95 < t) ∧ (95 < t → e.thr.flowDuty = 1000) ∧
    (∀ j, j ≠ c → j < 24 → e.thr.modHot.getLsbD j = s.dev.thr.modHot.getLsbD j) ∧ e.pwr = s.dev.pwr) ∧
  (∀ (s : State) (c : Nat) (t : Int), s.dev.since (s.dev.chan c).tempAt (us 1000) = false → exec (.moduleTempRead c t) s = .next s) ∧
  (∀ (s : State) (ms : List ModuleInfo) (c : Nat), c < 24 → Completes (.channelBringUp ms) s fun e =>
    ((s.dev.chan c).state = .training → (s.dev.region (chanRegion c)).power = .run → ((e.chan c).state = .available ↔ bringUpStep (deviceSpeed ms) (ms.getD c {}) = 0) ∧
      (e.chan c).failStep = bringUpStep (deviceSpeed ms) (ms.getD c {}) ∧ (e.chan c).cap = (ms.getD c {}).cap ∧
      ((e.chan c).state = .available → (e.chan c).filledM = s.dev.sec.deviceKey)) ∧
    ((s.dev.chan c).state ≠ .training ∨ (s.dev.region (chanRegion c)).power ≠ .run → e.chan c = s.dev.chan c) ∧
    e = { s.dev with chans := e.chans, flt := { s.dev.flt with upsets := e.flt.upsets },
                     mb := { s.dev.mb with drillVoid := e.mb.drillVoid } })

/-! ### Ports and the network -/

/-- What a QXFER list with operand `o` of partition `k` makes: the units of its records, and the device that has read them. -/
def qxferUnits (d : Device) (k o : Nat) : List XUnit × Device :=
  let (bs, d) := d.readBytes k (64 * (qxferFields o).line) (32 * ((qxferFields o).count + 1))
  d.loadRecords k (chunks 32 ((qxferFields o).count + 1) bs)

/-- Port operations. PSEND takes one flit a cycle and with the last one queues the planned PUT of their bytes for its peer; PDLV of
a complete window slot sends its flits into the network and empties the slot, an incomplete one is held for cause 6; a QXFER
reads its list and hands what its records make to the transport, and nothing else changes, a shadow's units are discarded and
counted, and a list whose records are all discarded is counted at once; a planned PUT that arrives fills its free window slot
and counts, one that is stale, has MIR set, is for another device, or names counter 63 of a serving partition is discarded and
counted; a flit that is due reaches its ingress port, and one with an uncorrectable word is not delivered and raises NET_UE.
Model's choice, not the spec's: the corner of log entry 20. -/
def Obligations.PortOperations : Prop :=
  (∀ (s : State) (p n o : Nat) (cfg : Cfg) (d1 : Device) (x : BitVec 1024), isPortPacer p = true →
    Issues s.dev p 0x30 n anyOpnd o cfg d1 → s.dev.ingressHead p = some x → n < (psendFields o).nflit →
    Completes (.psend p n) s fun e => TakesFlit p d1 e ∧ (e.port (p - 384)).planned = (d1.port (p - 384)).planned ∧
      (e.port (p - 384)).intake = (if n = 0 then leBytes 128 x.toNat else (d1.port (p - 384)).intake ++ leBytes 128 x.toNat) ∧
      (∀ i, i ≠ p - 384 → e.port i = d1.port i) ∧ e = { d1 with net := e.net, ports := e.ports, pacers := e.pacers }) ∧
  (∀ (s : State) (p n o k : Nat) (cfg : Cfg) (d1 : Device) (x : BitVec 1024), isPortPacer p = true →
    Issues s.dev p 0x30 n anyOpnd o cfg d1 → s.dev.ingressHead p = some x → n = (psendFields o).nflit → d1.pacerPart p = some k →
    (d1.part k).shadow.role ≠ 2 → (cfg.peer (psendFields o).peer).valid = true → d1.tr.myId ≠ 0xFFFF →
    Completes (.psend p n) s fun e => TakesFlit p d1 e ∧ (e.port (p - 384)).intake = [] ∧
      (∃ u, (e.port (p - 384)).planned = (d1.port (p - 384)).planned ++ [u] ∧ u.planned = true ∧ u.kind = .put ∧
        u.dstId = (cfg.peer (psendFields o).peer).dev ∧ u.dstPart = (cfg.peer (psendFields o).peer).part ∧ u.srcPart = k ∧
        u.wslot = (psendFields o).wslot ∧ u.dstCc = (psendFields o).cc ∧ u.stamp = d1.stampNow ∧
        u.payload = (if n = 0 then [] else (d1.port (p - 384)).intake) ++ leBytes 128 x.toNat) ∧
      (∀ i, i ≠ p - 384 → e.port i = d1.port i) ∧ e.parts = d1.parts ∧ e.chans = d1.chans) ∧
  (∀ (s : State) (p n o k : Nat) (cfg : Cfg) (d1 : Device) (x : BitVec 1024), isPortPacer p = true →
    Issues s.dev p 0x30 n anyOpnd o cfg d1 → s.dev.ingressHead p = some x → n = (psendFields o).nflit → d1.pacerPart p = some k →
    (d1.part k).shadow.role = 2 → Completes (.psend p n) s fun e => TakesFlit p d1 e ∧ (e.port (p - 384)).intake = [] ∧
      (e.port (p - 384)).planned = (d1.port (p - 384)).planned ∧
      (e.part k).shadow.suppress = satInc (d1.part k).shadow.suppress) ∧
  (∀ (s : State) (p o : Nat) (cfg : Cfg) (d1 : Device), isPortPacer p = true → Issues s.dev p 0x31 0 anyOpnd o cfg d1 →
    ((s.dev.port (p - 384)).window s.dev.cyc (pdlvFields o).wslot).complete = true →
    128 * ((pdlvFields o).nflit + 1) ≤ ((s.dev.port (p - 384)).window s.dev.cyc (pdlvFields o).wslot).data.length →
    (routeFields (Cfg.route cfg p (pdlvFields o).route)).valid = true →
    (nodeUnit (routeFields (Cfg.route cfg p (pdlvFields o).route)).x (routeFields (Cfg.route cfg p (pdlvFields o).route)).y).isSome = true →
    Completes (.pdlv p) s fun e => e = { d1 with net := e.net, ports := e.ports, clk := { d1.clk with relays := e.clk.relays } } ∧
      (∃ fs : List Flit, e.net.flits = d1.net.flits ++ fs ∧ fs.length = (pdlvFields o).nflit + 1) ∧
      (∀ c, d1.cyc + 5 + (pdlvFields o).nflit ≤ c → ((e.port (p - 384)).window c (pdlvFields o).wslot).full = false ∧
        ((e.port (p - 384)).window c (pdlvFields o).wslot).owner = ((d1.port (p - 384)).window d1.cyc (pdlvFields o).wslot).owner) ∧
      (e.port (p - 384)).cnt = (d1.port (p - 384)).cnt) ∧
  (∀ (s : State) (p o k : Nat) (cfg : Cfg) (d1 : Device), isPortPacer p = true → Issues s.dev p 0x31 0 anyOpnd o cfg d1 →
    ((s.dev.port (p - 384)).window s.dev.cyc (pdlvFields o).wslot).complete = false → s.dev.pacerPart p = some k →
    s.dev.running k = true → s.dev.lockstep = false → (s.dev.part k).run.hold = none →
    Completes (.pdlv p) s (HoldBegins p k 6 s.dev)) ∧
  (∀ (s : State) (p o k : Nat) (cfg : Cfg) (d1 : Device), isPortPacer p = true → Issues s.dev p 0x32 0 anyOpnd o cfg d1 →
    d1.pacerPart p = some k → Completes (.qxfer p) s fun e =>
      e = { (qxferUnits d1 k o).2 with tr := e.tr, ports := e.ports, parts := e.parts } ∧
      (∀ j, j ≠ k → e.part j = (qxferUnits d1 k o).2.part j) ∧
      (e.part k).image = ((qxferUnits d1 k o).2.part k).image ∧ (e.part k).run = ((qxferUnits d1 k o).2.part k).run ∧
      (((qxferUnits d1 k o).2.part k).shadow.role = 2 → e.tr = (qxferUnits d1 k o).2.tr ∧ e.ports = (qxferUnits d1 k o).2.ports) ∧
      ((qxferUnits d1 k o).2.servingPart k = true → e.ccOf k 63 = (qxferUnits d1 k o).2.ccOf k 63)) ∧
  (∀ (s : State) (p o k : Nat) (cfg : Cfg) (d1 d3 : Device), isPortPacer p = true → Issues s.dev p 0x32 0 anyOpnd o cfg d1 →
    d1.pacerPart p = some k → qxferUnits d1 k o = ([], d3) → ((qxferFields o).lcc = 63 → d3.servingPart k = false) →
    Completes (.qxfer p) s fun e =>
      e = { d3 with parts := e.parts } ∧ (e.ccOf k (qxferFields o).lcc).count = (d3.ccOf k (qxferFields o).lcc).count + 1 ∧
      (∀ j, j ≠ (qxferFields o).lcc → e.ccOf k j = d3.ccOf k j) ∧ (e.part k).qlists = (d3.part k).qlists) ∧
  (∀ (s : State) (p o k : Nat) (cfg : Cfg) (d1 d3 : Device) (u : XUnit), isPortPacer p = true →
    Issues s.dev p 0x32 0 anyOpnd o cfg d1 → d1.pacerPart p = some k → qxferUnits d1 k o = ([u], d3) → (d3.part k).shadow.role ≠ 2 →
    ((qxferFields o).lcc = 63 ∨ u.ackCc = 63 → d3.servingPart k = false) →
    (d3.part k).qlists = [] → u.dstId ≠ d3.tr.myId → d3.routeOf u.dstId = .none → u.kind = .get → u.ackCc ≠ (qxferFields o).lcc →
    Completes (.qxfer p) s fun e => e.tr = { d3.tr with noRoute := satInc d3.tr.noRoute } ∧ e.ports = d3.ports ∧
      e.ccOf k u.ackCc = Cc.settle 5 (d3.ccOf k u.ackCc) ∧
      (e.ccOf k (qxferFields o).lcc).count = (d3.ccOf k (qxferFields o).lcc).count + 1 ∧ (e.part k).qlists = []) ∧
  (∀ (s : State) (i : Nat) (u : XUnit) (d2 : Device), isPort i = true → u.planned = true → u.kind = .put →
    s.dev.rxBad i u.cls u.bytes.length = none → s.dev.forUs i u = true → s.dev.stale u = false → u.mir = false →
    s.dev.pacerPart (384 + i) = some u.dstPart → (s.dev.pacer (384 + i)).state ≠ .idle → u.dstCc ≠ 63 →
    ((s.dev.port i).window s.dev.cyc u.wslot).full = false → d2 = s.dev.takeRx i u → (d2.part u.dstPart).shadow.role ≠ 1 →
    Completes (.plannedPutComplete i u) s fun e => e = { d2 with ports := e.ports, parts := e.parts } ∧
      (∃ w, Map.get {} (e.port i).windows u.wslot = w ∧ w.full = true ∧ w.complete = true ∧ w.data = u.payload ∧
        w.owner = (d2.port i).owner) ∧
      (e.ccOf u.dstPart u.dstCc).count = (d2.ccOf u.dstPart u.dstCc).count + 1 ∧
      (∀ w, w ≠ u.wslot → Map.get {} (e.port i).windows w = Map.get {} (d2.port i).windows w)) ∧
  (∀ (s : State) (i : Nat) (u : XUnit), isPort i = true → u.planned = true → u.kind = .put →
    s.dev.rxBad i u.cls u.bytes.length = none → s.dev.forUs i u = false → s.dev.stale u = false → u.mir = false →
    Completes (.plannedPutComplete i u) s fun e =>
      (e.port i).cnt.planMisroute = satInc ((s.dev.takeRx i u).port i).cnt.planMisroute ∧
      e = { s.dev.takeRx i u with ports := e.ports }) ∧
  (∀ (s : State) (i : Nat) (u : XUnit), isPort i = true → u.planned = true → u.kind = .put →
    s.dev.rxBad i u.cls u.bytes.length = none →
    (s.dev.stale u = true → Completes (.plannedPutComplete i u) s fun e => e = { s.dev.takeRx i u with
      tr := { (s.dev.takeRx i u).tr with ageDiscard := satInc (s.dev.takeRx i u).tr.ageDiscard } }) ∧
    (s.dev.stale u = false → u.mir = true → Completes (.plannedPutComplete i u) s (Errs (pgTransportP u.dstPart) errAccess (s.dev.takeRx i u)))) ∧
  (∀ (s : State) (i : Nat) (u : XUnit), isPort i = true → u.planned = true → u.kind = .put →
    s.dev.rxBad i u.cls u.bytes.length = none → s.dev.forUs i u = true → s.dev.stale u = false → u.mir = false → s.dev.pacerPart (384 + i) = some u.dstPart →
    (s.dev.pacer (384 + i)).state ≠ .idle → u.dstCc = 63 → s.dev.servingPart u.dstPart = true →
    Completes (.plannedPutComplete i u) s fun e =>
      (e.port i).cnt.planDiscard = satInc ((s.dev.takeRx i u).port i).cnt.planDiscard ∧
      e = { s.dev.takeRx i u with ports := e.ports }) ∧
  (∀ (s : State) (i : Nat) (u : XUnit), isPort i = true → u.planned = true → u.kind = .put →
    s.dev.rxBad i u.cls u.bytes.length = none → s.dev.forUs i u = true → s.dev.stale u = false → u.mir = false → u.dstCc ≠ 63 →
    s.dev.pacerPart (384 + i) = some u.dstPart → (s.dev.pacer (384 + i)).state ≠ .idle →
    ((s.dev.port i).window s.dev.cyc u.wslot).full = true → exec (.plannedPutComplete i u) s = .next s) ∧
  (∀ (s : State) (node p c : Nat) (f : Flit) (rest : List Flit), keyPacer node = some p → s.dev.pacerCyc p = some c →
    s.dev.net.flits = f :: rest → f.node = node → f.arrive ≤ s.dev.cyc → f.due ≤ c → f.flaws = [] →
    Completes (.flitDelivery node) s fun e => e = { s.dev with net := e.net } ∧ e.net.flits = rest ∧
      Map.get [] e.net.ingress node = Map.get [] s.dev.net.ingress node ++ [f.data] ∧
      ∀ k, k ≠ node → Map.get [] e.net.ingress k = Map.get [] s.dev.net.ingress k) ∧
  (∀ (s : State) (node p c : Nat) (f : Flit) (rest : List Flit), keyPacer node = some p → s.dev.pacerCyc p = some c →
    s.dev.net.flits = f :: rest → f.node = node → f.arrive ≤ s.dev.cyc → f.due ≤ c → flawDecode f.flaws = none → 8 ≤ f.part →
    Completes (.flitDelivery node) s fun e => e.net.flits = rest ∧ e.net.ingress = s.dev.net.ingress ∧
      (Map.get {} e.flt.onDie (s.dev.flt.seq.toNat % 256)).code = 0x0205 ∧ e.parts = s.dev.parts) ∧
  (∀ (s : State) (node : Nat), (∀ f ∈ s.dev.net.flits, f.node = node → s.dev.cyc < f.arrive) → exec (.flitDelivery node) s = .next s)

/-! ### Clocks and laps -/

/-- A region stretches the period of a cycle that was asked of it: at most eight run on end are stretched, and the one after them is
nominal, whatever was asked, and counted as a run limit; a cycle not asked for is nominal and ends the run. -/
def StretchRunLimitClauses : Prop :=
  (∀ (c : Nat) (r : Region), r.failed = false → c ∈ (r.ask c).asked ∧ ∀ x, x ≠ c → (x ∈ (r.ask c).asked ↔ x ∈ r.asked)) ∧
  (∀ (c : Nat) (r : Region), c ∉ r.asked → r.run ≠ 8 → (r.endCycle c).run = 0 ∧ (r.endCycle c).delay = r.delay ∧
    (r.endCycle c).stretchCnt = r.stretchCnt ∧ (r.endCycle c).runLimitCnt = r.runLimitCnt) ∧
  (∀ (c : Nat) (r : Region), c ∈ r.asked → r.run ≠ 8 → (r.endCycle c).run = r.run + 1 ∧ (r.endCycle c).delay = r.delay + 1 ∧
    (r.endCycle c).stretchCnt = satInc r.stretchCnt ∧ (r.endCycle c).runLimitCnt = r.runLimitCnt) ∧
  (∀ (c : Nat) (r : Region), r.run = 8 → (r.endCycle c).run = 0 ∧ (r.endCycle c).delay = r.delay ∧
    (r.endCycle c).stretchCnt = r.stretchCnt ∧ (r.endCycle c).runLimitCnt = satInc r.runLimitCnt) ∧
  (∀ (c : Nat) (r : Region), r.run ≤ 8 → (r.endCycle c).run ≤ 8)

/-- The clock commands. Droop asks a stretch of the region that sees it two cycles later, and in lockstep mode of every region, each its
coupling delay later still; a slip outside the bounds of its relay's skew marks the relay, counts on the receiving region, delivers
nothing and holds the running partitions that use the relay, and inside them there is none in cadence mode; the snapshot copies D at its
cycle of the lap; OP_LAP is the marshal's alone, and a change that no rule forbids becomes pending; a regulator fault drops a pending
change; a lock of an idle path is noted; the lap mark begins the next lap at cycle 0 and empties the relays that have slipped. -/
def ClockCommandsClauses : Prop :=
  (∀ (s : State) (g : Nat), isRegion g = true → s.dev.clk.gun = .fired → (s.dev.region g).failed = false → s.dev.lockstep = false →
    Completes (.droopDetect g) s fun e =>
      e.region g = (s.dev.region g).ask (s.dev.cyc + 2) ∧ (∀ j, j ≠ g → e.region j = s.dev.region j) ∧
      e = { s.dev with clk := e.clk } ∧ e.clk = { s.dev.clk with regions := e.clk.regions }) ∧
  (∀ (s : State) (g : Nat), isRegion g = true → s.dev.clk.gun = .fired → (s.dev.region g).failed = false → s.dev.lockstep = true →
    Completes (.droopDetect g) s fun e => (∀ j, j < 31 → e.region j = (s.dev.region j).ask (s.dev.cyc + 2 + couple j)) ∧
      e = { s.dev with clk := { s.dev.clk with regions := e.clk.regions } }) ∧
  (∀ (s : State) (g : Nat), (s.dev.region g).failed = true → exec (.droopDetect g) s = .next s) ∧
  (∀ (s : State) (r a g : Nat) (b : Bool), isRelay r = true → relayRegions r = some (a, g) → s.dev.clk.gun = .fired →
    s.dev.slips r b = true → Map.get [] s.dev.clk.users r = [] → Completes (.relaySlip r b) s fun e =>
      (e.relay r).slipped = true ∧ (e.region g).slipCnt = satInc (s.dev.region g).slipCnt ∧
      ((e.page (pgRegion g)).intRaw &&& 2) = 2 ∧ (∀ j, j ≠ g → e.region j = s.dev.region j) ∧ e.pacers = s.dev.pacers ∧
      e.parts = s.dev.parts ∧ e.net.ingress = s.dev.net.ingress ∧
      (∀ j, j ≠ r → e.relay j = s.dev.relay j) ∧ e.net.flits.length = s.dev.net.flits.length) ∧
  (∀ (s : State) (r a g k : Nat) (b : Bool), isRelay r = true → relayRegions r = some (a, g) → s.dev.clk.gun = .fired →
    s.dev.slips r b = true → Map.get [] s.dev.clk.users r = [(k, s.dev.pcid k)] → s.dev.running k = true → s.dev.lockstep = false →
    (s.dev.part k).run.hold = none → Completes (.relaySlip r b) s fun e =>
      (∃ h, (e.part k).run.hold = some h ∧ h.fMin = s.dev.cyc ∧ h.unit = r ∧ h.cause = 5) ∧
      (e.region g).slipCnt = satInc (s.dev.region g).slipCnt) ∧
  (∀ (s : State) (r : Nat) (b : Bool), s.dev.lockstep = false → s.dev.skew r ≤ (relayK r : Rat) →
    (relayK r : Rat) - 15 ≤ s.dev.skew r → exec (.relaySlip r b) s = .next s) ∧
  (∀ s : State, s.dev.clk.gun = .fired → s.dev.clk.lapCyc = 65503 → Completes .lapSnapshot s fun e =>
    e = { s.dev with clk := e.clk } ∧ ∀ g, g < 31 → (s.dev.region g).failed = false →
      e.region g = { s.dev.region g with snap := (s.dev.region g).delay }) ∧
  (∀ s : State, s.dev.clk.lapCyc ≠ 65503 → exec .lapSnapshot s = .next s) ∧
  (∀ (s : State) (hi : W32), s.dev.clk.opPend = false → s.dev.opAllowed s.dev.clk.opNext = true →
    s.dev.clk.lap + 2 ≤ bits hi.toNat 0 16 * 2 ^ 32 + s.dev.clk.opLapLo.toNat → Completes (.opLapWrite .marshal hi) s fun e =>
      e.clk.opPend = true ∧ e.clk.opLap = bits hi.toNat 0 16 * 2 ^ 32 + s.dev.clk.opLapLo.toNat ∧ e.clk.opNext = s.dev.clk.opNext ∧
      e.clk.opCur = s.dev.clk.opCur ∧ (∀ g, g < 31 → (e.region g).idleOp = some s.dev.clk.opNext ∧ (e.region g).idleLocked = false) ∧
      e = { s.dev with clk := e.clk }) ∧
  (∀ (s : State) (src : Src) (hi : W32), src ≠ .marshal → Completes (.opLapWrite src hi) s (Errs pgClock 2 s.dev)) ∧
  (∀ s : State, s.dev.clk.opPend = true → s.dev.pwr.settling = false → s.dev.pwr.wantOp = none →
    Completes (.regulatorSettled true) s (Signals pgClock 2 { s.dev with
      clk := { s.dev.clk with opPend := false, opFailCnt := satInc s.dev.clk.opFailCnt } })) ∧
  (∀ s : State, s.dev.pwr.settling = false → Completes (.regulatorSettled false) s fun e =>
    e = { s.dev with pwr := { s.dev.pwr with droop := e.pwr.droop } } ∧ e.pwr.droop.map Prod.fst = s.dev.pwr.droop.map Prod.fst ∧
    ∀ x ∈ e.pwr.droop, x.2.wrote.isSome = true → x.2.settled.isSome = true) ∧
  (∀ (s : State) (op : Nat), s.dev.pwr.settling = true → s.dev.pwr.wantOp = some op → s.dev.clk.opPend = false →
    s.dev.opAllowed op = true → Completes (.regulatorSettled false) s fun e => e.clk.opPend = true ∧ e.clk.opNext = op ∧
      e.clk.opLap = s.dev.clk.lap + 2 ∧ e.pwr.settling = false) ∧
  (∀ (s : State) (g : Nat), isRegion g = true → (s.dev.region g).idleOp.isSome = true → (s.dev.region g).failed = false →
    Completes (.idlePathLock g) s fun e => e.region g = { s.dev.region g with idleLocked := true } ∧
      ∀ j, j ≠ g → e.region j = s.dev.region j) ∧
  (∀ s : State, s.dev.clk.gun = .fired → s.dev.clk.lapCyc = 65535 → Completes .lapMark s fun e => e.clk.lap = s.dev.clk.lap + 1 ∧
    e.clk.lapCyc = 0 ∧ (∀ r, (e.relay r).slipped = false) ∧ e.pwr.partN = 0 ∧ e.cyc = s.dev.cyc + 1 ∧ e.fuses = s.dev.fuses) ∧
  (∀ s : State, s.dev.clk.lapCyc ≠ 65535 → exec .lapMark s = .next s)

/-- Stretch, its run limit, and the commands of the clock page. Model's choice, not the spec's: one cycle index for all regions
(log entry 3) and the corners of log entry 35. -/
def Obligations.Clocks : Prop := StretchRunLimitClauses ∧ ClockCommandsClauses

/-- An operating point changes at its lap mark, when every idle path has locked: it is then the current one, nothing is pending and
no region keeps a delay; a change that is due with a path not locked is dropped and counted. A hold that is resolved when cycle
65,535 has ended (device `d1`) ends at the mark, and the run loses the cycles it stood: a hold that stands then began at the
mark. One that is not resolved stays. Model's choice, not the spec's: the corners of log entry 35. -/
def Obligations.LapMarkEffects : Prop :=
  (∀ s : State, s.dev.clk.gun = .fired → s.dev.clk.lapCyc = 65535 → s.dev.clk.opPend = true → s.dev.clk.opLap ≤ s.dev.clk.lap + 1 →
    s.dev.pathsLocked = true → Completes .lapMark s fun e => e.clk.opCur = s.dev.clk.opNext ∧ e.clk.opPend = false ∧
      ((e.page pgClock).intRaw &&& 2) = 2 ∧ ∀ g, g < 31 → (e.region g).delay = 0) ∧
  (∀ s : State, s.dev.clk.gun = .fired → s.dev.clk.lapCyc = 65535 → s.dev.clk.opPend = true → s.dev.clk.opLap ≤ s.dev.clk.lap + 1 →
    s.dev.pathsLocked = false → Completes .lapMark s fun e => e.clk.opCur = s.dev.clk.opCur ∧ e.clk.opPend = false ∧
      e.clk.opFailCnt = satInc s.dev.clk.opFailCnt) ∧
  (∀ (s : State) (d1 : Device) (k : Nat) (h : Hold), k < 8 → s.dev.clk.gun = .fired → s.dev.clk.lapCyc = 65535 → s.dev.lockstep = false →
    d1 = s.dev.cycleWork → (d1.part k).run.hold = some h → d1.holdResolved k h = true → Completes .lapMark s fun e =>
      (∀ g, (e.part k).run.hold = some g → g.fMin = s.dev.cyc + 1) ∧ (e.part k).run.resumed = some (h, s.dev.cyc + 1) ∧
      (e.part k).run.lost = (d1.part k).run.lost + (s.dev.cyc + 1 - h.fMin)) ∧
  (∀ (s : State) (d1 : Device) (k : Nat) (h : Hold), s.dev.clk.gun = .fired → s.dev.clk.lapCyc = 65535 → s.dev.lockstep = false →
    d1 = s.dev.cycleWork → (d1.part k).run.hold = some h → d1.holdResolved k h = false → Completes .lapMark s fun e =>
      ∃ g, (e.part k).run.hold = some g ∧ g.fMin = h.fMin ∧ g.unit = h.unit ∧ g.cause = h.cause ∧
        (e.part k).run.lost = (d1.part k).run.lost)

/-! ### Power and cooling -/

/-- Samples and policy of the power chapter, each due a period after the one before. A 10 µs sample sets PKG_PWR, counts 10 µs of PL-2
for each sample above PWR_CAP of the 100 ms behind it, asks for level 8 above 1,650 W and from 8 ms of PL-2 on until the window falls
below 6 ms, and GOV_LEVEL is the higher of the two requests, at most GOV_MAX; no point is asked for below level 8. The
forecast is evaluated by running firmware alone; it keeps every setpoint between 650 and 850 mV and sets the duty R380 computes,
which is 53.8 % for 1,500 W with a Q_MAX of 4 L/min. A forewarning pin falls at its time, unless a start is being prepared. -/
def PowerPolicyClauses : Prop :=
  (∀ (s : State) (x : Nat) (ps : List Nat), s.dev.due (s.dev.pwr.samples.head?.map (·.time)) (us 10) = true →
    Completes (.powerSample x ps) s fun e =>
      e.pwr.pkgPwr = min x 65535 ∧ e.pwr.reqThermal = s.dev.pwr.reqThermal ∧
      e.pwr.govLevel = min s.dev.pwr.govMax (max e.pwr.reqPower s.dev.pwr.reqThermal) ∧ (16500 < x → e.pwr.reqPower = 8) ∧
      e.pwr.samples = ⟨s.dev.clk.now, x, decide (10 * s.dev.pwr.cap < x)⟩ ::
        s.dev.pwr.samples.filter (fun q => decide (s.dev.clk.now < q.time + ms 1000)) ∧
      (8000 ≤ e.pwr.pl2Used s.dev.clk.now → e.pwr.pl2Hold = true) ∧ (e.pwr.pl2Used s.dev.clk.now < 6000 → e.pwr.pl2Hold = false) ∧
      (6000 ≤ e.pwr.pl2Used s.dev.clk.now → e.pwr.pl2Used s.dev.clk.now < 8000 → e.pwr.pl2Hold = s.dev.pwr.pl2Hold) ∧
      (e.pwr.pl2Hold = true → e.pwr.reqPower = 8) ∧
      (e.pwr.govLevel ≠ 8 → e.clk = s.dev.clk) ∧ FlagFrame { s.dev with pwr := e.pwr, clk := e.clk } e) ∧
  (∀ (s : State) (x : Nat) (ps : List Nat), s.dev.due (s.dev.pwr.samples.head?.map (·.time)) (us 10) = false →
    exec (.powerSample x ps) s = .next s) ∧
  (∀ s : State, s.dev.due s.dev.pwr.calibratedAt (ms 10) = true → exec .monitorCalibrate s =
    .next { s with dev := { s.dev with pwr := { s.dev.pwr with calibratedAt := some s.dev.clk.now },
                                       out := s.dev.out ++ [.avs 0 .readCurrent, .avs 1 .readCurrent, .avs 2 .readCurrent] } }) ∧
  (∀ s : State, s.dev.due s.dev.pwr.calibratedAt (ms 10) = false → exec .monitorCalibrate s = .next s) ∧
  (∀ s : State, s.dev.sec.bootStatus ≠ 2 ∨ s.dev.clk.gun ≠ .fired → exec .forecastEval s = .next s) ∧
  (∀ s : State, s.dev.sec.bootStatus = 2 → s.dev.clk.gun = .fired → Completes .forecastEval s fun e =>
    (∀ r, e.pwr.setpoint r = s.dev.pwr.setpoint r ∨ (650 ≤ e.pwr.setpoint r ∧ e.pwr.setpoint r ≤ 850)) ∧
    e.thr = { s.dev.thr with flowDuty := if s.dev.thr.full then 1000 else s.dev.wantDuty } ∧
    FlagFrame { s.dev with pwr := e.pwr, clk := e.clk, thr := e.thr, out := e.out } e) ∧
  (∀ d : Device, d.forecastMax d.clk.opCur (d.thr.flowLead * 1600000000 / d.lapTicks + 1) = 1500 → d.thr.coolCp = 4180 →
    d.thr.dtTgt = 10 → d.thr.qMax = 40 → d.thr.flowDmin ≤ 538 → d.thr.boost = 0 → d.wantDuty = 538) ∧
  (∀ s : State, s.dev.pwr.lsfWUntil ≤ s.dev.clk.now → s.dev.preparing true = false →
    exec (.lsfDeassert true) s = .next { s with dev := { s.dev with pwr := { s.dev.pwr with lsfW := false } } }) ∧
  (∀ s : State, s.dev.pwr.lsfEUntil ≤ s.dev.clk.now → s.dev.preparing false = false →
    exec (.lsfDeassert false) s = .next { s with dev := { s.dev with pwr := { s.dev.pwr with lsfE := false } } }) ∧
  (∀ (s : State) (w : Bool), s.dev.preparing w = true → exec (.lsfDeassert w) s = .next s)

/-- The junction sample, taken every 20 µs, the coolant sensors, read every 100 ms, and FLOW_MAX. The hottest sensor, the lowest index among equals, governs: at TH_THROTTLE
the thermal request rises by one at most every 100 µs, below it by more than 3 °C it falls by one every 1 ms, and at 105 °C
SMB_ALERT_N is pulled. The third failed read in a row, a reading outside −10 to 90 °C or an inlet above COOL_IN_MAX drives the duty
to 100 %, until 10 s of good readings have passed. -/
def ThermalAndCoolantClauses : Prop :=
  (∀ (s : State) (rs : List Int), rs.length = 32 → s.dev.due s.dev.thr.sampledAt (us 20) = true →
    Completes (.thermalSample rs) s fun e =>
    let thr : Int := (s.dev.thr.throttle : Int) * 10
    (∀ r ∈ rs, r ≤ e.thr.hotT) ∧ rs[e.thr.hotIdx]? = some e.thr.hotT ∧ (∀ i r, rs[i]? = some r → r = e.thr.hotT → e.thr.hotIdx ≤ i) ∧
    (thr ≤ e.thr.hotT → s.dev.thr.lastRaise + us 100 ≤ s.dev.clk.now →
      e.pwr.reqThermal = min 8 (s.dev.pwr.reqThermal + 1) ∧ e.thr.lastRaise = s.dev.clk.now) ∧
    (e.thr.hotT < thr - 30 → s.dev.thr.lastLower + ms 1 ≤ s.dev.clk.now →
      e.pwr.reqThermal = s.dev.pwr.reqThermal - 1 ∧ e.thr.lastLower = s.dev.clk.now) ∧
    (thr - 30 ≤ e.thr.hotT → e.thr.hotT < thr → e.pwr.reqThermal = s.dev.pwr.reqThermal) ∧
    e.pwr.govLevel = min s.dev.pwr.govMax (max s.dev.pwr.reqPower e.pwr.reqThermal) ∧
    (1050 ≤ e.thr.hotT → e.flt.smbAlert = true) ∧
    e.flt = { s.dev.flt with smbAlert := e.flt.smbAlert } ∧ (e.pwr.govLevel ≠ 8 → e.clk = s.dev.clk) ∧
    FlagFrame { s.dev with pwr := e.pwr, clk := e.clk, thr := e.thr, flt := e.flt } e) ∧
  (∀ (s : State) (rs : List Int), rs.length ≠ 32 ∨ s.dev.due s.dev.thr.sampledAt (us 20) = false →
    exec (.thermalSample rs) s = .next s) ∧
  (∀ (s : State) (i o : Option Int), s.dev.due s.dev.thr.readAt (ms 100) = true →
    i = none ∨ o = none ∨ s.dev.thr.i3cInlet = 0 ∨ s.dev.thr.i3cOutlet = 0 →
    Completes (.coolantSensorRead i o) s fun e => e.thr.failRun = s.dev.thr.failRun + 1 ∧
      (2 ≤ s.dev.thr.failRun → e.thr.flowDuty = 1000 ∧ e.thr.sensorFault = true) ∧
      (s.dev.thr.failRun < 2 → (∀ x, i = some x → -100 ≤ x ∧ x ≤ 900 ∧ x ≤ (s.dev.thr.coolInMax : Int) * 10) →
        (∀ x, o = some x → -100 ≤ x ∧ x ≤ 900) → e.thr.sensorFault = s.dev.thr.sensorFault ∧
        (s.dev.thr.full = false → e.thr.flowDuty = s.dev.thr.flowDuty)) ∧
      FlagFrame { s.dev with thr := e.thr } e) ∧
  (∀ (s : State) (i o : Option Int), s.dev.due s.dev.thr.readAt (ms 100) = false → exec (.coolantSensorRead i o) s = .next s) ∧
  (∀ (s : State) (i o : Int), s.dev.due s.dev.thr.readAt (ms 100) = true → s.dev.thr.i3cInlet ≠ 0 → s.dev.thr.i3cOutlet ≠ 0 →
    Completes (.coolantSensorRead (some i) (some o)) s fun e =>
      e.thr.tInlet = i ∧ e.thr.tOutlet = o ∧ e.thr.failRun = 0 ∧
      (i < -100 ∨ 900 < i ∨ o < -100 ∨ 900 < o ∨ (s.dev.thr.coolInMax : Int) * 10 < i →
        e.thr.sensorFault = true ∧ e.thr.flowDuty = 1000) ∧
      (-100 ≤ i ∧ i ≤ 900 ∧ -100 ≤ o ∧ o ≤ 900 ∧ i ≤ (s.dev.thr.coolInMax : Int) * 10 →
        e.thr.sensorFault = (s.dev.thr.sensorFault && decide (s.dev.clk.now < s.dev.thr.goodSince + ms 10000))) ∧
      FlagFrame { s.dev with thr := e.thr, freeCtr := e.freeCtr } e) ∧
  (∀ s : State, exec (.flowMax true 1) s = .next { s with dev := { s.dev with thr := { s.dev.thr with flowMax := true } } } ∧
    exec (.flowMax true 0) s = .next { s with dev := { s.dev with thr := { s.dev.thr with flowMax := false } } }) ∧
  (∀ (s : State) (v : Byte), exec (.flowMax false v) s = .next s)

/-- The policies of power and of cooling. Model's choice, not the spec's: how a power forecast is spread and averaged (log entry
21). -/
def Obligations.PowerAndCooling : Prop := PowerPolicyClauses ∧ ThermalAndCoolantClauses

/-- Gated regions. A running frame partition's gated regions are woken for the next frame by a staggered start, which begins so early
that its last region is ungated 1.5 µs before the frame's lap mark, whose first ungating
is 10 µs away and whose dies have their forewarning at once; 1 ms after a partition reset without a start, the regions in FILL return
to GATED, and not before. -/
def GatedRegionsClauses : Prop :=
  (∀ (s : State) (k : Nat) (im : Image), k < 8 → (s.dev.part k).image = some im → im.frame = true → s.dev.running k = true →
    (s.dev.part k).run.nextFrame = none → s.dev.regionsIn k .gated ≠ [] →
    s.dev.frameMark k ≤ s.dev.tk.time.toNat + 184000 + 4000 * ((s.dev.regionsIn k .gated).length - 1) →
    Completes (.frameWake k) s fun e =>
      (e.part k).run = { (s.dev.part k).run with nextFrame := some (s.dev.part k).run.frameNo } ∧
      (∃ n, e.clk = { s.dev.clk with staggers := s.dev.clk.staggers ++
        [{ part := k, left := s.dev.regionsIn k .gated, purpose := .frame, lastAt := s.dev.clk.now + us 10, lap := some n }] }) ∧
      ((∃ g ∈ s.dev.regionsIn k .gated, g < 12) → e.pwr.lsfW = true ∧ s.dev.clk.now + us 10 ≤ e.pwr.lsfWUntil) ∧
      ((∃ g ∈ s.dev.regionsIn k .gated, 12 ≤ g ∧ g < 24) → e.pwr.lsfE = true ∧ s.dev.clk.now + us 10 ≤ e.pwr.lsfEUntil) ∧
      e = { s.dev with parts := e.parts, clk := e.clk, pwr := e.pwr } ∧ ∀ j, j ≠ k → e.part j = s.dev.part j) ∧
  (∀ (s : State) (k : Nat), s.dev.running k = false ∨
    s.dev.tk.time.toNat + 184000 + 4000 * ((s.dev.regionsIn k .gated).length - 1) < s.dev.frameMark k →
    exec (.frameWake k) s = .next s) ∧
  (∀ (s : State) (k t : Nat), k < 8 → (s.dev.part k).run.resetEnd = some t → t + ms 1 ≤ s.dev.clk.now →
    (s.dev.part k).run.phase ≠ .starting → (s.dev.part k).run.phase ≠ .running → Completes (.fillTimeout k) s fun e =>
      (∀ g ∈ (s.dev.part k).poweredList, (s.dev.region g).power = .fill → (e.region g).power = .gated) ∧
      (∀ g, g ∉ (s.dev.part k).poweredList ∨ (s.dev.region g).power ≠ .fill → e.region g = s.dev.region g) ∧
      (e.part k).run = { (s.dev.part k).run with resetEnd := none } ∧ (∀ t, (e.tile t).mem = (s.dev.tile t).mem) ∧
      e = { s.dev with parts := e.parts, clk := e.clk, tiles := e.tiles }) ∧
  (∀ (s : State) (k t : Nat), (s.dev.part k).run.resetEnd = some t → s.dev.clk.now < t + ms 1 →
    exec (.fillTimeout k) s = .next s)

/-- Ungating of regions, and their return to GATED. Model's choice, not the spec's: sequences under way at one time ungate as one
(log entry 36). -/
def Obligations.StaggerAndGating : Prop := StaggeredUngatingClauses ∧ GatedRegionsClauses

/-! ### Faults and recovery -/

/-- Fault records waiting for their event are signalled once each: with nothing waiting, or less than 1 µs after the oldest,
nothing happens; the records of the device ring written within that 1 µs share one event write. An expired stall timer raises
STALL on the lowest such pacer, with nothing held: one new record, the abort of the running partition with cause 0x01, the
pacer's FAULT, and a partition reset of action 0x2. Model's choice, not the spec's: the order of several records of one cycle
(log entry 45). -/
def Obligations.FaultsAreRaised : Prop :=
  (∀ s : State, s.dev.flt.pending = [] → exec .faultEventWrite s = .next s) ∧
  (∀ (s : State) (x : Nat × W32 × Nat) (rest : List (Nat × W32 × Nat)), s.dev.flt.pending = x :: rest →
    (s.dev.clk.now < x.2.2 + us 1 → exec .faultEventWrite s = .next s) ∧
    (x.2.2 + us 1 ≤ s.dev.clk.now → Completes .faultEventWrite s fun e =>
      (∀ y, y ∈ e.flt.pending ↔ y ∈ s.dev.flt.pending ∧ x.2.2 + us 1 < y.2.2) ∧
      e.flt = { s.dev.flt with pending := e.flt.pending } ∧ EventFrame { s.dev with flt := e.flt } e ∧
      ((∀ y ∈ s.dev.flt.pending, y.1 = 8) → s.dev.sec.bootStatus = 2 → s.dev.mb.evt.valid = true →
        e.mb.evt.seq = s.dev.mb.evt.seq + 1))) ∧
  (∀ (s : State) (p k : Nat), s.dev.pacerPart p = some k → s.dev.stalled k p = true →
    (∀ q ∈ s.dev.pacersOf k, q < p → s.dev.stalled k q = false) → s.dev.running k = true → (s.dev.part k).run.hold = none →
    (s.dev.part k).run.action = none → p ∈ s.dev.pacersOf k → Completes (.stallTimerExpiry p) s fun e =>
      NewestRecord s.dev e (fun r => r.code = 0x0102 ∧ r.unit = p ∧ r.pcid = s.dev.pcid k ∧ r.action = 2 ∧
        r.bib = s.dev.bib p ∧ r.split = s.dev.splitIn (unitRegion p)) ∧
      (e.part k).run.phase = .aborted ∧ (∃ a, (e.part k).run.abort = some a ∧ a.cause = 1 ∧ a.cyc = s.dev.cyc) ∧
      (∃ j, (e.part k).run.reset = some j ∧ j.code = 0x0102 ∧ j.unit = p ∧ j.action = 2 ∧ j.capture = true) ∧
      (e.pacer p).state = .fault ∧ (∀ t, (e.tile t).mem = (s.dev.tile t).mem)) ∧
  (∀ (s : State) (p k : Nat), s.dev.pacerPart p = some k → s.dev.stalled k p = false → exec (.stallTimerExpiry p) s = .next s)

/-- A host PART_RESET begins a reset with an abort, or meets one under way and adds nothing. At the end of a partition reset every
pacer of the partition is IDLE with BANK_READY clear and no comparator enabled, with its tables as they were; on every tile that it owns
accumulators, vector registers and staging are zero and the array contents unchanged; the stores of its BMEs are zero; and the regions
that ran are in FILL. -/
def Obligations.PartitionReset : Prop :=
  (∀ (s : State) (k : Nat) (c : Bool), k < 8 → (s.dev.part k).run.reset.isSome = true → Completes (.partReset k c) s fun e =>
    e.part k = { s.dev.part k with resetResult := 1, resetValid := true } ∧ e = { s.dev with parts := e.parts } ∧
    ∀ j, j ≠ k → e.part j = s.dev.part j) ∧
  (∀ (s : State) (k : Nat) (c : Bool), k < 8 → (s.dev.part k).run.reset = none → s.dev.running k = true →
    (s.dev.part k).run.commit = none → Completes (.partReset k c) s fun e => (e.part k).resetResult = 0 ∧ (e.part k).resetValid = true ∧
      (e.part k).run.phase = .aborted ∧ (∃ a, (e.part k).run.abort = some a ∧ a.cause = 3) ∧
      (e.part k).run.reset = some { code := 0, unit := 0, action := 2, capture := c } ∧
      (∀ p ∈ s.dev.pacersOf k, (e.pacer p).state.active = false) ∧
      (∀ p, p ∉ s.dev.pacersOf k → e.pacer p = s.dev.pacer p) ∧
      ((s.dev.part k).run.hold = none → e.net = s.dev.net ∧ e.chans = s.dev.chans ∧ e.bmes = s.dev.bmes) ∧
      e = { s.dev with parts := e.parts, pacers := e.pacers, net := e.net, chans := e.chans, bmes := e.bmes }) ∧
  (∀ (s : State) (k : Nat) (j : ResetJob), k < 8 → s.dev.flt.upsets = [] → s.dev.mb.placing = none →
    (s.dev.part k).run.reset = some j → (s.dev.part k).run.teardownWait = false → Completes (.partitionResetDone k) s fun e =>
      (e.part k).run.phase = .none ∧ (e.part k).run.reset = none ∧ (e.part k).run.hold = none ∧
      (e.part k).run.resetEnd = some s.dev.clk.now ∧
      (e.part k).run.retest = (if j.action = 3 then some j else (s.dev.part k).run.retest) ∧
      (∀ p ∈ s.dev.pacersOf k, (e.pacer p).state = .idle ∧ (e.pacer p).ready = false ∧
        (∀ i, (Map.get {} (e.pacer p).cmps i).enable = false) ∧ (e.pacer p).table = (s.dev.pacer p).table) ∧
      (∀ t, t < 208 → s.dev.tilePart t = some k → (e.tile t).accs = [] ∧ (e.tile t).vregs = [] ∧ (e.tile t).staging = [] ∧
        (e.tile t).compute = 0 ∧ (e.tile t).mem = (s.dev.tile t).mem) ∧
      (∀ c ∈ (s.dev.part k).chanList, (e.bme c).queries = [] ∧ (e.bme c).triples = [] ∧ (e.bme c).scores = [] ∧
        (e.bme c).lines = [] ∧ (e.bme c).slots = []) ∧
      (∀ g ∈ (s.dev.part k).poweredList, (s.dev.region g).power = .run → (e.region g).power = .fill)) ∧
  (∀ (s : State) (k : Nat), (s.dev.part k).run.reset = none → exec (.partitionResetDone k) s = .next s)

/-- The retest of a failed structure. A tile that fails is unusable, in DEPLOYED on its way into the journal; the subarray that was
tested is left zero and the rest of its memory as it was; a unit of a channel or port that fails takes its group or port out; one
that passes is transient and, under REPAIR_MODE 2 or 3, asks for a reload of the partition's image copy. -/
def RetestAndRepairClauses : Prop :=
  (∀ (s : State) (k u : Nat) (spec : List Byte) (j : ResetJob), k < 8 → u < 208 → (s.dev.part k).run.retest = some j →
    j.unit = u → j.code = 0x0201 → j.specific = spec →
    Completes (.retestDone k true) s fun e => u ∈ e.flt.failedTiles ∧
      (s.dev.fuses.lc = 3 → (∃ x ∈ e.flt.queued, x.tile = u) ∨ (∃ es, e.flt.updating = some es ∧ ∃ x ∈ es, x.tile = u)) ∧
      (s.dev.fuses.lc ≠ 3 → e.flt.queued = s.dev.flt.queued ∧ e.flt.updating = s.dev.flt.updating) ∧
      (∀ w, (let lo := 2048 * (24 * (spec.getD 1 0).toNat + (spec.getD 2 0).toNat)
          Map.get 0 (e.tile u).mem w = if lo ≤ w ∧ w < lo + 2048 then 0 else Map.get 0 (s.dev.tile u).mem w)) ∧
      (∀ t, t ≠ u → e.tile t = s.dev.tile t) ∧ (e.part k).run.retest = none) ∧
  (∀ (s : State) (k u : Nat) (j : ResetJob), k < 8 → 208 ≤ u → j.code ≠ 0x0103 →
    (s.dev.part k).run.retest = some j → j.unit = u → Completes (.retestDone k true) s fun e =>
      (u < 384 → (if u < 320 then u - 256 else u - 320) / 3 ∈ e.flt.failedGroups) ∧ (384 ≤ u → u - 384 ∈ e.flt.failedPorts) ∧
      e.mb = { s.dev.mb with drillVoid := e.mb.drillVoid } ∧ e.flt.failedTiles = s.dev.flt.failedTiles ∧ (e.part k).run.retest = none) ∧
  (∀ (s : State) (k u : Nat) (j : ResetJob) (im : Image), k < 8 → j.code ≠ 0x0103 →
    (s.dev.part k).run.retest = some j → j.unit = u → (s.dev.part k).image = some im →
    (s.dev.part k).repairMode = 2 ∨ (s.dev.part k).repairMode = 3 → s.dev.mb.queue.length < 8 → s.dev.loading k = false →
    Completes (.retestDone k false) s fun e => u ∈ e.flt.transientUnits ∧ e.flt.failedTiles = s.dev.flt.failedTiles ∧
      ∃ r, e.mb.queue = s.dev.mb.queue ++ [r] ∧ r.addr = im.addr ∧ r.part = k ∧ r.cadence = im.cadence ∧ r.strict = im.strict ∧
        r.pwrAlloc = im.pwrAlloc ∧ r.reload = true ∧
        (r.autoStart = true ↔ (s.dev.part k).repairMode = 3 ∧ (s.dev.part k).run.heat = false)) ∧
  (∀ (s : State) (k : Nat) (b : Bool), (s.dev.part k).run.retest = none → exec (.retestDone k b) s = .next s)

/-- The journal. An update that ends well leaves the target copy valid, with its entries and the SEQ after the copy in force; one that
fails leaves it invalid and writes a JOURNAL record; the other copy stands either way. A clearing waits until every pacer is IDLE and no
update runs, with the tile it named; it is then refused outside MANUFACTURE and RETURNED, and for a tile that is not listed, or leaves the
entries not named, and a tile that it cleared is failed no more. -/
def JournalClauses : Prop :=
  (∀ (s : State) (es : List JEntry), s.dev.flt.updating = some es → Completes (.journalUpdate true) s fun e =>
    let c : JCopy := { valid := true, seq := (match s.dev.flt.copy with | some c => c.2.seq + 1 | none => 1), entries := es }
    (s.dev.flt.target = true → e.flt.journal1 = c ∧ e.flt.journal0 = s.dev.flt.journal0) ∧
    (s.dev.flt.target = false → e.flt.journal0 = c ∧ e.flt.journal1 = s.dev.flt.journal1) ∧
    (s.dev.flt.queued = [] → e.flt.updating = none) ∧ e.flt.seq = s.dev.flt.seq ∧ e = { s.dev with flt := e.flt, mb := e.mb } ∧
    (s.dev.mb.jclrBusy = false ∨ s.dev.allIdle = false → e.mb = s.dev.mb)) ∧
  (∀ (s : State) (es : List JEntry), s.dev.flt.updating = some es → Completes (.journalUpdate false) s fun e =>
    NewestRecord s.dev e (fun r => r.code = 0x0602 ∧ r.unit = 2370 ∧ r.pcid = 0 ∧ r.action = 0) ∧
    (s.dev.flt.target = true → e.flt.journal1.valid = false ∧ e.flt.journal0 = s.dev.flt.journal0) ∧
    (s.dev.flt.target = false → e.flt.journal0.valid = false ∧ e.flt.journal1 = s.dev.flt.journal1)) ∧
  (∀ s : State, s.dev.mb.jclrBusy = true → Completes .jclrGo s (Errs pgMailbox errState s.dev)) ∧
  (∀ s : State, s.dev.mb.jclrBusy = false → s.dev.jclrFree = false → exec .jclrGo s = .next { s with dev := { s.dev with
    mb := { s.dev.mb with jclrValid := false, jclrBusy := true,
                          jclrWhat := if s.dev.mb.jclrAll then none else some s.dev.mb.jclrTile } } }) ∧
  (∀ s : State, s.dev.mb.jclrBusy = false → s.dev.jclrFree = true → s.dev.fuses.lc ≠ 1 → s.dev.fuses.lc ≠ 4 →
    exec .jclrGo s = .next { s with dev := { s.dev with
      mb := { s.dev.mb with jclrResult := 1, jclrValid := true, jclrBusy := false, jclrWhat := none } } }) ∧
  (∀ s : State, s.dev.mb.jclrBusy = false → s.dev.jclrFree = true → s.dev.fuses.lc = 1 ∨ s.dev.fuses.lc = 4 →
    s.dev.mb.jclrAll = false → (∀ x ∈ s.dev.flt.entries, x.tile ≠ s.dev.mb.jclrTile) →
    exec .jclrGo s = .next { s with dev := { s.dev with
      mb := { s.dev.mb with jclrResult := 2, jclrValid := true, jclrBusy := false, jclrWhat := none } } }) ∧
  (∀ s : State, s.dev.mb.jclrBusy = false → s.dev.fuses.lc = 1 ∨ s.dev.fuses.lc = 4 →
    s.dev.mb.jclrAll = true ∨ (∃ x ∈ s.dev.flt.entries, x.tile = s.dev.mb.jclrTile) →
    exec .jclrGo s = .next { s with dev := { s.dev with mb := { s.dev.mb with
      jclrValid := false, jclrBusy := true, jclrWhat := if s.dev.mb.jclrAll then none else some s.dev.mb.jclrTile } } }) ∧
  (∀ s : State, s.dev.flt.updating = none → s.dev.mb.jclrBusy = true → s.dev.allIdle = true → s.dev.jclrCode = none →
    Completes (.journalUpdate true) s fun e =>
      e.mb = { s.dev.mb with jclrResult := 0, jclrValid := true, jclrBusy := false, jclrWhat := none } ∧
      (if s.dev.flt.target then e.flt.journal1 else e.flt.journal0).entries = s.dev.jclrEntries ∧
      (∀ t, t ∈ e.flt.failedTiles ↔
        t ∈ s.dev.flt.failedTiles ∧ ∀ x ∈ s.dev.flt.entries, x.cleared s.dev.mb.jclrWhat = true → x.tile ≠ t) ∧
      e = { s.dev with flt := e.flt, mb := e.mb }) ∧
  (∀ (s : State) (b : Bool) (c : Nat), s.dev.flt.updating = none → s.dev.mb.jclrBusy = true → s.dev.allIdle = true →
    s.dev.jclrCode = some c → exec (.journalUpdate b) s = .next { s with dev := { s.dev with
      mb := { s.dev.mb with jclrResult := c, jclrValid := true, jclrBusy := false, jclrWhat := none } } }) ∧
  (∀ (s : State) (b : Bool), s.dev.flt.updating = none → s.dev.mb.jclrBusy = false ∨ s.dev.allIdle = false →
    exec (.journalUpdate b) s = .next s)

/-- What follows a failed structure: retest, repair, and the journal. -/
def Obligations.RetestAndJournal : Prop := RetestAndRepairClauses ∧ JournalClauses

/-! ### The starter -/

/-- A word write of entry `r` that firmware serves: a port that exists, and a host-mode port only in the scope of the entry's partition. -/
def WordAdmitted (d : Device) (i r w : Nat) : Prop :=
  d.sec.bootStatus = 2 ∧ isWay i = true ∧ r < 1048576 ∧
    d.scopeMem (if d.hostMode i then some i else none) 0 (0x0E0000000000 + 32 * r + 8 * w) 8 = true

/-- The starter page's staged words without those of entry `r`. -/
def DropsStaged (r : Nat) (d : Device) : Device :=
  { d with starter := { d.starter with staged := d.starter.staged.filter fun x => x.1 != r } }

/-- Writes of the request table by 8-byte words. Word 0 begins a sequence; the fourth word of a sequence from one source writes the
entry whole, its reserved bit zero; a word out of place ends the sequence, and a fourth word that completes none is counted. An entry that is QUEUED or ACTIVE
refuses; an entry submitted with STATE QUEUED that passes the checks stands at the tail of its tenant's queue, one that fails a check is
FAILED with its cause, the tenant's QUANTUM first. Before firmware runs only a host-mode port writes, one word of the staging area. -/
def RequestTableClauses : Prop :=
  (∀ (s : State) (src : W16) (i r : Nat) (v : W64), WordAdmitted s.dev i r 0 → exec (.reqtabWordWrite src i r 0 v) s =
    .next { s with dev := { s.dev with starter := { s.dev.starter with
      staged := s.dev.starter.staged.filter (fun x => x.1 != r) ++ [(r, src, i, [v])] } } }) ∧
  (∀ (s : State) (src : W16) (i r w : Nat) (v : W64), WordAdmitted s.dev i r w → 0 < w → w < 4 →
    (∀ src' j ws, (s.dev.starter.staged.find? fun x => x.1 == r) = some (r, src', j, ws) →
      src' ≠ src ∨ j ≠ i ∨ ws.length ≠ w) →
    (w = 3 → Completes (.reqtabWordWrite src i r w v) s (Errs pgStarter 0x0130 (DropsStaged r s.dev))) ∧
    (w < 3 → exec (.reqtabWordWrite src i r w v) s = .next { s with dev := DropsStaged r s.dev })) ∧
  (∀ (s : State) (src : W16) (i r : Nat) (w0 w1 w2 w3 : W64) (e : ReqEntry), WordAdmitted s.dev i r 3 → s.dev.flt.upsets = [] →
    (s.dev.starter.staged.find? fun x => x.1 == r) = some (r, src, i, [w0, w1, w2]) → e = setBits 256 (w3 ++ w2 ++ w1 ++ w0) 63 1 0 →
    Completes (.reqtabWordWrite src i r 3 w3) s fun d =>
      (s.dev.reqRefused r e = true → Errs pgStarter errDenied (DropsStaged r s.dev) d) ∧
      (s.dev.reqRefused r e = false → e.state = 1 → s.dev.submitCause e.submitted = none →
        d.req r = e.submitted ∧ Map.get [] d.starter.queues (4096 * e.part + e.tenant) =
          Map.get [] s.dev.starter.queues (4096 * e.part + e.tenant) ++ [r]) ∧
      (∀ c, s.dev.reqRefused r e = false → e.state = 1 → s.dev.submitCause e.submitted = some c →
        d.req r = ReqEntry.setState 6 c e.submitted ∧ d.starter.queues = s.dev.starter.queues) ∧
      (s.dev.reqRefused r e = false → e.state = 0 → d.req r = e ∧ d.starter.queues = s.dev.starter.queues) ∧
      ∀ r', r' ≠ r → d.req r' = s.dev.req r') ∧
  (∀ (d : Device) (r : Nat) (e : ReqEntry), (d.req r).state = 1 ∨ (d.req r).state = 2 ∨ 2 ≤ e.state → d.reqRefused r e = true) ∧
  (∀ (d : Device) (e : ReqEntry), (d.tenant e.tenant).quantum = 0 → d.submitCause e = some 7) ∧
  (∀ (s : State) (src : W16) (i r w : Nat) (v : W64), s.dev.sec.bootStatus ≠ 2 → s.dev.hostMode i = false →
    exec (.reqtabWordWrite src i r w v) s = .next s) ∧
  (∀ (s : State) (src : W16) (i r w : Nat) (v : W64), s.dev.sec.bootStatus = 0 → s.dev.hostMode i = true → w < 4 →
    32 * r + 8 * w + 8 ≤ 8396800 → Completes (.reqtabWordWrite src i r w v) s fun e =>
      bits (e.req r).toNat (64 * w) 64 = v.toNat ∧
      (∀ j, j < 4 → j ≠ w → bits (e.req r).toNat (64 * j) 64 = bits (s.dev.req r).toNat (64 * j) 64) ∧
      (∀ r', r' ≠ r → e.req r' = s.dev.req r') ∧ e.starter.queues = s.dev.starter.queues ∧ e.pages = s.dev.pages)

/-- TEN_DATA3 replaces the tenant that TEN_INDEX names with the four words' fields; with 64 other tenants holding RABBIT the bit is
not given, and that is counted. -/
def TenantWriteClauses : Prop :=
  ∀ (s : State) (v : W32),
    ((v.getLsbD 0 = false ∨ (s.dev.starter.tenants.filter fun x => x.1 != s.dev.starter.tenIndex && x.2.rabbit).length < 64) →
      Completes (.tenData3Write v) s fun e =>
        let t := s.dev.starter.tenIndex
        (e.tenant t).budget = s.dev.starter.tenData0.toInt ∧ (e.tenant t).rate = s.dev.starter.tenData1.toNat % 2 ^ 24 ∧
        (e.tenant t).quantum = s.dev.starter.tenData1.toNat / 2 ^ 24 ∧ (e.tenant t).cap = s.dev.starter.tenData2.toNat % 2 ^ 31 ∧
        (e.tenant t).rabbit = v.getLsbD 0 ∧ (∀ j, j ≠ t → e.tenant j = s.dev.tenant j) ∧
        e = { s.dev with starter := { s.dev.starter with tenData3 := v, tenants := e.starter.tenants } }) ∧
    (v.getLsbD 0 = true → 64 ≤ (s.dev.starter.tenants.filter fun x => x.1 != s.dev.starter.tenIndex && x.2.rabbit).length →
      Completes (.tenData3Write v) s fun e => (e.tenant s.dev.starter.tenIndex).rabbit = false ∧
        (e.page pgStarter).errCnt = satInc (s.dev.page pgStarter).errCnt)

/-- Writes of the request table and of tenants. Model's choice, not the spec's: the order of staged words (log entry 44). -/
def Obligations.RequestsAndTenants : Prop := RequestTableClauses ∧ TenantWriteClauses

/-- The boundary work. Where none is due it changes nothing. Once done, counter 63 of the partition reads 1, the boundary is
settled and every occupied slot has a step to run. In it, the request of a cancelled slot becomes CANCELLED with cause 0x6, one
whose deadline has passed EXPIRED with cause 0x4 and, where late tokens are withheld, delivers none; a request seated is ACTIVE
in its slot. A follower waits for the SLOT_SETs that STEP_DONE counted, a shadow for the units that MIRROR_DONE counted: those
its source sent before the cell. Model's choice, not the spec's: the order inside the boundary work (log entry 44). -/
def Obligations.StepBoundary : Prop :=
  (∀ (s : State) (k : Nat), (s.dev.part k).serving.boundary = none → exec (.stepBoundary k) s = .next s) ∧
  (∀ (s : State) (k : Nat), (s.dev.part k).serving.boundary ≠ none → (s.dev.part k).serving.smode ≠ 2 →
    (s.dev.part k).shadow.role ≠ 2 → Completes (.stepBoundary k) s fun e =>
      (e.ccOf k 63).count = 1 ∧ (e.part k).serving.boundary = none ∧ (e.part k).serving.wrote = [] ∧
      (e.part k).serving.touched = [] ∧ ∀ x ∈ (e.part k).serving.slotTab, x.2.ran = true) ∧
  (∀ (d : Device) (k s r : Nat) (tk : W64), d.flt.upsets = [] →
    (Map.get {} (d.part k).serving.slotTab s).req = some r → (Map.get {} (d.part k).serving.slotTab s).cancel = true →
    (d.req r).state = 2 →
    ((d.settleSlot k s tk).2.req r).state = 5 ∧ ((d.settleSlot k s tk).2.req r).cause = 6 ∧ (d.settleSlot k s tk).1.tokens = []) ∧
  (∀ (d : Device) (k s r : Nat) (tk : W64), d.flt.upsets = [] →
    (Map.get {} (d.part k).serving.slotTab s).req = some r → (Map.get {} (d.part k).serving.slotTab s).cancel = false →
    (d.req r).state = 2 → (d.req r).deadline ≠ 0 → (d.req r).deadline ≤ tk.toNat →
    ((d.settleSlot k s tk).2.req r).state = 4 ∧ ((d.settleSlot k s tk).2.req r).cause = 4 ∧
      ((d.req r).latepol = false → (d.settleSlot k s tk).1.tokens = [])) ∧
  (∀ (d : Device) (k r s : Nat), d.flt.upsets = [] → s < 8192 →
    ((d.admitOne k r s).req r).state = 2 ∧ ((d.admitOne k r s).req r).slot = s ∧
      (Map.get {} ((d.admitOne k r s).part k).serving.slotTab s).req = some r ∧
      ∀ q, r ∉ Map.get [] (d.admitOne k r s).starter.queues q) ∧
  (∀ (s : State) (k n : Nat), (s.dev.part k).serving.boundary ≠ none → (s.dev.part k).serving.smode = 2 →
    (s.dev.part k).shadow.role ≠ 2 → (s.dev.part k).serving.expected = some n →
    (n ≠ (s.dev.part k).serving.applied → exec (.stepBoundary k) s = .next s) ∧
    (n = (s.dev.part k).serving.applied → Completes (.stepBoundary k) s fun e =>
      (e.ccOf k 63).count = 1 ∧ (e.part k).serving.boundary = none)) ∧
  (∀ (s : State) (k n : Nat) (src : W16) (q : W32), (s.dev.part k).serving.boundary ≠ none → (s.dev.part k).shadow.role = 2 →
    (s.dev.part k).serving.mirrorExpect = [(((s.dev.part k).serving.stepCnt, n), src, q)] →
    (mirroredOf (s.dev.part k).serving.mirrored src q n ≠ n → exec (.stepBoundary k) s = .next s) ∧
    (mirroredOf (s.dev.part k).serving.mirrored src q n = n → Completes (.stepBoundary k) s fun e =>
      (e.ccOf k 63).count = 1 ∧ (e.part k).serving.boundary = none ∧ (e.part k).serving.mirrorExpect = [] ∧
      (∀ x ∈ (e.part k).serving.mirrored, x ∈ (s.dev.part k).serving.mirrored) ∧ e = { s.dev with parts := e.parts }))

/-- What a cancel's result `res` for request `r` leaves on the starter page, from the device `d`. -/
def CancelSettles (r res : Nat) (d e : Device) : Prop :=
  e.starter = { d.starter with cancelResult := res, resReq := r, cancelValid := true } ∧
    e = { d with starter := e.starter, pages := e.pages, tr := e.tr, ports := e.ports, parts := e.parts, mb := e.mb }

/-- Cancels, of requests that no follower holds. A request of another TAG or a FREE one is NO_MATCH; a terminal one ALREADY_DONE; a queued
one leaves its queue at once, CANCELLED with cause 0x5; an active one has its slot's cancel bit set. While boundary work of its partition
is under way, whatever the request's state, or an earlier cancel waits, the cancel waits, and it is served in the order registered; a cancel from the page while one is
unsettled is refused. -/
def Obligations.Cancels : Prop :=
  (∀ (s : State) (tag : W16), (∃ x ∈ s.dev.starter.cancels, x.2.2.2 = none) →
    Completes (.cancelReq tag) s (Errs pgStarter errState s.dev)) ∧
  (∀ (s : State) (tag : W16) (r : Nat), s.dev.starter.cancels = [] → s.dev.flt.upsets = [] → s.dev.starter.cancelReq = r →
    ((s.dev.req r).state = 0 ∨ (s.dev.req r).tag ≠ tag.toNat → (s.dev.part (s.dev.req r).part).serving.boundary = none →
      Completes (.cancelReq tag) s (CancelSettles r 3 s.dev)) ∧
    ((s.dev.req r).tag = tag.toNat → terminalState (s.dev.req r).state = true →
      (s.dev.part (s.dev.req r).part).serving.boundary = none →
      Completes (.cancelReq tag) s (CancelSettles r 2 s.dev)) ∧
    ((s.dev.req r).tag = tag.toNat → (s.dev.req r).state = 1 → (s.dev.part (s.dev.req r).part).serving.boundary = none →
      (s.dev.part (s.dev.req r).part).serving.smode ≠ 2 →
      Completes (.cancelReq tag) s fun e => e.starter.cancelResult = 0 ∧ e.starter.cancelValid = true ∧
        e.req r = ReqEntry.setState 5 5 (s.dev.req r) ∧ (∀ q, r ∉ Map.get [] e.starter.queues q)) ∧
    (∀ k t, (s.dev.req r).tag = tag.toNat → (s.dev.req r).state = 2 →
      (s.dev.part (s.dev.req r).part).serving.boundary = none → (s.dev.part (s.dev.req r).part).serving.smode ≠ 2 →
      s.dev.slotOf r = some (k, t) →
      (Map.get {} (s.dev.part k).serving.slotTab t).cancel = false → Completes (.cancelReq tag) s fun e =>
        e.starter.cancelResult = 1 ∧ e.starter.cancelValid = true ∧ e.req r = s.dev.req r ∧
        (Map.get {} (e.part k).serving.slotTab t).cancel = true) ∧
    ((s.dev.part (s.dev.req r).part).serving.boundary ≠ none →
      exec (.cancelReq tag) s = .next { s with dev := { s.dev with starter := { s.dev.starter with
        cancelValid := false, cancels := [((s.dev.req r).part, r, tag, none)] } } })) ∧
  (∀ (s : State) (tag : W16) (r : Nat), (∀ x ∈ s.dev.starter.cancels, x.2.2.2 ≠ none) → s.dev.starter.cancels ≠ [] →
    s.dev.starter.cancelReq = r → exec (.cancelReq tag) s = .next { s with dev := { s.dev with starter := { s.dev.starter with
      cancelValid := false, cancels := s.dev.starter.cancels ++ [((s.dev.req r).part, r, tag, none)] } } }) ∧
  (∀ (s : State) (k r : Nat) (tag : W16) (rest : List (Nat × Nat × W16 × Option (Nat × XUnit))),
    (s.dev.part k).serving.boundary = none → s.dev.starter.cancels = (k, r, tag, none) :: rest → s.dev.flt.upsets = [] →
    (s.dev.req r).state = 1 → (s.dev.req r).tag = tag.toNat → (s.dev.part (s.dev.req r).part).serving.smode ≠ 2 →
    Completes (.cancelDeferredServe k) s fun e =>
      e.starter.cancels = rest ∧ e.starter.cancelResult = 0 ∧ e.req r = ReqEntry.setState 5 5 (s.dev.req r) ∧
      ∀ q, r ∉ Map.get [] e.starter.queues q) ∧
  (∀ (s : State) (k : Nat), (s.dev.part k).serving.boundary ≠ none ∨ s.dev.starter.cancels = [] ∨
    (∃ x rest, s.dev.starter.cancels = x :: rest ∧ x.1 ≠ k) → exec (.cancelDeferredServe k) s = .next s)

/-! ### The transport -/

/-- The command that delivers a stream unit. -/
def unitCommand (i : Nat) (u : XUnit) : Instr :=
  match u.kind with
  | .put => .put i u
  | .get => .get i u
  | .getrsp => .getrsp i u
  | .cell => match u.body with
    | .ack .. => .ack i u
    | .cnp .. => .cnp i u
    | .timeReq .. => .timeReq i u
    | .timeRsp .. => .timeRsp i u
    | .cancel .. => .cancel i u
    | .cancelResult .. => .cancelResult i u
    | .slotSet .. => .slotSet i u
    | .stepDone .. => .stepDone i u
    | .heatAbort .. => .heatAbort i u
    | .pfDigest .. => .pfDigest i u
    | .mirrorDone .. => .mirrorDone i u

/-- A stream unit of a kind that streams carry stands whole at way `i`, and its words can be read out of the pool. -/
def StandsAt (i : Nat) (u : XUnit) (d : Device) : Prop :=
  isWay i = true ∧ d.arrived i u = true ∧ u.stream = true ∧ (u.kind = .cell → u.body.ctype ≠ 3 ∧ u.body.ctype ≠ 4) ∧
    d.rxBad i u.cls u.bytes.length = none

/-- The unit is for this device, is not stale, and carries the epoch of its partition; `d1` is the device once it has been taken. -/
def Current (i : Nat) (u : XUnit) (d d1 : Device) : Prop :=
  StandsAt i u d ∧ d.forUs i u = true ∧ d1 = d.takeUnit i u ∧ d1.stale u = false ∧ u.dstEpoch = (d1.part u.dstPart).epoch

/-- The unit passes every check of its stream: `d2` is the device then, a CNP having gone to the source of a marked unit that has no
ACK to carry the echo, and `echo` is what an ACK says. A unit with MIR set passes only as a PUT to a shadow. -/
def Accepted (i : Nat) (u : XUnit) (echo : Bool) (d d2 : Device) : Prop :=
  ∃ d1 ce dc, Current i u d d1 ∧ d1.streamCheck u = (.accept ce, dc) ∧
    (u.mir = true → u.kind = .put ∧ dc.isShadow u.dstPart = true) ∧ echo = (ce && (u.kind == .put && u.ackReq)) ∧
    d2 = if ce && !(u.kind == .put && u.ackReq) then dc.sendCnp i u else dc

/-- What happens to a stream unit before its own effect, in order. One that has not arrived does nothing. One with an uncorrectable word
in the pool is not taken: its port is reset into DOWN with cause WORD. A LOCAL one is discarded. One for another device is forwarded
when its egress queue has room, and stays where it is when there is none. One that is stale is discarded and counted, one of another
epoch is discarded and counted and its source told, a duplicate is discarded, one that finds the stream table full
is discarded and its source told, and one with MIR set that goes to no shadow, or is no PUT (log entry 54), is discarded and counted. -/
def UnitsAreCheckedClauses : Prop :=
  (∀ (s : State) (i : Nat) (u : XUnit), s.dev.arrived i u = false → (u.kind = .cell → u.body.ctype ≠ 3 ∧ u.body.ctype ≠ 4) →
    exec (unitCommand i u) s = .next s) ∧
  (∀ (s : State) (i : Nat) (u : XUnit) (drill : Bool), isWay i = true → s.dev.arrived i u = true → u.planned = false →
    (u.kind = .cell → u.body.ctype ≠ 3 ∧ u.body.ctype ≠ 4) → s.dev.rxBad i u.cls u.bytes.length = some drill →
    (s.dev.port i).link.state = .active → Completes (unitCommand i u) s fun e =>
      (e.port i).link.state = .down ∧ (e.port i).link.downCause = 8 ∧ (e.port i).egReq = [] ∧ (e.port i).egRsp = [] ∧
      (e.port i).planned = [] ∧ (e.port i).resent = [] ∧ (e.port i).link.rxReq = [] ∧ (e.port i).link.rxRsp = [] ∧
      (Map.get {} e.flt.onDie (s.dev.flt.seq.toNat % 256)).code = 0x0301 ∧ e.tiles = s.dev.tiles ∧ e.chans = s.dev.chans) ∧
  (∀ (s : State) (i : Nat) (u : XUnit), isWay i = true → s.dev.arrived i u = true → u.planned = false → u.loc = true →
    (u.kind = .cell → u.body.ctype ≠ 3 ∧ u.body.ctype ≠ 4) → s.dev.rxBad i u.cls u.bytes.length = none →
    exec (unitCommand i u) s = .next { s with dev := s.dev.takeUnit i u }) ∧
  (∀ (s : State) (i j : Nat) (u : XUnit), StandsAt i u s.dev → s.dev.forUs i u = false → s.dev.tr.myId ≠ 0xFFFF →
    s.dev.stale u = false → s.dev.routeOf u.dstId = .out j →
    ((s.dev.port j).fits u = true →
      exec (unitCommand i u) s = .next { s with dev := (s.dev.takeUnit i u).updPort j (Port.enqueue u) }) ∧
    ((s.dev.port j).fits u = false → exec (unitCommand i u) s = .next s)) ∧
  (∀ (s : State) (i : Nat) (u : XUnit), StandsAt i u s.dev → s.dev.forUs i u = true → (s.dev.takeUnit i u).stale u = true →
    exec (unitCommand i u) s = .next { s with dev := { s.dev.takeUnit i u with tr := { (s.dev.takeUnit i u).tr with
      ageDiscard := satInc (s.dev.takeUnit i u).tr.ageDiscard } } }) ∧
  (∀ (s : State) (i : Nat) (u : XUnit) (d1 : Device), StandsAt i u s.dev → s.dev.forUs i u = true → d1 = s.dev.takeUnit i u →
    d1.stale u = false → u.dstEpoch ≠ (d1.part u.dstPart).epoch → Completes (unitCommand i u) s fun e =>
      SendPart { d1.part u.dstPart with epochDiscard := satInc (d1.part u.dstPart).epochDiscard } (e.part u.dstPart) ∧
      e = { d1 with parts := e.parts, tr := e.tr, ports := e.ports } ∧ ∀ k, k ≠ u.dstPart → e.part k = d1.part k) ∧
  (∀ (s : State) (i : Nat) (u : XUnit) (d1 d2 : Device), Current i u s.dev d1 →
    (d1.streamCheck u = (.drop, d2) → exec (unitCommand i u) s = .next { s with dev := d2 }) ∧
    (d1.streamCheck u = (.full, d2) → Completes (unitCommand i u) s (SendFrame d2)) ∧
    (∀ ce, d1.streamCheck u = (.accept ce, d2) → u.mir = true → d2.isShadow u.dstPart = false ∨ u.kind ≠ .put →
      Completes (unitCommand i u) s (Errs (pgTransportP u.dstPart) errAccess d2)))

/-- The window of a destination stream. The first unit of a stream opens it; a unit ahead of the highest number moves it on; one behind
it that has been seen, or lies out of the window, is not accepted again: a unit accepted once is refused when it comes twice in a
row. -/
def StreamWindowClauses : Prop :=
  (∀ (d d2 d3 : Device) (u : XUnit) (b : Bool) (v : StreamVerdict), Map.wf none d.tr.dst = true →
    d.streamCheck u = (.accept b, d2) → d2.streamCheck u = (v, d3) → v = .drop) ∧
  (∀ (d : Device) (u : XUnit), d.tr.dstIdx u = none → d.tr.dst.length < 16384 → ∃ b d2, d.streamCheck u = (.accept b, d2)) ∧
  (∀ (d : Device) (u : XUnit), d.tr.dstIdx u = none → 16384 ≤ d.tr.dst.length →
    d.streamCheck u = (.full, { d with tr := { d.tr with streamFull := satInc d.tr.streamFull } })) ∧
  (∀ (d : Device) (u : XUnit) (b : Bool) (d2 : Device), d.streamCheck u = (.accept b, d2) → (b = true → u.ce = true) ∧
    d2 = { d with tr := { d.tr with dst := d2.tr.dst } })

/-- What a unit meets before its own effect, and the window of its stream. -/
def Obligations.UnitChecks : Prop := UnitsAreCheckedClauses ∧ StreamWindowClauses

/-- PUTs. One into DRAM writes its bytes, adds 1 to its counter, and is acknowledged when it asks to be; what it wrote reads back, and
no other line changes. One into array memory writes its words. One from a host-mode peer into a register page is two register writes,
the low word first. One that a check refuses writes nothing, and drops the words staged of the request entries it was for. -/
def Obligations.Puts : Prop :=
  (∀ (s : State) (i c o : Nat) (u : XUnit) (echo : Bool) (d2 : Device), u.kind = .put → u.mir = false →
    Accepted i u echo s.dev d2 → d2.putStatus i u = 0 → d2.place u.addr = .dram c o →
    (d2.part u.dstPart).shadow.role = 0 → d2.flt.upsets = [] →
    let d3 := (d2.writeBytes u.dstPart u.addr u.payload).updCc u.dstPart u.dstCc Cc.bump
    let d4 := if u.ackReq then d3.answer i u { kind := .cell, body := .ack u.seq 0 echo u.ackCc } else d3
    exec (.put i u) s = .next { s with dev := d4 }) ∧
  (∀ (d : Device) (k a c o : Nat) (bs : List Byte), d.place a = .dram c o → d.keyOf k ≠ none → d.flt.upsets = [] →
    o + bs.length ≤ (d.chan c).area →
    (∀ idx, o / 64 ≤ idx → idx < (o + bs.length + 63) / 64 → d.imageLine c idx = false) →
    ((d.writeBytes k a bs).readBytes k a bs.length).1 = bs ∧
    (∀ idx, idx < o / 64 ∨ (o + bs.length + 63) / 64 ≤ idx →
      Map.get none ((d.writeBytes k a bs).chan c).lines idx = Map.get none (d.chan c).lines idx) ∧
    (∀ c', c' ≠ c → (d.writeBytes k a bs).chan c' = d.chan c') ∧ (d.writeBytes k a bs).tiles = d.tiles) ∧
  (∀ (s : State) (i t o : Nat) (u : XUnit) (echo : Bool) (d2 : Device), u.kind = .put → u.mir = false →
    Accepted i u echo s.dev d2 → d2.putStatus i u = 0 → d2.place u.addr = .tile t o → u.len = u.payload.length →
    u.len ≤ 4096 → (d2.part u.dstPart).shadow.role = 0 → d2.clearing t = false → Completes (.put i u) s fun e =>
      (∀ j, j < u.len / 8 →
        (e.tile t).word (tileWord (o + 8 * j)) = BitVec.ofNat 64 (leNat ((u.payload.drop (8 * j)).take 8))) ∧
      e.chans = (d2.settleAll t).chans) ∧
  (∀ (s : State) (i h n o : Nat) (u : XUnit) (echo : Bool) (d2 d3 : Device), u.kind = .put → u.mir = false → u.ackReq = false →
    Accepted i u echo s.dev d2 → d2.putStatus i u = 0 → d2.place u.addr = .page n o → d2.hostMode i = true → h = i →
    (n = pgSecurity → o ≠ 0xF0) →
    d3 = (d2.writeReg (.host h) n o (BitVec.ofNat 32 (leNat (u.payload.take 4)))).writeReg (.host h) n (o + 4)
      (BitVec.ofNat 32 (leNat ((u.payload.drop 4).take 4))) → (d3.part u.dstPart).shadow.role = 0 →
    exec (.put i u) s = .next { s with dev := d3.updCc u.dstPart u.dstCc Cc.bump }) ∧
  (∀ (s : State) (i h : Nat) (u : XUnit) (echo : Bool) (d2 d3 : Device), u.kind = .put → u.mir = false → u.ackReq = false →
    Accepted i u echo s.dev d2 → d2.putStatus i u = 0 → d2.place u.addr = .page pgSecurity 0xF0 → d2.hostMode i = true → h = i →
    d3 = d2.scopeWrite (d2.carriesDevice (.host h)) [(24, scopeField (BitVec.ofNat 32 (leNat (u.payload.take 4)))),
      (25, scopeField (BitVec.ofNat 32 (leNat ((u.payload.drop 4).take 4))))] → (d3.part u.dstPart).shadow.role = 0 →
    exec (.put i u) s = .next { s with dev := d3.updCc u.dstPart u.dstCc Cc.bump }) ∧
  (∀ (s : State) (i : Nat) (u : XUnit) (echo : Bool) (d2 : Device), u.kind = .put → u.mir = false →
    Accepted i u echo s.dev d2 → d2.putStatus i u ≠ 0 → Completes (.put i u) s fun e =>
    FlagFrame { d2 with starter := { d2.starter with staged := e.starter.staged } } e ∧
    ((∀ o, d2.place u.addr ≠ .reqtab o) → e.starter.staged = d2.starter.staged))

/-- GETs and their responses. A GET that passes its checks adds 1 to its counter and is answered by a GETRSP with the bytes; one that a
check refuses is answered with the status of the check and reads nothing. A GETRSP writes what it carries and adds 1 to the
requester's counter; one with a status settles the counter by it and writes nothing; one out of range settles it by RANGE, one whose
target refuses it by DENIED, and neither writes. -/
def Obligations.GetsAndResponses : Prop :=
  (∀ (s : State) (i : Nat) (u : XUnit) (echo : Bool) (d2 d3 : Device) (bs : List Byte), u.kind = .get →
    Accepted i u echo s.dev d2 → d2.getStatus i u = 0 → d2.getRead u = (some bs, d3) →
    let d4 := (d3.updCc u.dstPart u.dstCc Cc.bump).answer i u
      { kind := .getrsp, addr := u.raddr, len := u.len, dstCc := u.ackCc, status := 0, payload := bs }
    exec (.get i u) s = .next { s with dev := d4 }) ∧
  (∀ (s : State) (i : Nat) (u : XUnit) (echo : Bool) (d2 : Device), u.kind = .get → Accepted i u echo s.dev d2 →
    d2.getStatus i u ≠ 0 → Completes (.get i u) s fun e => FlagFrame d2 e ∧
      (d2.getStatus i u ≠ 2 → d2.getStatus i u ≠ 3 → e = d2.answer i u
        { kind := .getrsp, addr := u.raddr, len := u.len, dstCc := u.ackCc, status := d2.getStatus i u })) ∧
  (∀ (s : State) (i c o : Nat) (u : XUnit) (echo : Bool) (d2 : Device), u.kind = .getrsp → Accepted i u echo s.dev d2 →
    u.status = 0 → d2.place u.addr = .dram c o → d2.inRange u.dstPart u.addr u.len = true →
    d2.writeDenied none u.srcId i u.dstPart u.addr u.payload = false → d2.flt.upsets = [] →
    (d2.part u.dstPart).shadow.role = 0 → (u.dstCc = 63 → d2.servingPart u.dstPart = false) →
    exec (.getrsp i u) s = .next { s with dev := (d2.writeBytes u.dstPart u.addr u.payload).updCc u.dstPart u.dstCc Cc.bump }) ∧
  (∀ (s : State) (i : Nat) (u : XUnit) (echo : Bool) (d2 : Device), u.kind = .getrsp → Accepted i u echo s.dev d2 →
    u.status ≠ 0 → exec (.getrsp i u) s = .next { s with dev := d2.updCc u.dstPart u.dstCc (Cc.settle u.status) }) ∧
  (∀ (s : State) (i : Nat) (u : XUnit) (echo : Bool) (d2 : Device), u.kind = .getrsp → Accepted i u echo s.dev d2 →
    u.status = 0 → (∀ n o, d2.place u.addr ≠ .page n o) →
    (d2.inRange u.dstPart u.addr u.len = false → Completes (.getrsp i u) s (FlagFrame (d2.updCc u.dstPart u.dstCc (Cc.settle 2)))) ∧
    (d2.inRange u.dstPart u.addr u.len = true → d2.writeDenied none u.srcId i u.dstPart u.addr u.payload = true →
      Completes (.getrsp i u) s fun e => FlagFrame { d2.updCc u.dstPart u.dstCc (Cc.settle 3) with
        starter := { d2.starter with staged := e.starter.staged } } e))

/-- The rate of source stream `j` falls to 3/4 and not below R_MIN; nothing else of the stream but its bucket changes. -/
def Slower (j : Nat) (t : SrcStream) (d e : Device) : Prop :=
  ∃ t', Map.get none e.tr.src j = some t' ∧ t'.rate = max (t.rate * 3 / 4) (d.tr.rMin : Rat) ∧ t'.next = t.next ∧
    t'.quietFrom = d.clk.now ∧ t'.dstId = t.dstId ∧ t'.dstPart = t.dstPart ∧ t'.cls = t.cls ∧
    (∀ n, n ≠ j → Map.get none e.tr.src n = Map.get none d.tr.src n) ∧ e = { d with tr := { d.tr with src := e.tr.src } }

/-- ACK and CNP. An ACK settles the source's counter by its status, and with ECHO lowers the rate of the request stream; a CNP lowers
the rate of the stream it names; a RECOVER period without an echo raises a request stream's rate by R_STEP, up to R_MAX. -/
def CongestionControlClauses : Prop :=
  (∀ (s : State) (i : Nat) (u : XUnit) (d2 : Device) (q : W32) (st cc : Nat) (b : Bool), u.kind = .cell →
    u.body = .ack q st false cc → Accepted i u b s.dev d2 →
    exec (.ack i u) s = .next { s with dev := d2.updCc u.dstPart cc (Cc.settle st) }) ∧
  (∀ (s : State) (i j : Nat) (u : XUnit) (d2 : Device) (q : W32) (st cc : Nat) (b : Bool) (t : SrcStream), u.kind = .cell →
    u.body = .ack q st true cc → Accepted i u b s.dev d2 →
    d2.tr.srcIdx { kind := .put, dstId := u.srcId, dstPart := u.srcPart } = some j → Map.get none d2.tr.src j = some t →
    Completes (.ack i u) s (Slower j t (d2.updCc u.dstPart cc (Cc.settle st)))) ∧
  (∀ (s : State) (i j : Nat) (u : XUnit) (d2 : Device) (q : W32) (cls : Nat) (b : Bool) (t : SrcStream), u.kind = .cell →
    u.body = .cnp q cls → Accepted i u b s.dev d2 →
    d2.tr.srcIdx { kind := if cls = 0 then .put else .getrsp, dstId := u.srcId, dstPart := u.srcPart } = some j →
    Map.get none d2.tr.src j = some t → Completes (.cnp i u) s (Slower j t d2)) ∧
  (∀ (s : State) (j : Nat) (t : SrcStream), Map.get none s.dev.tr.src j = some t → t.cls = 0 →
    t.quietFrom + us s.dev.tr.recover ≤ s.dev.clk.now → Completes (.rateRecover j) s fun e =>
      ∃ t', Map.get none e.tr.src j = some t' ∧ t'.rate = min (t.rate + (s.dev.tr.rStep : Rat)) (s.dev.tr.rMax : Rat) ∧
        t'.quietFrom = s.dev.clk.now ∧ t'.next = t.next ∧ (∀ n, n ≠ j → Map.get none e.tr.src n = Map.get none s.dev.tr.src n) ∧
        e = { s.dev with tr := { s.dev.tr with src := e.tr.src } }) ∧
  (∀ (s : State) (j : Nat) (t : SrcStream), Map.get none s.dev.tr.src j = some t →
    s.dev.clk.now < t.quietFrom + us s.dev.tr.recover → exec (.rateRecover j) s = .next s)

/-- Cells of serving. A CANCEL of a queued request takes it out of its queue; a CANCEL_RESULT changes nothing further. A SLOT_SET
or STEP_DONE outside a follower's boundary is discarded and counted; within it, SLOT_SET seats the request it names or frees
the slot, in the slot tables of every BME too, and STEP_DONE states the count. MIRROR_DONE states what a shadow's boundary
waits for: the units its source sent before it. Model's choice, not the spec's: the order of queue visits and deferred cancels
(log entry 44). -/
def Obligations.ServingCells : Prop :=
  (∀ (s : State) (i r : Nat) (tag : W16) (u : XUnit) (b : Bool) (d2 : Device), u.kind = .cell → u.body = .cancel r tag →
    Accepted i u b s.dev d2 → d2.flt.upsets = [] → (d2.req r).state = 1 → (d2.req r).tag = tag.toNat →
    d2.starter.cancels = [] → (d2.part (d2.req r).part).serving.smode ≠ 2 →
    (d2.part (d2.req r).part).serving.boundary = none → Completes (.cancel i u) s fun e =>
      e.req r = ReqEntry.setState 5 5 (d2.req r) ∧ (∀ q, r ∉ Map.get [] e.starter.queues q) ∧
      e = { d2 with starter := e.starter, tr := e.tr, ports := e.ports, parts := e.parts, freeCtr := e.freeCtr } ∧
      ∀ k, SendPart (d2.part k) (e.part k)) ∧
  (∀ (s : State) (i r res : Nat) (tag : W16) (u : XUnit) (b : Bool) (d2 : Device), u.kind = .cell →
    u.body = .cancelResult r tag res → Accepted i u b s.dev d2 → exec (.cancelResult i u) s = .next { s with dev := d2 }) ∧
  (∀ (s : State) (i : Nat) (u : XUnit) (b : Bool) (d2 : Device) (p slot r q st nin step n : Nat) (occ : Bool), u.kind = .cell →
    Accepted i u b s.dev d2 →
    (d2.part u.dstPart).serving.smode ≠ 2 ∨ (d2.part u.dstPart).serving.boundary = none ∨
      step ≠ (d2.part u.dstPart).serving.stepCnt.toNat % 2 ^ 32 →
    (u.body = .slotSet p slot r q occ st nin step → Completes (.slotSet i u) s (Errs (pgStarterP u.dstPart) 0x0131 d2)) ∧
    (u.body = .stepDone p n step → Completes (.stepDone i u) s (Errs (pgStarterP u.dstPart) 0x0131 d2))) ∧
  (∀ (s : State) (i : Nat) (u : XUnit) (b : Bool) (d2 : Device) (p slot r q st nin step : Nat) (occ : Bool), u.kind = .cell →
    Accepted i u b s.dev d2 → d2.flt.upsets = [] → u.body = .slotSet p slot r q occ st nin step → slot < 8192 → st < 16 →
    (d2.part u.dstPart).serving.smode = 2 → (d2.part u.dstPart).serving.boundary ≠ none →
    step = (d2.part u.dstPart).serving.stepCnt.toNat % 2 ^ 32 → (d2.part u.dstPart).serving.expected = none →
    Completes (.slotSet i u) s fun e => (e.part u.dstPart).serving.applied = (d2.part u.dstPart).serving.applied + 1 ∧
      (occ = true → (e.req r).state = 2 ∧ (e.req r).slot = slot ∧
        (Map.get {} (e.part u.dstPart).serving.slotTab slot).req = some r ∧
        (Map.get {} (e.part u.dstPart).serving.slotTab slot).qpos = q) ∧
      (occ = false → (e.req r).state = st ∧
        (∀ x, (Map.get {} (d2.part u.dstPart).serving.slotTab slot).req = some x → x = r →
          (Map.get {} (e.part u.dstPart).serving.slotTab slot).req = none) ∧
        (∀ x, (Map.get {} (d2.part u.dstPart).serving.slotTab slot).req = some x → x ≠ r →
          (Map.get {} (e.part u.dstPart).serving.slotTab slot).req = some x)) ∧
      (∀ j, j ≠ slot → Map.get {} (e.part u.dstPart).serving.slotTab j = Map.get {} (d2.part u.dstPart).serving.slotTab j) ∧
      (occ = true ∨ (∀ x, (Map.get {} (d2.part u.dstPart).serving.slotTab slot).req = some x → x = r) →
        ∀ c ∈ (d2.part u.dstPart).chanList, (Map.get {} (e.bme c).slots slot).empty = !occ)) ∧
  (∀ (s : State) (i : Nat) (u : XUnit) (b : Bool) (d2 : Device) (p n step : Nat), u.kind = .cell → Accepted i u b s.dev d2 →
    u.body = .stepDone p n step → (d2.part u.dstPart).serving.smode = 2 → (d2.part u.dstPart).serving.boundary ≠ none →
    step = (d2.part u.dstPart).serving.stepCnt.toNat % 2 ^ 32 → Completes (.stepDone i u) s fun e =>
      (n ≠ (d2.part u.dstPart).serving.applied → (e.part u.dstPart).serving =
        { (d2.part u.dstPart).serving with expected := some n }) ∧
      (n = (d2.part u.dstPart).serving.applied → (e.ccOf u.dstPart 63).count = 1 ∧ (e.part u.dstPart).serving.boundary = none)) ∧
  (∀ (s : State) (i n : Nat) (u : XUnit) (b : Bool) (d2 : Device) (step : W64), u.kind = .cell → Accepted i u b s.dev d2 →
    u.body = .mirrorDone step n →
    ((d2.part u.dstPart).shadow.role ≠ 2 → exec (.mirrorDone i u) s = .next { s with dev := d2 }) ∧
    ((d2.part u.dstPart).shadow.role = 2 → (d2.part u.dstPart).serving.boundary ≠ none →
      step = (d2.part u.dstPart).serving.stepCnt → (d2.part u.dstPart).serving.mirrorExpect = [] →
      Completes (.mirrorDone i u) s fun e =>
        (mirroredOf (d2.part u.dstPart).serving.mirrored u.srcId u.seq n ≠ n → (e.part u.dstPart).serving =
          { (d2.part u.dstPart).serving with mirrorExpect := [((step, n), u.srcId, u.seq)] }) ∧
        (mirroredOf (d2.part u.dstPart).serving.mirrored u.srcId u.seq n = n → (e.ccOf u.dstPart 63).count = 1 ∧
          (e.part u.dstPart).serving.boundary = none ∧ (e.part u.dstPart).serving.mirrorExpect = [])))

/-- Heats and photo finishes. A HEAT_ABORT of the run's heat aborts a running partition with cause 0x04 and is passed on, by a member that
has not begun too; one of another heat, or for a run that is no heat's, is counted. A digest of another heat changes nothing; at the shadow, one equal to its own counts a match, and one that differs a miss
that ends qualification. At the end of a plan lap a primary keeps its digest and sends it. -/
def Obligations.HeatsAndPhotoFinish : Prop :=
  (∀ (s : State) (i : Nat) (u : XUnit) (b : Bool) (d2 : Device) (no : W32) (pc : W16) (ca : Byte), u.kind = .cell →
    Accepted i u b s.dev d2 → u.body = .heatAbort no pc ca →
    ((d2.part u.dstPart).run.heat = false ∨ no ≠ (d2.part u.dstPart).run.heatNo → exec (.heatAbort i u) s = .next { s with dev := d2.updPart u.dstPart fun p =>
      { p with heatDiscard := satInc p.heatDiscard } }) ∧
    ((d2.part u.dstPart).run.heat = true → no = (d2.part u.dstPart).run.heatNo → (d2.part u.dstPart).run.phase ≠ .running →
      (d2.part u.dstPart).run.phase ≠ .starting → exec (.heatAbort i u) s = .next { s with dev := d2 }) ∧
    ((d2.part u.dstPart).run.heat = true → no = (d2.part u.dstPart).run.heatNo → (d2.part u.dstPart).run.phase = .starting →
      (d2.part u.dstPart).run.abort = none → (d2.part u.dstPart).run.relayed = false → Completes (.heatAbort i u) s fun e =>
        (e.part u.dstPart).run = { (d2.part u.dstPart).run with relayed := true } ∧
        e = { d2 with parts := e.parts, tr := e.tr, ports := e.ports, freeCtr := e.freeCtr }) ∧
    ((d2.part u.dstPart).run.heat = true → no = (d2.part u.dstPart).run.heatNo → (d2.part u.dstPart).run.phase = .running →
      (d2.part u.dstPart).run.abort = none → (d2.part u.dstPart).run.relayed = false →
      Completes (.heatAbort i u) s fun e => (e.part u.dstPart).run.phase = .aborted ∧
        (∃ a, (e.part u.dstPart).run.abort = some a ∧ a.cause = 4 ∧ a.cyc = d2.cyc) ∧
        (∀ p ∈ d2.pacersOf u.dstPart, (e.pacer p).state.active = false) ∧ e.tiles = d2.tiles)) ∧
  (∀ (s : State) (i : Nat) (u : XUnit) (b : Bool) (d2 : Device) (no lap : W32) (ld : W64), u.kind = .cell →
    Accepted i u b s.dev d2 → u.body = .pfDigest no lap ld →
    ((d2.part u.dstPart).shadow.role ≠ 2 ∨ no ≠ (d2.part u.dstPart).run.heatNo →
      exec (.pfDigest i u) s = .next { s with dev := d2 }) ∧
    (∀ own bib, (d2.part u.dstPart).shadow.role = 2 → no = (d2.part u.dstPart).run.heatNo →
      ((d2.part u.dstPart).shadow.own.find? fun x => x.1 == lap.toNat) = some (lap.toNat, own, bib) →
      Completes (.pfDigest i u) s fun e =>
        (own = ld → (e.part u.dstPart).shadow.matches_ = satInc (d2.part u.dstPart).shadow.matches_ ∧
          (e.part u.dstPart).shadow.run = (d2.part u.dstPart).shadow.run + 1 ∧
          (e.part u.dstPart).shadow.misses = (d2.part u.dstPart).shadow.misses) ∧
        (own ≠ ld → (e.part u.dstPart).shadow.misses = satInc (d2.part u.dstPart).shadow.misses ∧
          (e.part u.dstPart).shadow.run = 0 ∧ (e.part u.dstPart).shadow.qualified = false ∧
          ((d2.part u.dstPart).shadow.firstLap = 0xFFFFFFFF → (e.part u.dstPart).shadow.firstLap = lap ∧
            (e.part u.dstPart).shadow.firstBib = bib) ∧
          ((d2.part u.dstPart).shadow.firstLap ≠ 0xFFFFFFFF →
            (e.part u.dstPart).shadow.firstLap = (d2.part u.dstPart).shadow.firstLap)))) ∧
  (∀ (s : State) (k : Nat), k < 8 → (s.dev.part k).shadow.role = 1 → s.dev.running k = true → s.dev.planLapOver k = true →
    Completes (.planLapEnd k) s fun e =>
      (e.part k).shadow = { (s.dev.part k).shadow with
        planLap := (s.dev.part k).shadow.planLap + 1
        digests := (s.dev.part k).shadow.digests ++ [s.dev.lapDigest k (s.dev.part k).shadow.planLap] } ∧
      e = { s.dev with parts := e.parts, tr := e.tr, ports := e.ports }) ∧
  (∀ (s : State) (k : Nat), (s.dev.part k).shadow.role = 0 ∨ s.dev.running k = false ∨ s.dev.planLapOver k = false →
    exec (.planLapEnd k) s = .next s)

/-- The upkeep of the transport. MY_ID is written only while no pacer runs a plan, and clears both stream tables; ROUTE_DATA writes
the entry that ROUTE_IDX names; CC_CLR clears a partition's counters while its pacers run no plan. An idle stream entry is freed
after 4 × LIFETIME at the source and 2 × LIFETIME at the destination; a waiting unit that has become stale is dropped and counted. -/
def TransportUpkeepClauses : Prop :=
  (∀ (s : State) (v : W16), s.dev.quiet = true → exec (.myIdWrite v) s =
    .next { s with dev := { s.dev with tr := { s.dev.tr with myId := v, src := [], dst := [] } } }) ∧
  (∀ (s : State) (v : W16), s.dev.quiet = false → Completes (.myIdWrite v) s (Errs pgTransport errState s.dev)) ∧
  (∀ (s : State) (v : W16), isPort (v.toNat % 32) = true → isPort (v.toNat / 32 % 32) = true →
    Completes (.routeDataWrite v) s fun e => Map.get 0 e.tr.routes s.dev.tr.routeIdx = v &&& 0xC3FF ∧
      (∀ j, j ≠ s.dev.tr.routeIdx → Map.get 0 e.tr.routes j = Map.get 0 s.dev.tr.routes j) ∧
      e = { s.dev with tr := e.tr, ports := e.ports, parts := e.parts } ∧
      ∀ k, e.part k = { s.dev.part k with cc := (e.part k).cc, ccOld := (e.part k).ccOld, qlists := (e.part k).qlists }) ∧
  (∀ (s : State) (k : Nat), k < 8 → s.dev.partQuiet k = true → Completes (.ccClr k) s fun e =>
    e.part k = { s.dev.part k with cc := [] } ∧ e = { s.dev with parts := e.parts } ∧ ∀ j, j ≠ k → e.part j = s.dev.part j) ∧
  (∀ (s : State) (k : Nat), k < 8 → s.dev.partQuiet k = false →
    Completes (.ccClr k) s (Errs (pgTransportP k) errState s.dev)) ∧
  (∀ (s : State) (j : Nat) (t : SrcStream), Map.get none s.dev.tr.src j = some t → s.dev.tr.unnumbered = [] →
    (t.lastUse + 4 * s.dev.tr.lifeTicks ≤ s.dev.clk.now → exec (.streamEntryExpiry true j) s =
      .next { s with dev := { s.dev with tr := { s.dev.tr with src := Map.set none s.dev.tr.src j none } } }) ∧
    (s.dev.clk.now < t.lastUse + 4 * s.dev.tr.lifeTicks → exec (.streamEntryExpiry true j) s = .next s)) ∧
  (∀ (s : State) (j : Nat) (t : DstStream), Map.get none s.dev.tr.dst j = some t →
    (t.lastUse + 2 * s.dev.tr.lifeTicks ≤ s.dev.clk.now → exec (.streamEntryExpiry false j) s =
      .next { s with dev := { s.dev with tr := { s.dev.tr with dst := Map.set none s.dev.tr.dst j none } } }) ∧
    (s.dev.clk.now < t.lastUse + 2 * s.dev.tr.lifeTicks → exec (.streamEntryExpiry false j) s = .next s)) ∧
  (∀ (s : State) (i j : Nat) (u : XUnit), s.dev.tr.waiting[j]? = some (i, u) → s.dev.stale u = true → u.srcId ≠ s.dev.tr.myId →
    exec (.unitStale 31 j) s = .next { s with dev := { s.dev with tr := { s.dev.tr with
      waiting := s.dev.tr.waiting.eraseIdx j, ageDiscard := satInc s.dev.tr.ageDiscard } } }) ∧
  (∀ (s : State) (i j : Nat) (u : XUnit), isPort i = true →
    ((s.dev.port i).resent ++ (s.dev.port i).egReq ++ (s.dev.port i).egRsp ++ (s.dev.port i).planned)[j]? = some u →
    s.dev.stale u = true → u.srcId ≠ s.dev.tr.myId → exec (.unitStale i j) s =
      .next { s with dev := { s.dev.updPort i (Port.remove u) with
        tr := { s.dev.tr with ageDiscard := satInc s.dev.tr.ageDiscard } } }) ∧
  (∀ (s : State) (i j : Nat) (u : XUnit), isPort i = true →
    ((s.dev.port i).resent ++ (s.dev.port i).egReq ++ (s.dev.port i).egRsp ++ (s.dev.port i).planned)[j]? = some u →
    s.dev.stale u = false →
    exec (.unitStale i j) s = .next s)

/-- Rates of streams, and the upkeep of the transport. -/
def Obligations.CongestionAndUpkeep : Prop := CongestionControlClauses ∧ TransportUpkeepClauses

/-! ### Ports: training and timers -/

/-- Nothing but port `i` differs. -/
def OnlyPort (i : Nat) (d e : Device) : Prop := e = { d with ports := e.ports } ∧ ∀ j, j ≠ i → e.port j = d.port j

/-- Port `i` went DOWN with a cause: no frame and no block of its own is left, the marshal is told, and one LINK_DOWN record that
aborts nothing is written. -/
def GoesDown (i cause : Nat) (d e : Device) : Prop :=
  (e.port i).link.state = .down ∧ (e.port i).link.downCause = cause ∧ (e.port i).inFlight = [] ∧
    (e.port i).cnt.linkDown = satInc (d.port i).cnt.linkDown ∧
    NewestRecord d e (fun r => r.code = 0x0302 ∧ r.unit = 2384 + i ∧ r.action = 0 ∧ r.specific = leBytes 1 cause) ∧
    (∀ k, (e.part k).run = (d.part k).run) ∧ e.pacers = d.pacers ∧ e.tiles = d.tiles ∧ e.chans = d.chans

/-- Enabling a port and its training steps. ENABLE takes a DISABLED port whose branch is ungated to DETECT and a port that is not in
EXERCISE to DISABLED with its queues empty; a signal on four receive lanes begins EQUALIZE; four ready lanes each way, those of the transmitter as the peer's
control words with a good check tell them, begin ALIGN with the first four lanes mapped. A state that is not left in its time returns to DETECT, EQUALIZE for the third time in a row to DOWN with cause TRAIN. -/
def PortTrainingClauses : Prop :=
  (∀ (s : State) (i : Nat), isPort i = true → (s.dev.port i).link.state = .disabled → s.dev.portClocked i = true →
    Completes (.portEnable i true) s fun e =>
    e.port i = { s.dev.port i with
      enable := true, link := { (s.dev.port i).link.restart .detect s.dev.clk.now with eqFails := 0 } } ∧ OnlyPort i s.dev e) ∧
  (∀ (s : State) (i : Nat) (v : Bool), isPort i = true → (s.dev.port i).link.state ≠ .exercise →
    (if v then (s.dev.port i).link.state ≠ .disabled ∨ s.dev.portClocked i = false else (s.dev.port i).link.state = .disabled) →
    exec (.portEnable i v) s = .next { s with dev := s.dev.updPort i fun p => { p with enable := v } }) ∧
  (∀ (s : State) (i : Nat), isPort i = true → (s.dev.port i).link.state ≠ .exercise → (s.dev.port i).link.state ≠ .disabled →
    Map.wf {} (s.dev.port i).windows = true → Completes (.portEnable i false) s fun e => (e.port i).link.state = .disabled ∧ (e.port i).enable = false ∧
      (e.port i).egReq = [] ∧ (e.port i).egRsp = [] ∧ (e.port i).resent = [] ∧ (e.port i).planned = [] ∧
      (∀ w, (Map.get {} (e.port i).windows w).full = false ∧
        (Map.get {} (e.port i).windows w).owner = (Map.get {} (s.dev.port i).windows w).owner)) ∧
  (∀ (s : State) (i : Nat) (v : Bool), isPort i = true → (s.dev.port i).link.state = .exercise →
    Completes (.portEnable i v) s (Errs (pgPort i) errState s.dev)) ∧
  (∀ (s : State) (i : Nat) (l : BitVec 5), isPort i = true → (s.dev.port i).link.state = .detect → 4 ≤ (lanesOf l).length →
    exec (.peerSignalDetect i l) s = .next { s with dev := s.dev.updLink i fun l =>
      { l with state := .equalize, enteredAt := s.dev.clk.now } }) ∧
  (∀ (s : State) (i : Nat) (l : BitVec 5), (s.dev.port i).link.state ≠ .detect ∨ (lanesOf l).length < 4 →
    exec (.peerSignalDetect i l) s = .next s) ∧
  (∀ (s : State) (i : Nat) (r q t : BitVec 5) (words : List (BitVec 128)), isPort i = true → (s.dev.port i).link.state = .equalize →
    t = wordLanes words 8 → 4 ≤ (lanesOf r).length → 4 ≤ (lanesOf t).length → Completes (.equalizeDone i r q words) s fun e =>
      (e.port i).link.state = .align ∧ (e.port i).link.rxMap = (lanesOf r).take 4 ∧ (e.port i).link.txMap = (lanesOf t).take 4 ∧
      (e.port i).link.rxUsable = r ∧ (e.port i).link.txUsable = t ∧ (e.port i).link.alignGood = 0 ∧
      (e.port i).link.precode = (if (s.dev.port i).precodeEn then wordLanes words 9 else 0) ∧
      (e.port i).link.rxPrecode = (if (s.dev.port i).precodeEn then q else 0) ∧ OnlyPort i s.dev e) ∧
  (∀ (s : State) (i : Nat) (r q : BitVec 5) (words : List (BitVec 128)), (s.dev.port i).link.state ≠ .equalize ∨
    (lanesOf r).length < 4 ∨ (lanesOf (wordLanes words 8)).length < 4 → exec (.equalizeDone i r q words) s = .next s) ∧
  (∀ (s : State) (i : Nat), isPort i = true → s.dev.lasted i .equalize (ms 20) = true → (s.dev.port i).link.eqFails < 2 →
    Completes (.equalizeTimeout i) s fun e => (e.port i).link.state = .detect ∧
      (e.port i).link.eqFails = (s.dev.port i).link.eqFails + 1 ∧ OnlyPort i s.dev e) ∧
  (∀ (s : State) (i : Nat), isPort i = true → s.dev.lasted i .equalize (ms 20) = true → 2 ≤ (s.dev.port i).link.eqFails →
    Completes (.equalizeTimeout i) s (GoesDown i 1 s.dev)) ∧
  (∀ (s : State) (i : Nat) (c : Instr) (st : LinkState) (t : Nat), isPort i = true →
    (c, st, t) ∈ [(Instr.alignTimeout i, LinkState.align, ms 1), (.identifyTimeout i, .identify, us 100),
      (.initTimeout i, .init, us 100)] →
    (s.dev.lasted i st t = true →
      exec c s = .next { s with dev := s.dev.updLink i fun l => l.restart .detect s.dev.clk.now }) ∧
    (s.dev.lasted i st t = false → exec c s = .next s)) ∧
  (∀ (s : State) (i : Nat), isPort i = true → (s.dev.port i).autoRetry = true → s.dev.lasted i .down (ms 1) = true →
    exec (.autoRetry i) s = .next { s with dev := s.dev.updLink i fun l => l.restart .detect s.dev.clk.now }) ∧
  (∀ (s : State) (i : Nat), (s.dev.port i).autoRetry = false ∨ s.dev.lasted i .down (ms 1) = false →
    exec (.autoRetry i) s = .next s)

/-- Keep-alive, the replay timer and resets. A port without an accepted KA for LINK_DOWN_TO goes DOWN with cause 3, unless the request
for a lane fault stands; the replay timer begins a replay at UNA; every 1 µs a KA with the port's limits is the next control block,
unless it is withheld, and a period without an accepted one is counted. A port reset empties the queues and window slots and keeps their OWNER; a tile reset zeroes the tile, its array
in the next 6,144 cycles, and is refused while a pacer of its partition is not IDLE and ignored while another runs; QUIESCE is a bit of port and channel pages. -/
def PortTimersAndResetsClauses : Prop :=
  (∀ (s : State) (i : Nat), isPort i = true → (s.dev.port i).link.state = .active →
    (∀ r ∈ (s.dev.port i).link.reqs, r.fault = false) → ((s.dev.port i).link.lastKa + us (s.dev.port i).linkDownTo ≤ s.dev.clk.now →
      Completes (.keepaliveTimeout i) s (GoesDown i 3 s.dev)) ∧
    (s.dev.clk.now < (s.dev.port i).link.lastKa + us (s.dev.port i).linkDownTo → exec (.keepaliveTimeout i) s = .next s)) ∧
  (∀ (s : State) (i : Nat), (∃ r ∈ (s.dev.port i).link.reqs, r.fault = true) →
    exec (.keepaliveTimeout i) s = .next s) ∧
  (∀ (s : State) (i : Nat), isPort i = true → (s.dev.port i).link.state = .active → 0 < (s.dev.port i).link.outstanding →
    (s.dev.port i).link.timerAt + us (s.dev.port i).replayTo ≤ s.dev.clk.now → Completes (.replayTimeout i) s fun e =>
      (e.port i).link.replay = some (s.dev.port i).link.una ∧ (e.port i).link.una = (s.dev.port i).link.una ∧
      (e.port i).link.next = (s.dev.port i).link.next ∧ (e.port i).link.replayBuf = (s.dev.port i).link.replayBuf ∧
      (e.port i).cnt.replayTimer = satInc (s.dev.port i).cnt.replayTimer ∧ OnlyPort i s.dev e) ∧
  (∀ (s : State) (i : Nat), (s.dev.port i).link.outstanding = 0 → exec (.replayTimeout i) s = .next s) ∧
  (∀ (s : State) (i : Nat), isPort i = true → (s.dev.port i).link.state = .active ∨ (s.dev.port i).link.state = .init →
    s.dev.due (s.dev.port i).link.kaTick (us 1) = true → Completes (.kaSend i) s fun e => OnlyPort i s.dev e ∧
      (e.port i).cnt = { (s.dev.port i).cnt with
        kaMiss := if (s.dev.port i).link.kaTick.isSome && !(s.dev.port i).link.kaSeen then satInc (s.dev.port i).cnt.kaMiss
          else (s.dev.port i).cnt.kaMiss } ∧
      ((s.dev.port i).exr.kaHold = 0 → (e.port i).exr = (s.dev.port i).exr ∧ (e.port i).link = { (s.dev.port i).link with
        kaTick := some s.dev.clk.now, kaSeen := false, kaCnt := (s.dev.port i).link.kaCnt + 1
        ctl := .ka (s.dev.port i).limits.1 (s.dev.port i).limits.2.1 (s.dev.port i).limits.2.2
          (s.dev.port i).link.kaCnt :: (s.dev.port i).link.ctl }) ∧
      (0 < (s.dev.port i).exr.kaHold → (e.port i).exr = { (s.dev.port i).exr with
          kaHold := (s.dev.port i).exr.kaHold - 1, drillEnd := s.dev.clk.now } ∧
        (e.port i).link = { (s.dev.port i).link with kaTick := some s.dev.clk.now, kaSeen := false })) ∧
  (∀ (s : State) (i : Nat), ((s.dev.port i).link.state ≠ .active ∧ (s.dev.port i).link.state ≠ .init) ∨
    s.dev.due (s.dev.port i).link.kaTick (us 1) = false → exec (.kaSend i) s = .next s) ∧
  (∀ (s : State) (i : Nat), isPort i = true → (s.dev.page (pgPort i)).inReset = false →
    Map.wf {} (s.dev.port i).windows = true → Completes (.portResetReq i) s fun e =>
    (e.port i).egReq = [] ∧ (e.port i).egRsp = [] ∧ (e.port i).resent = [] ∧ (e.port i).planned = [] ∧
    (e.port i).link.rxReq = [] ∧ (e.port i).link.rxRsp = [] ∧
    ((s.dev.port i).link.state ≠ .disabled → (e.port i).link.state = .down) ∧
    (∀ w, (Map.get {} (e.port i).windows w).full = false ∧
      (Map.get {} (e.port i).windows w).owner = (Map.get {} (s.dev.port i).windows w).owner)) ∧
  (∀ (s : State) (t : Nat), t < 208 → s.dev.clearing t = false → s.dev.flt.upsets = [] →
    (∀ k p, s.dev.ownerPart (s.dev.tile t).owner = some k → p ∈ s.dev.pacersOf k → (s.dev.pacer p).state = .idle) →
    Completes (.tileResetReq t) s fun e => (e.tile t).mem = [] ∧ (e.tile t).accs = [] ∧ (e.tile t).vregs = [] ∧
      (e.tile t).staging = [] ∧ (e.tile t).clearUntil = s.dev.cyc + 6144 ∧ (e.tile t).owner = (s.dev.tile t).owner ∧ e = { s.dev with tiles := e.tiles } ∧
      ∀ j, j ≠ t → e.tile j = s.dev.tile j) ∧
  (∀ (s : State) (t : Nat), s.dev.clearing t = true → exec (.tileResetReq t) s = .next s) ∧
  (∀ (s : State) (t k p : Nat), t < 208 → s.dev.clearing t = false →
    s.dev.ownerPart (s.dev.tile t).owner = some k → p ∈ s.dev.pacersOf k → (s.dev.pacer p).state ≠ .idle →
    Completes (.tileResetReq t) s (Errs (pgTile t) errState s.dev)) ∧
  (∀ (s : State) (n : Nat) (v : Bool), (pageType n = 0x0E ∨ pageType n = 0x0C →
      exec (.quiesce n v) s = .next { s with dev := s.dev.updPage n fun h => { h with quiesce := v } }) ∧
    (pageType n ≠ 0x0E → pageType n ≠ 0x0C → exec (.quiesce n v) s = .next s))

/-- The states of a port: training, timers and resets. Model's choice, not the spec's: the order in which a port reset works (log
entry 17). -/
def Obligations.PortStates : Prop := PortTrainingClauses ∧ PortTimersAndResetsClauses

/-! ### Ports: frames and control blocks -/

/-- Both codewords of a frame are decoded, with at most `n` corrections each. -/
def FecGood (n : Nat) (errs0 errs1 : List Nat) : Prop :=
  (errs0.length ≤ 15 ∧ errs0.length ≤ n) ∧ (errs1.length ≤ 15 ∧ errs1.length ≤ n)

/-- The receive lanes on which a frame that was decoded showed an error, one entry for each: those that carried a corrected symbol, and
spares with a PRBS31 error. -/
def frameLanes (lanes errs0 errs1 sp : List Nat) : List Nat :=
  (frameErrs errs0 errs1).filterMap (carrier lanes) ++ sp.filter fun x => !lanes.contains x

/-- Frames received. One with a codeword of more than 15 wrong symbols, or corrected beyond FEC_LIMIT, is counted and asks for a
replay; a good one counts its errors and those of spare lanes towards the rates of R287, and in ALIGN counts towards IDENTIFY. An acknowledgement inside the window moves UNA past it. A data block is accepted
in order only, into a granted slot of its pool; one ahead is discarded and asks for a replay, one behind is a duplicate; one without
a granted slot takes the port DOWN with cause PROTOCOL. -/
def FramesReceivedClauses : Prop :=
  (∀ (s : State) (i : Nat) (f : Frame) (errs0 errs1 sp : List Nat), (s.dev.port i).link.state.frames = false →
    exec (.frameReceive i f errs0 errs1 sp) s = .next s) ∧
  (∀ (s : State) (i : Nat) (f : Frame) (errs0 errs1 sp : List Nat), isPort i = true → (s.dev.port i).link.state.frames = true →
    ¬ FecGood (s.dev.port i).fecLimit errs0 errs1 → Completes (.frameReceive i f errs0 errs1 sp) s fun e => OnlyPort i s.dev e ∧
      e.port i = { s.dev.port i with
        cnt := { (s.dev.port i).cnt with frameBad := satInc (s.dev.port i).cnt.frameBad }
        link := ({ (s.dev.port i).link with nakPending := true, alignGood := 0 } : Link).rate s.dev.clk.now
          (sp.filter fun x => !(s.dev.port i).link.rxMap.contains x) }) ∧
  (∀ (s : State) (i n : Nat) (f : Frame) (errs0 errs1 sp : List Nat), isPort i = true → (s.dev.port i).link.state = .align →
    f.slots = List.replicate n .idle → (s.dev.port i).exr.check = false ∨ (f.resv = 0 ∧ f.ackV = false) →
    FecGood (s.dev.port i).fecLimit errs0 errs1 → Completes (.frameReceive i f errs0 errs1 sp) s fun e =>
      OnlyPort i s.dev e ∧ (e.port i).cnt.frameGood = satInc (s.dev.port i).cnt.frameGood ∧
      (e.port i).cnt.frameCorr =
        (if errs0 = [] ∧ errs1 = [] then (s.dev.port i).cnt.frameCorr else satInc (s.dev.port i).cnt.frameCorr) ∧
      (e.port i).link.laneErrs = ((s.dev.port i).link.rate s.dev.clk.now (frameLanes (s.dev.port i).link.rxMap errs0 errs1 sp)).laneErrs ∧
      ((s.dev.port i).link.alignGood < 63 → (e.port i).link = { (s.dev.port i).link with
        laneErrs := (e.port i).link.laneErrs, alignGood := (s.dev.port i).link.alignGood + 1 }) ∧
      (63 ≤ (s.dev.port i).link.alignGood → (e.port i).link = { (s.dev.port i).link with
        laneErrs := (e.port i).link.laneErrs, alignGood := 64, state := .identify
        enteredAt := s.dev.clk.now, lastKa := s.dev.clk.now })) ∧
  (∀ (s : State) (i n : Nat) (f : Frame) (errs0 errs1 sp : List Nat), isPort i = true → (s.dev.port i).link.state = .active →
    FecGood (s.dev.port i).fecLimit errs0 errs1 → f.resv = 0 → f.ackV = true → f.nak = false → f.crSel = 3 →
    f.slots = List.replicate n .idle → 1 ≤ (f.ackSeq + 1 - (s.dev.port i).link.una).toNat →
    (f.ackSeq + 1 - (s.dev.port i).link.una).toNat ≤ (s.dev.port i).link.outstanding →
    Completes (.frameReceive i f errs0 errs1 sp) s fun e => (e.port i).link.una = f.ackSeq + 1 ∧
      (e.port i).link.next = (s.dev.port i).link.next ∧ (e.port i).link.e = (s.dev.port i).link.e ∧
      (e.port i).link.replayBuf =
        (s.dev.port i).link.replayBuf.drop (f.ackSeq + 1 - (s.dev.port i).link.una).toNat ∧
      (f.ackSeq + 1 = (s.dev.port i).link.next → (e.port i).link.replay = none) ∧
      (e.port i).link.laneErrs =
        ((s.dev.port i).link.rate s.dev.clk.now (frameLanes (s.dev.port i).link.rxMap errs0 errs1 sp)).laneErrs ∧ OnlyPort i s.dev e) ∧
  (∀ (d : Device) (i cls : Nat) (sh rpl exr : Bool) (seq : W16) (pl : List Byte),
    1 ≤ (seq - (d.port i).link.e).toNat → (seq - (d.port i).link.e).toNat ≤ 2047 →
    ((d.dataBlock i cls sh rpl exr seq pl).port i).link = { (d.port i).link with nakPending := true } ∧
    ((d.dataBlock i cls sh rpl exr seq pl).port i).cnt.gapDiscard = satInc (d.port i).cnt.gapDiscard ∧
    OnlyPort i d (d.dataBlock i cls sh rpl exr seq pl)) ∧
  (∀ (d : Device) (i cls : Nat) (sh rpl exr : Bool) (seq : W16) (pl : List Byte),
    63488 ≤ (seq - (d.port i).link.e).toNat → d.dataBlock i cls sh rpl exr seq pl = d.updCnt i fun c =>
      { c with dupDiscard := satInc c.dupDiscard }) ∧
  (∀ (d : Device) (i cls : Nat) (sh rpl exr : Bool) (pl : List Byte), (d.port i).poolRoom cls sh = false →
    (d.port i).exr.check = false → (d.port i).link.state = .active →
    GoesDown i 7 d (d.dataBlock i cls sh rpl exr (d.port i).link.e pl)) ∧
  (∀ (d : Device) (i cls : Nat) (sh : Bool) (pl : List Byte), (d.port i).poolRoom cls sh = true → d.flt.upsets = [] →
    padBytes ((d.port i).link.rx cls ++ fitBytes 253 pl) = 0 → badHeader ((d.port i).link.rx cls ++ fitBytes 253 pl) = false →
    let e := d.dataBlock i cls sh false false (d.port i).link.e pl
    (e.port i).link.e = (d.port i).link.e + 1 ∧ (e.port i).link.rx cls = (d.port i).link.rx cls ++ fitBytes 253 pl ∧
      (e.port i).link.nakPending = false ∧
      (e.port i).link.pool = (d.port i).link.pool ++ [{ cls := cls, shared := sh, seq := (d.port i).link.e }] ∧
      OnlyPort i d e)

/-- What physical lane `x`, logical lane `j`, carries of a frame: the marker where one is due, its symbols with ten bits each, and
precoding where training agreed it. -/
def laneCarries (l : Link) (x j : Nat) (f : Frame) : List Level :=
  let marker := l.frameNo % 256 == 0
  let xs := (if marker then l.markerLevels j else []) ++
    ((laneSymbols l.txMap.length j (frameSymbols f)).map (pairLevels 5)).flatten
  if l.precode.getLsbD x then precode (if marker then 0 else Map.get 0 l.lastLevel x) xs else xs

/-- Frames sent. Every frame of a port that may send has five slots. An ACTIVE port with nothing to send sends idle slots under the
header of R272: the last accepted block, and one of its own limits in turn; each logical lane carries its share of the frame's symbols
as PAM4 levels. In DETECT and EQUALIZE every lane carries training frames of 4,096 UI, in EXERCISE under PRBS its pattern and under LOOP what its lane receives. A block of
a class is new only with credit and inside the window of 2,048 blocks: it takes the next sequence number and stays in the replay
buffer; one that waits for credit counts even where the other class sends. In
the slots reserved for a planned PUT the request class goes before everything but a KA block. -/
def FramesSentClauses : Prop :=
  (∀ (s : State) (i : Nat), (s.dev.port i).link.state = .disabled ∨ (s.dev.port i).link.state = .down ∨
    ((s.dev.port i).link.state = .exercise ∧ (s.dev.port i).exr.mode ≠ 1 ∧ (s.dev.port i).exr.mode ≠ 2) → exec (.frameTransmit i) s = .next s) ∧
  (∀ (s : State) (i lane : Nat), isPort i = true → lane < 5 → (s.dev.port i).exr.idleLanes = 0 →
    ((s.dev.port i).link.state = .detect ∨ (s.dev.port i).link.state = .equalize → Completes (.frameTransmit i) s fun e =>
      (Map.get [] (e.port i).txLanes lane).length = 4096 ∧ (e.port i).link.state = (s.dev.port i).link.state ∧
      (e.port i).txFrame = (s.dev.port i).txFrame ∧ OnlyPort i { s.dev with freeCtr := e.freeCtr } e) ∧
    ((s.dev.port i).link.state = .exercise → (s.dev.port i).exr.mode = 1 ∨ (s.dev.port i).exr.mode = 2 → Completes (.frameTransmit i) s fun e =>
      (Map.get [] (e.port i).txLanes lane).length = 1360 ∧ (e.port i).link.state = .exercise ∧
      (e.port i).txFrame = (s.dev.port i).txFrame ∧ OnlyPort i { s.dev with freeCtr := e.freeCtr } e)) ∧
  (∀ (s : State) (i : Nat), isPort i = true → (s.dev.port i).link.state.frames = true → s.dev.flt.upsets = [] →
    Completes (.frameTransmit i) s fun e => (∃ f, (e.port i).txFrame = some f ∧ f.slots.length = 5) ∧
      (e.port i).link.frameNo = ((s.dev.port i).link.frameNo + 1) % 256 ∧
      (e.port i).link.amCount =
        (if (s.dev.port i).link.frameNo % 256 = 0 then (s.dev.port i).link.amCount + 1 else (s.dev.port i).link.amCount)) ∧
  (∀ (s : State) (i : Nat), isPort i = true → (s.dev.port i).link.state = .active → (s.dev.port i).link.ctl = [] →
    (s.dev.port i).link.replay = none → (s.dev.port i).egReq = [] → (s.dev.port i).egRsp = [] → (s.dev.port i).resent = [] →
    (s.dev.port i).planned = [] → (s.dev.port i).txReq = [] → (s.dev.port i).txRsp = [] →
    (s.dev.port i).link.mapDue = [] ∨ (s.dev.port i).link.frameNo % 256 ≠ 0 →
    (s.dev.port i).exr.traffic = false → Completes (.frameTransmit i) s fun e =>
      OnlyPort i { s.dev with freeCtr := e.freeCtr } e ∧
      ∃ f, (e.port i).txFrame = some f ∧ f.slots = List.replicate 5 .idle ∧ f.ackSeq = (s.dev.port i).link.e - 1 ∧
        (f.ackV = true ↔ (s.dev.port i).exr.ackvClear = 0) ∧ f.crSel = (s.dev.port i).link.crRot ∧
        ((s.dev.port i).link.crRot = 0 → f.crLow = BitVec.ofNat 20 (s.dev.port i).limits.1.toNat) ∧
        (f.nak = true ↔ (s.dev.port i).link.nakPending = true ∨ 0 < (s.dev.port i).exr.nakSet) ∧
        (e.port i).link.crRot = ((s.dev.port i).link.crRot + 1) % 3 ∧ (e.port i).link.next = (s.dev.port i).link.next ∧
        ((s.dev.port i).exr.symErr = 0 → (s.dev.port i).exr.idleLanes = 0 → (s.dev.port i).link.txMap.Nodup →
          (∀ x ∈ (s.dev.port i).link.txMap, (s.dev.port i).link.txUsable.getLsbD x = true) →
          ∀ x j, (s.dev.port i).link.txMap[j]? = some x →
            Map.get [] (e.port i).txLanes x = laneCarries (s.dev.port i).link x j f)) ∧
  (∀ (d : Device) (i left : Nat) (c : Control) (rest : List Control), (d.port i).link.ctl = c :: rest →
    isKa (.control c) = true ∨ d.urgent i left = false → d.fillSlot i left = (.control c, false, false, d.updLink i fun l => { l with ctl := rest })) ∧
  (∀ (d : Device) (i left : Nat), d.urgent i left = true → (∀ c ∈ (d.port i).link.ctl.head?, isKa (.control c) = false) →
    ∃ sh seq bs stall e, d.fillSlot i left = (.data 0 sh false false seq bs, false, stall, e)) ∧
  (∀ (d : Device) (i left : Nat), (d.port i).link.ctl = [] → (d.port i).link.state = .active →
    (d.port i).link.replay = none → (d.port i).txReq ≠ [] →
    (∀ sh, d.flt.upsets = [] → d.ready i 1 left = none → (d.port i).poolFor 0 ((d.port i).txPlanned 0) = some sh →
      (d.port i).link.outstanding < 2048 →
      ∃ e, d.fillSlot i left =
          (.data 0 sh false false (d.port i).link.next (fitBytes 253 ((d.port i).txReq.take 253)), false, false, e) ∧
        (e.port i).link.next = (d.port i).link.next + 1 ∧ (e.port i).txReq = (d.port i).txReq.drop 253 ∧
        (e.port i).link.replayBuf = (d.port i).link.replayBuf ++
          [.data 0 sh false false (d.port i).link.next (fitBytes 253 ((d.port i).txReq.take 253))] ∧ OnlyPort i d e) ∧
    (2048 ≤ (d.port i).link.outstanding → d.fillSlot i left = (.idle, true, false, d)) ∧
    (d.ready i 1 left = none → (d.port i).poolFor 0 ((d.port i).txPlanned 0) = none → (d.port i).link.outstanding < 2048 →
      d.fillSlot i left = (.idle, false, true, d)) ∧
    (∀ sh, (d.port i).poolFor 0 ((d.port i).txPlanned 0) = none → (d.port i).txRsp ≠ [] →
      (d.port i).poolFor 1 ((d.port i).txPlanned 1) = some sh → (d.port i).link.outstanding < 2048 →
      ∃ e, d.fillSlot i left =
          (.data 1 sh false false (d.port i).link.next (fitBytes 253 ((d.port i).txRsp.take 253)), false, true, e) ∧
        (e.port i).txRsp = (d.port i).txRsp.drop 253))

/-- Frames as a port receives and sends them. Model's choice, not the spec's: blocks and units are represented by their contents,
codeword errors by their outcome (log entry 46), and a unit that arrives removes its bytes from the stream (log entry 15). -/
def Obligations.Frames : Prop := FramesReceivedClauses ∧ FramesSentClauses

/-- KA, ID and markers. A KA block restarts the keep-alive timer and tells the limits, and takes a port from INIT to ACTIVE; an ID
block of the same major version takes IDENTIFY to INIT with the peer's declarations and fresh sequence numbers, one of another to
DOWN with cause 2; a marker with a bad check is ignored and counted, a good one places its lane and settles the port's own request
once the map has what it asked for. -/
def Obligations.ControlBlocks : Prop :=
  (∀ (s : State) (i : Nat) (q r h n : W32), isPort i = true → (s.dev.port i).link.state = .active →
    (s.dev.port i).exr.check = false → (s.dev.port i).exr.drill = false → (q - (s.dev.port i).link.limReq).toNat ≤ 2048 →
    (r - (s.dev.port i).link.limRsp).toNat ≤ 2048 → (h - (s.dev.port i).link.limSh).toNat ≤ 2048 →
    Completes (.ka i (.ka q r h n)) s fun e => OnlyPort i s.dev e ∧ e.port i = { s.dev.port i with
      link := { (s.dev.port i).link with
        limReq := q, limRsp := r, limSh := h, lastKa := s.dev.clk.now, kaSeen := true, sinceKa := false } }) ∧
  (∀ (s : State) (i : Nat) (q r h n : W32), isPort i = true → (s.dev.port i).link.state = .init →
    Completes (.ka i (.ka q r h n)) s fun e => (e.port i).link.state = .active ∧ (e.port i).link.lastKa = s.dev.clk.now ∧
      e.pacers = s.dev.pacers ∧ e.tiles = s.dev.tiles ∧ e.flt = s.dev.flt) ∧
  (∀ (s : State) (i : Nat) (c : Control), (s.dev.port i).link.state.frames = false →
    exec (.ka i c) s = .next s ∧ exec (.ident i c) s = .next s ∧ exec (.chgReq i c) s = .next s ∧
      exec (.chgRefuse i c) s = .next s ∧ exec (.chgAbort i c) s = .next s) ∧
  (∀ (s : State) (i : Nat) (mn g : Byte) (id : W64) (dev : W16) (h pc : Bool), isPort i = true →
    (s.dev.port i).link.state = .identify → Completes (.ident i (.ident 1 mn g id dev h pc)) s fun e => OnlyPort i s.dev e ∧
      (e.port i).link.state = .init ∧ (e.port i).peerGen = g ∧ (e.port i).peerDev = dev ∧ (e.port i).peerHost = h ∧
      (e.port i).peerId = id ∧ (e.port i).link.next = 0 ∧ (e.port i).link.una = 0 ∧ (e.port i).link.e = 0 ∧
      (e.port i).link.replayBuf = []) ∧
  (∀ (s : State) (i : Nat) (mj mn g : Byte) (id : W64) (dev : W16) (h pc : Bool), isPort i = true → mj ≠ 1 →
    (s.dev.port i).link.state = .identify → Completes (.ident i (.ident mj mn g id dev h pc)) s (GoesDown i 2 s.dev)) ∧
  (∀ (s : State) (i lane : Nat) (m : Marker), isPort i = true → lane < 5 → (s.dev.port i).link.state.frames = true →
    (s.dev.port i).exr.check = false → m.crcOk = false →
    exec (.alignmentMarker i lane m) s = .next { s with dev := s.dev.updLink i fun l =>
      { l with badMarks := Map.upd 0 l.badMarks lane (· + 1) } }) ∧
  (∀ (s : State) (i lane : Nat) (m : Marker), isPort i = true → lane < 5 → (s.dev.port i).link.state.frames = true →
    (s.dev.port i).exr.check = false → m.crcOk = true → m.width = m.logical → (s.dev.port i).link.reqs = [] →
    Completes (.alignmentMarker i lane m) s fun e =>
      Flagged (pgPort i) { s.dev with ports := e.ports } e ∧
      (e.port i).link = { (s.dev.port i).link with
        badMarks := Map.set 0 (s.dev.port i).link.badMarks lane 0
        rxMarks := Map.set none (s.dev.port i).link.rxMarks lane (some m)
        rxEpoch := some m.mapEpoch
        rxMap := placeLane (s.dev.port i).link.rxMap m.llane lane m.width }) ∧
  (∀ (s : State) (i lane : Nat) (m : Marker) (r : ChangeReq), isPort i = true → lane < 5 →
    (s.dev.port i).link.state.frames = true → (s.dev.port i).exr.check = false → m.crcOk = true → m.width = m.logical →
    (s.dev.port i).link.reqs = [r] → Completes (.alignmentMarker i lane m) s fun e =>
      ((r.kind = 1 ∧ r.width = m.width) ∨ (r.kind = 0 ∧
        ∀ x ∈ placeLane (s.dev.port i).link.rxMap m.llane lane m.width, r.mask.getLsbD x = false) → (e.port i).link.reqs = []) ∧
      ((r.kind = 1 ∧ r.width ≠ m.width) ∨ (r.kind = 0 ∧
        ∃ x ∈ placeLane (s.dev.port i).link.rxMap m.llane lane m.width, r.mask.getLsbD x = true) ∨ r.kind = 2 →
        (e.port i).link.reqs = [r]))

/-- A port's marshal has no change of its own to ask for: a request of its own stands, lanes retrain, or no lane is out of service in both
directions and its direction is not narrow with four usable lanes. -/
def AsksNothing (l : Link) : Prop :=
  (∃ r ∈ l.reqs, r.fault = false) ∨ l.retrain ≠ none ∨
    (~~~(l.txUsable ||| l.rxUsable) = 0 ∧ (4 ≤ l.txWidth ∨ (lanesOf l.txUsable).length < 4))

/-- Lane faults and change requests. A lane is faulty whose signal is lost, or that more errors than LANE_ERR_THR in each of two consecutive
1 µs windows or two bad markers in a row show so (`noisyLanes`). A faulty lane in use is named in a REPLACE request, together with those an earlier one still
names, a faulty spare only leaves service, and a lane under the self-test SD_NEAR is passed over. A request of the peer is executed
once: WIDTH switches the map at the next marker, REPLACE takes the named lanes out and goes DOWN below three lanes, RETRAIN takes
spare lanes only; a malformed one is ignored. The marker makes the switches that wait: the map goes to the first usable lanes,
MAP_EPOCH and the counts of changes move. Of two requests that cross, the one of the port with the greater identity stands; equal
identities abort both and are issued again after a delay, and the third time the port goes DOWN. A REPLACE that leaves three lanes ends
the port's own request for width 4 and asks for width 3. The marshal may ask for width 4 of a narrow port, or for the training of lanes out of service (DESIGN CHOICE, log entry 51). A request for a fault that is not
done within 20 µs takes the port DOWN. -/
def Obligations.LaneChanges : Prop :=
  (∀ (s : State) (i : Nat) (m : BitVec 5), (s.dev.port i).link.state ≠ .active → exec (.laneFault i m) s = .next s) ∧
  (∀ (d : Device) (i x : Nat), x < 5 → ((d.noisyLanes i).getLsbD x = true ↔ (d.port i).link.rxUsable.getLsbD x = true ∧
    (2 ≤ Map.get 0 (d.port i).link.badMarks x ∨
      ((d.port i).laneErrThr < (Map.get {} (d.port i).link.laneErrs x).cnt ∧
        (d.port i).laneErrThr < (Map.get {} (d.port i).link.laneErrs x).prev ∧
        d.clk.now / us 1 ≤ (Map.get {} (d.port i).link.laneErrs x).win + 1)))) ∧
  (∀ (w : Nat) (e : LaneErr), (e.win = w → e.add w = { e with cnt := e.cnt + 1 }) ∧
    (e.win + 1 = w → e.add w = { win := w, cnt := 1, prev := e.cnt }) ∧
    (e.win ≠ w → e.win + 1 ≠ w → e.add w = { win := w, cnt := 1, prev := 0 })) ∧
  (∀ (s : State) (i : Nat) (m n u : BitVec 5), isPort i = true → (s.dev.port i).link.state = .active →
    n = (m ||| s.dev.noisyLanes i) &&& ~~~(s.dev.nearLanes i) → u = laneMask ((lanesOf n).filter (s.dev.port i).link.rxMap.contains) →
    (u = 0 → exec (.laneFault i m) s = .next { s with dev := s.dev.updLink i fun l =>
      { l with rxUsable := l.rxUsable &&& ~~~n } }) ∧
    (∀ w, u ≠ 0 → w = (if 4 ≤ (lanesOf ((s.dev.port i).link.rxUsable &&& ~~~n)).length
        then (s.dev.port i).link.rxMap.length else 3) →
      ((∀ r ∈ (s.dev.port i).link.reqs, r.fault = false ∨ r.kind ≠ 0) → Completes (.laneFault i m) s fun e =>
        (e.port i).link.rxUsable = (s.dev.port i).link.rxUsable &&& ~~~n ∧
        (∃ r, (e.port i).link.reqs = (s.dev.port i).link.reqs ++ [r] ∧ r.kind = 0 ∧ r.mask = u ∧ r.width = w ∧ r.fault = true ∧
          r.since = s.dev.clk.now ∧ r.id = (s.dev.port i).link.nextReqId ∧
          (e.port i).link.ctl = (s.dev.port i).link.ctl ++ [.chgReq r.id 0 u w (s.dev.portId i) 0]) ∧
        ((e.page (pgPort i)).intRaw &&& 8) = 8) ∧
      (∀ r, (s.dev.port i).link.reqs = [r] → r.fault = true → r.kind = 0 → Completes (.laneFault i m) s fun e =>
        ∃ q, (e.port i).link.reqs = [q] ∧ q.kind = 0 ∧ q.mask = r.mask ||| u ∧ q.width = w ∧ q.fault = true ∧
          q.since = r.since))) ∧
  (∀ (s : State) (i kind width attempt : Nat) (id : Byte) (m : BitVec 5) (pid : W64), (s.dev.port i).exr.check = false →
    2 < kind ∨ (width ≠ 3 ∧ width ≠ 4) ∨ 2 < attempt →
    exec (.chgReq i (.chgReq id kind m width pid attempt)) s = .next s) ∧
  (∀ (s : State) (i attempt kind w : Nat) (id : Byte) (m : BitVec 5) (pid : W64), isPort i = true → attempt ≤ 2 → kind ≤ 2 →
    w = 3 ∨ w = 4 → (s.dev.port i).link.state.frames = true → (s.dev.port i).link.state ≠ .active →
    exec (.chgReq i (.chgReq id kind m w pid attempt)) s =
      .next { s with dev := s.dev.updLink i fun l => { l with ctl := l.ctl ++ [.chgRefuse id 3] } }) ∧
  (∀ (s : State) (i attempt w : Nat) (id : Byte) (m : BitVec 5) (pid : W64), isPort i = true → attempt ≤ 2 → w = 3 ∨ w = 4 →
    (s.dev.port i).link.state = .active → (s.dev.port i).link.ownRequest = none → (s.dev.port i).link.retryAttempt = none →
    (id ∉ (s.dev.port i).link.acted → w = 3 ∨ 4 ≤ (lanesOf (s.dev.port i).link.txUsable).length →
      Completes (.chgReq i (.chgReq id 1 m w pid attempt)) s fun e => OnlyPort i s.dev e ∧
        (e.port i).link = { (s.dev.port i).link with
          mapDue := (s.dev.port i).link.mapDue ++ [(w, false)], acted := (id :: (s.dev.port i).link.acted).take 8 }) ∧
    (id ∈ (s.dev.port i).link.acted → exec (.chgReq i (.chgReq id 1 m 3 pid attempt)) s = .next s ∧
      exec (.chgReq i (.chgReq id 0 m w pid attempt)) s = .next s ∧
      exec (.chgReq i (.chgReq id 2 m w pid attempt)) s = .next s) ∧
    ((lanesOf (s.dev.port i).link.txUsable).length < 4 → exec (.chgReq i (.chgReq id 1 m 4 pid attempt)) s =
      .next { s with dev := s.dev.updLink i fun l => { l with ctl := l.ctl ++ [.chgRefuse id 1] } }) ∧
    (∀ u, u = (s.dev.port i).link.txUsable &&& ~~~m → id ∉ (s.dev.port i).link.acted →
      (4 ≤ (lanesOf u).length ∨ ((lanesOf u).length = 3 ∧ (s.dev.port i).link.txWidth = 3) →
        Completes (.chgReq i (.chgReq id 0 m w pid attempt)) s fun e => OnlyPort i s.dev e ∧
          (e.port i).link = { (s.dev.port i).link with
            txUsable := u, mapDue := (s.dev.port i).link.mapDue ++ [((s.dev.port i).link.txWidth, true)]
            acted := (id :: (s.dev.port i).link.acted).take 8 }) ∧
      ((lanesOf u).length = 3 → 3 < (s.dev.port i).link.txWidth →
        Completes (.chgReq i (.chgReq id 0 m w pid attempt)) s fun e => OnlyPort i s.dev e ∧
          (e.port i).link.txUsable = u ∧ (e.port i).link.mapDue = (s.dev.port i).link.mapDue ++ [(3, true)] ∧
          ∃ r, (e.port i).link.reqs = (s.dev.port i).link.reqs ++ [r] ∧ r.kind = 1 ∧ r.width = 3 ∧ r.fault = true) ∧
      ((lanesOf u).length < 3 →
        Completes (.chgReq i (.chgReq id 0 m w pid attempt)) s (GoesDown i 4 s.dev))) ∧
    (id ∉ (s.dev.port i).link.acted → (s.dev.port i).link.retrain = none →
      ((∀ x ∈ lanesOf m, x ∉ (s.dev.port i).link.txMap ∧ x ∉ (s.dev.port i).link.rxMap) →
        Completes (.chgReq i (.chgReq id 2 m w pid attempt)) s fun e => OnlyPort i s.dev e ∧
          (e.port i).link = { (s.dev.port i).link.beginRetrain m with
            acted := (id :: (s.dev.port i).link.acted).take 8 }) ∧
      ((∃ x ∈ lanesOf m, x ∈ (s.dev.port i).link.txMap ∨ x ∈ (s.dev.port i).link.rxMap) →
        exec (.chgReq i (.chgReq id 2 m w pid attempt)) s =
          .next { s with dev := s.dev.updLink i fun l => { l with ctl := l.ctl ++ [.chgRefuse id 1] } })) ∧
    (∀ x, id ∉ (s.dev.port i).link.acted → (s.dev.port i).link.retrain = some x →
      exec (.chgReq i (.chgReq id 2 m w pid attempt)) s =
        .next { s with dev := s.dev.updLink i fun l => { l with ctl := l.ctl ++ [.chgRefuse id 2] } })) ∧
  (∀ (d : Device) (i : Nat), ((d.port i).link.mapDue = [] → d.switchNow i = d) ∧
    ((d.port i).link.mapDue ≠ [] →
      ((d.switchNow i).port i).link.txMap = (lanesOf (d.port i).link.txUsable).take (d.port i).link.txWidth ∧
      ((d.switchNow i).port i).link.mapEpoch = (d.port i).link.mapEpoch + 1 ∧ ((d.switchNow i).port i).link.mapDue = [] ∧
      ((d.switchNow i).port i).cnt.laneRepl =
        satAdd (d.port i).cnt.laneRepl ((d.port i).link.mapDue.filter fun x => x.2).length ∧
      ((d.switchNow i).port i).cnt.widthChg =
        satAdd (d.port i).cnt.widthChg ((d.port i).link.mapDue.filter fun x => !x.2).length ∧
      (((d.switchNow i).page (pgPort i)).intRaw &&& 32) = 32)) ∧
  (∀ (s : State) (i : Nat), isPort i = true → (s.dev.port i).link.state.frames = true → s.dev.flt.upsets = [] →
    (s.dev.port i).link.mapDue ≠ [] → Completes (.frameTransmit i) s fun e =>
      ((s.dev.port i).link.frameNo % 256 = 0 →
        (e.port i).link.txMap = (lanesOf (s.dev.port i).link.txUsable).take (s.dev.port i).link.txWidth ∧
        (e.port i).link.mapEpoch = (s.dev.port i).link.mapEpoch + 1 ∧ (e.port i).link.mapDue = []) ∧
      ((s.dev.port i).link.frameNo % 256 ≠ 0 → (e.port i).link.txMap = (s.dev.port i).link.txMap ∧
        (e.port i).link.mapEpoch = (s.dev.port i).link.mapEpoch ∧
        (e.port i).link.mapDue = (s.dev.port i).link.mapDue)) ∧
  (∀ (s : State) (i attempt w : Nat) (id : Byte) (m : BitVec 5) (pid : W64) (r : ChangeReq), isPort i = true → attempt ≤ 2 →
    w = 3 ∨ w = 4 → (s.dev.port i).link.state = .active → (s.dev.port i).link.ownRequest = some r →
    ((s.dev.port i).link.collided ≠ some id → pid.toNat < (s.dev.portId i).toNat →
      Completes (.chgReq i (.chgReq id 2 m w pid attempt)) s fun e => OnlyPort i s.dev e ∧
        (e.port i).link = { (s.dev.port i).link with collided := some id } ∧
        (e.port i).cnt = { (s.dev.port i).cnt with chgCollide := satInc (s.dev.port i).cnt.chgCollide }) ∧
    ((s.dev.port i).link.collided ≠ some id → (s.dev.portId i).toNat < pid.toNat →
      Completes (.chgReq i (.chgReq id 2 m w pid attempt)) s fun e => OnlyPort i s.dev e ∧
        (e.port i).link.reqs = (s.dev.port i).link.reqs.erase r ∧
        (e.port i).cnt.chgCollide = satInc (s.dev.port i).cnt.chgCollide ∧
        (e.port i).cnt.chgFail = satInc (s.dev.port i).cnt.chgFail) ∧
    (pid = s.dev.portId i → r.attempt < 2 → Completes (.chgReq i (.chgReq id 2 m w pid attempt)) s fun e =>
      (e.port i).link.retryAttempt = some r.attempt ∧ (e.port i).cnt.chgEqualId = satInc (s.dev.port i).cnt.chgEqualId ∧
      (e.port i).link.ctl = (s.dev.port i).link.ctl ++ [.chgAbort r.id (s.dev.portId i) r.attempt] ∧ OnlyPort i s.dev e) ∧
    (pid = s.dev.portId i → 2 ≤ r.attempt →
      Completes (.chgReq i (.chgReq id 2 m w pid attempt)) s (GoesDown i 6 s.dev)) ∧
    (r.kind = 1 → id ∉ (s.dev.port i).link.acted → (lanesOf ((s.dev.port i).link.txUsable &&& ~~~m)).length = 3 →
      Completes (.chgReq i (.chgReq id 0 m w pid attempt)) s fun e => OnlyPort i s.dev e ∧
        (e.port i).link.txUsable = (s.dev.port i).link.txUsable &&& ~~~m ∧
        (e.port i).cnt.chgFail = satInc (s.dev.port i).cnt.chgFail ∧
        ∃ q, (e.port i).link.reqs = (s.dev.port i).link.reqs.erase r ++ [q] ∧ q.kind = 1 ∧ q.width = 3 ∧ q.fault = true)) ∧
  (∀ (s : State) (i : Nat) (id r : Byte), isPort i = true → (s.dev.port i).link.state.frames = true →
    r = 1 ∨ r = 2 ∨ r = 3 →
    (∀ q, (s.dev.port i).link.reqs.find? (·.id == id) = some q → Completes (.chgRefuse i (.chgRefuse id r.toNat)) s fun e =>
      (e.port i).link.reqs = (s.dev.port i).link.reqs.erase q ∧
      (e.port i).cnt.chgFail = satInc (s.dev.port i).cnt.chgFail ∧ OnlyPort i s.dev e) ∧
    ((∀ q ∈ (s.dev.port i).link.reqs, q.id ≠ id) → exec (.chgRefuse i (.chgRefuse id r.toNat)) s = .next s)) ∧
  (∀ (s : State) (i a : Nat) (id : Byte), isPort i = true → (s.dev.port i).link.state.frames = true → a ≤ 2 →
    (∀ q, (s.dev.port i).link.ownRequest = some q →
      (q.attempt < 2 → Completes (.chgAbort i (.chgAbort id (s.dev.portId i) a)) s fun e =>
        (e.port i).link.retryAttempt = some q.attempt ∧ (e.port i).cnt.chgEqualId = satInc (s.dev.port i).cnt.chgEqualId ∧
        OnlyPort i s.dev e) ∧
      (2 ≤ q.attempt → Completes (.chgAbort i (.chgAbort id (s.dev.portId i) a)) s (GoesDown i 6 s.dev))) ∧
    (∀ pid, pid ≠ s.dev.portId i ∨ (s.dev.port i).link.ownRequest = none →
      exec (.chgAbort i (.chgAbort id pid a)) s = .next s)) ∧
  (∀ (s : State) (i a : Nat) (id : Byte) (pid : W64), (s.dev.port i).exr.check = false → 2 < a →
    exec (.chgAbort i (.chgAbort id pid a)) s = .next s) ∧
  (∀ (s : State) (i : Nat), isPort i = true → (s.dev.port i).link.state = .active → (s.dev.port i).link.reqs = [] →
    Completes (.chgReqRepeat i) s fun e => OnlyPort i { s.dev with freeCtr := e.freeCtr } e ∧ (e.port i).cnt = (s.dev.port i).cnt ∧
      ((e.port i).link = (s.dev.port i).link ∨ ∃ q, (e.port i).link.reqs = [q] ∧ q.fault = false ∧
        ((q.kind = 2 ∧ q.mask ≠ 0 ∧ q.mask &&& ((s.dev.port i).link.txUsable ||| (s.dev.port i).link.rxUsable) = 0) ∨
          (q.kind = 1 ∧ q.width = 4 ∧ (s.dev.port i).link.txWidth < 4 ∧ 4 ≤ (lanesOf (s.dev.port i).link.txUsable).length)))) ∧
  (∀ (s : State) (i : Nat) (q : ChangeReq), isPort i = true → (s.dev.port i).link.state = .active →
    (s.dev.port i).link.reqs = [q] →
    (AsksNothing (s.dev.port i).link → q.fault = true ∨ (s.dev.port i).link.retryAttempt = none → q.sentAt + us 1 ≤ s.dev.clk.now →
      Completes (.chgReqRepeat i) s fun e => OnlyPort i s.dev e ∧ (e.port i).link = { (s.dev.port i).link with
        reqs := [{ q with sentAt := s.dev.clk.now }]
        ctl := (s.dev.port i).link.ctl ++ [.chgReq q.id q.kind q.mask q.width (s.dev.portId i) q.attempt] }) ∧
    (AsksNothing (s.dev.port i).link → (q.fault = false ∧ (s.dev.port i).link.retryAttempt ≠ none) ∨ s.dev.clk.now < q.sentAt + us 1 →
      exec (.chgReqRepeat i) s = .next s) ∧
    (q.fault = true → q.since + us 20 ≤ s.dev.clk.now → Completes (.changeTimeout i) s (GoesDown i 5 s.dev)) ∧
    (q.fault = false ∨ s.dev.clk.now < q.since + us 20 → exec (.changeTimeout i) s = .next s) ∧
    (∀ k, (s.dev.port i).link.retryAttempt = some k → q.fault = false →
      (q.since + us (s.dev.fuses.retryDelay k) ≤ s.dev.clk.now →
        Completes (.equalIdRetry i) s fun e => (e.port i).link.retryAttempt = none ∧ OnlyPort i s.dev e ∧
          ∃ r, (e.port i).link.reqs = [r] ∧ r.kind = q.kind ∧ r.mask = q.mask ∧ r.width = q.width ∧ r.attempt = k + 1 ∧
            r.since = s.dev.clk.now) ∧
      (s.dev.clk.now < q.since + us (s.dev.fuses.retryDelay k) → exec (.equalIdRetry i) s = .next s))) ∧
  (∀ (s : State) (i : Nat) (m : BitVec 5) (got : Adapted), isPort i = true →
    (s.dev.port i).link.retrain = some m →
    (4 ≤ (s.dev.port i).link.txWidth → (s.dev.port i).link.reqs = [] → exec (.retrainEqualizeEnd i got) s =
      .next { s with dev := s.dev.updLink i fun l =>
        { l with retrain := none, trainRest := [], rxUsable := l.rxUsable ||| (m &&& got.ready)
                 txUsable := l.txUsable ||| (m &&& wordLanes got.words 8)
                 badMarks := forget (lanesOf m) l.badMarks
                 precode := (l.precode &&& ~~~m) |||
                   (m &&& (if (s.dev.port i).precodeEn then wordLanes got.words 9 else 0))
                 rxPrecode := (l.rxPrecode &&& ~~~m) |||
                   (m &&& (if (s.dev.port i).precodeEn then got.precode else 0)) } }) ∧
    ((s.dev.port i).link.txWidth < 4 → (s.dev.port i).link.reqs = [] →
      4 ≤ (lanesOf ((s.dev.port i).link.txUsable ||| (m &&& wordLanes got.words 8))).length →
      Completes (.retrainEqualizeEnd i got) s fun e => OnlyPort i s.dev e ∧ (e.port i).link.retrain = none ∧
        (e.port i).link.txUsable = (s.dev.port i).link.txUsable ||| (m &&& wordLanes got.words 8) ∧
        ∃ q, (e.port i).link.reqs = [q] ∧ q.kind = 1 ∧ q.width = 4 ∧ q.fault = false)) ∧
  (∀ (s : State) (i : Nat) (got : Adapted), (s.dev.port i).link.retrain = none →
    exec (.retrainEqualizeEnd i got) s = .next s)

/-! ### The exerciser and drills -/

/-- An INJECT command of kind `kind` on port `i`, which takes a burst from `lo` to `hi` and arms the port by `f`. -/
def Injects (c : Instr) (i kind lo hi : Nat) (f : Device → Nat → Exerciser → Exerciser) : Prop :=
  ∀ s : State, isPort i = true →
    let x := s.dev.port i
    let n := x.exr.burst
    let st := x.link.state
    (st ≠ .active → st ≠ .exercise → Completes c s (Errs (pgPort i) errState s.dev)) ∧
    (st = .active ∨ st = .exercise →
      (n < lo ∨ hi < n → Completes c s (Errs (pgPort i) errRange s.dev)) ∧
      (lo ≤ n → n ≤ hi →
        (s.dev.fuses.lc = 1 ∨ s.dev.fuses.lc = 4 →
          exec c s = .next { s with dev := s.dev.updExr i fun y => f s.dev n { y with mode := 4 } }) ∧
        (s.dev.fuses.lc = 3 → s.dev.drillPermits kind (some i) none = true → Completes c s fun e =>
          (e.port i).exr = { f s.dev n { x.exr with mode := 4 } with drill := true, drillEnd := s.dev.clk.now } ∧
            OnlyPort i { s.dev with mb := e.mb } e ∧
          e.mb.drillCnt = satInc s.dev.mb.drillCnt ∧
          (∀ a, s.dev.mb.drillAuth = some a → e.mb.drillAuth = some { a with left := a.left - 1 })) ∧
        (s.dev.fuses.lc = 3 → s.dev.drillPermits kind (some i) none = false →
          Completes c s (Errs (pgPort i) 0x0160 s.dev)) ∧
        (s.dev.fuses.lc ≠ 1 → s.dev.fuses.lc ≠ 3 → s.dev.fuses.lc ≠ 4 → Completes c s (Errs (pgPort i) 0x0160 s.dev))))

/-- Of a PRBS measurement each lane's errors are added to the lane's counter and all of them to EXR_ERR, and the eyes of the lanes are
kept with the verdict on the minima of Table 17.4. -/
def Measured (m : PrbsSeen) (x y : Exerciser) : Prop :=
  y.err = x.err + BitVec.ofNat 64 m.errors.sum ∧
    (∀ l, l < 5 → Map.get 0 y.errLane l = Map.get 0 x.errLane l + BitVec.ofNat 48 (m.errors.getD l 0)) ∧
    y.eyes = m.height.zip m.eye ∧ (y.eyesMeet = true ↔ ∀ v ∈ m.height.zip m.eye, 120 ≤ v.1 ∧ 120 ≤ v.2)

/-- The exerciser. PRBS and LOOP enter EXERCISE from DISABLED where the port has its clock, and from ACTIVE through DOWN; PRBS counts
the errors lane by lane and keeps the eye margins; TRAFFIC needs ACTIVE, CHECK a port that
receives frames; an injection is free in MANUFACTURE and RETURNED, needs a drill authorisation in DEPLOYED, and is refused
otherwise. -/
def LinkExerciserClauses : Prop :=
  (∀ (s : State) (i : Nat) (m : PrbsSeen), isPort i = true → (s.dev.port i).link.state = .disabled →
    s.dev.portClocked i = false →
    Completes (.exrPrbs i m) s (Errs (pgPort i) errState s.dev) ∧ Completes (.exrLoop i) s (Errs (pgPort i) errState s.dev)) ∧
  (∀ (s : State) (i : Nat) (m : PrbsSeen), isPort i = true → (s.dev.port i).link.state = .disabled →
    s.dev.portClocked i = true →
    (Completes (.exrPrbs i m) s fun e => (e.port i).link.state = .exercise ∧ (e.port i).exr.mode = 1 ∧
      Measured m (s.dev.port i).exr (e.port i).exr ∧ OnlyPort i s.dev e) ∧
    (Completes (.exrLoop i) s fun e => (e.port i).link.state = .exercise ∧ (e.port i).exr.mode = 2 ∧ OnlyPort i s.dev e)) ∧
  (∀ (s : State) (i : Nat) (m : PrbsSeen), isPort i = true → (s.dev.port i).link.state = .active →
    (Completes (.exrPrbs i m) s fun e => (e.port i).link.state = .exercise ∧ (e.port i).link.downCause = 9 ∧
      Measured m (s.dev.port i).exr (e.port i).exr ∧
      (e.port i).exr.mode = 1 ∧ (e.port i).cnt.linkDown = satInc (s.dev.port i).cnt.linkDown) ∧
    (Completes (.exrLoop i) s fun e => (e.port i).link.state = .exercise ∧ (e.port i).exr.mode = 2) ∧
    exec (.exrTraffic i) s = .next { s with dev := s.dev.updExr i fun y =>
      { y with mode := 3, traffic := true, burstLeft := y.burst, gapLeft := 0, sent := none } }) ∧
  (∀ (s : State) (i : Nat) (m : PrbsSeen), isPort i = true → (s.dev.port i).link.state = .exercise →
    (Completes (.exrPrbs i m) s fun e => (e.port i).link = (s.dev.port i).link ∧ (e.port i).exr.mode = 1 ∧
      Measured m (s.dev.port i).exr (e.port i).exr ∧ OnlyPort i s.dev e) ∧
    (Completes (.exrLoop i) s fun e => (e.port i).link = (s.dev.port i).link ∧ (e.port i).exr.mode = 2 ∧ OnlyPort i s.dev e)) ∧
  (∀ (s : State) (i : Nat) (m : PrbsSeen), isPort i = true →
    (s.dev.port i).link.state ∉ [LinkState.exercise, .disabled, .active] →
    Completes (.exrPrbs i m) s (Errs (pgPort i) errState s.dev) ∧ Completes (.exrLoop i) s (Errs (pgPort i) errState s.dev) ∧
    Completes (.exrTraffic i) s (Errs (pgPort i) errState s.dev)) ∧
  (∀ (s : State) (i : Nat), isPort i = true →
    ((s.dev.port i).link.state.frames = true →
      exec (.exrCheck i) s = .next { s with dev := s.dev.updExr i fun y => { y with mode := 5, check := true, seen := none } }) ∧
    ((s.dev.port i).link.state.frames = false → Completes (.exrCheck i) s (Errs (pgPort i) errState s.dev))) ∧
  (∀ i, Injects (.injectSymbolErrors i) i 0 1 60 (fun _ n y => { y with symErr := n }) ∧
    Injects (.injectAckvClear i) i 1 1 65535 (fun _ n y => { y with ackvClear := n }) ∧
    Injects (.injectNak i) i 1 1 65535 (fun _ n y => { y with nakSet := n }) ∧
    Injects (.injectKaWithhold i) i 2 0 65535 (fun _ n y => { y with kaHold := n }) ∧
    Injects (.injectLaneIdle i) i 3 0 65535 (fun d _ y =>
      { y with idleLanes := y.idleLanes ||| BitVec.ofNat 5 (2 ^ y.injLane), idleSince := d.clk.now }))

/-- A drill on the port of DRILL_TARGET: permitted, it arms the port and spends one injection; otherwise it is counted on the mailbox
page and does nothing. -/
def PortDrills (c : Instr) (kind : Nat) (ok : Device → Bool) (f : Device → Exerciser → Exerciser) : Prop :=
  ∀ s : State,
    let i := s.dev.drillPort
    (ok s.dev = true → s.dev.drillPortOk i = true → s.dev.drillPermits kind (some i) none = true → Completes c s fun e =>
      (e.port i).exr = { f s.dev (s.dev.port i).exr with drill := true, drillEnd := s.dev.clk.now } ∧ OnlyPort i { s.dev with mb := e.mb } e ∧
      e.mb.drillCnt = satInc s.dev.mb.drillCnt ∧
      (∀ a, s.dev.mb.drillAuth = some a → e.mb.drillAuth = some { a with left := a.left - 1 })) ∧
    (ok s.dev = false ∨ s.dev.drillPortOk i = false ∨ s.dev.drillPermits kind (some i) none = false →
      Completes c s (Errs pgMailbox 0x0150 s.dev))

/-- A drill that inverts bits of a stored word. -/
def EccDrills (c : Instr) (kind mask : Nat) : Prop :=
  ∀ (s : State) (site : Site) (w k : Nat) (ok : Bool),
    s.dev.drillSite (s.dev.mb.drillTarget.toNat % 2 ^ 48) = some (site, w, k, ok) →
    (ok = true → s.dev.drillPermits kind none (some k) = true → s.dev.upset site = none → Completes c s fun e =>
      (∃ u, e.upset site = some u ∧ u.site = site ∧ u.drill = true ∧
        (w = 0 → (u.mask.getD 0 0).toNat = mask * 256) ∧ u.outer.all (· == 0) = true) ∧
      e.mb.drillCnt = satInc s.dev.mb.drillCnt ∧ e.tiles = s.dev.tiles ∧ e.chans = s.dev.chans ∧
      e = { s.dev with flt := { s.dev.flt with upsets := e.flt.upsets }, mb := e.mb }) ∧
    (ok = false ∨ s.dev.drillPermits kind none (some k) = false → Completes c s (Errs pgMailbox 0x0150 s.dev))

/-- Drills. An authorisation is read from the address given and stands only with result 0, when its DSEQ becomes the last one
accepted; an injection acts only on what it permits, in its window, and is counted. LANE_LOSS ends after 10 s. -/
def DrillsClauses : Prop :=
  (∀ (s : State) (hi : W32) (a : Nat) (b : List Byte) (d2 : Device),
    a = s.dev.mb.drillAddr.toNat % 2 ^ 32 + hi.toNat * 2 ^ 32 →
    ({ s.dev with mb := { s.dev.mb with drillAddr := BitVec.ofNat 64 a } } : Device).localRead (a % 2 ^ 48) 7283 = (b, d2) →
    Completes (.drillAddrSubmit hi) s fun e => e.mb.drillResult = d2.drillCheck b ∧ e.mb.drillValid = true ∧
      (d2.drillCheck b ≠ 0 → e.mb.drillAuth = d2.mb.drillAuth ∧ e.mb.lastDseq = d2.mb.lastDseq) ∧
      (d2.drillCheck b = 0 → e.mb.lastDseq = some (BitVec.ofNat 32 (leNat ((b.drop 0x20).take 4))) ∧
        ∃ x, e.mb.drillAuth = some x ∧ x.kinds = leNat ((b.drop 6).take 2) ∧ x.left = leNat ((b.drop 0x24).take 2) ∧
          x.notBefore = BitVec.ofNat 64 (leNat ((b.drop 0x10).take 8)) ∧
          x.notAfter = BitVec.ofNat 64 (leNat ((b.drop 0x18).take 8))) ∧
      ((e.page pgMailbox).intRaw &&& 16) = 16) ∧
  (∀ (d : Device) (b : List Byte), d.fuses.lc ≠ 3 → d.drillCheck b ≠ 0) ∧
  (∀ (d : Device) (kind : Nat) (p k : Option Nat), d.mb.drillAuth = none ∨
      (∃ a, d.mb.drillAuth = some a ∧ (a.left = 0 ∨ a.kinds.testBit kind = false ∨ d.tk.time.toNat < a.notBefore.toNat ∨
        a.notAfter.toNat < d.tk.time.toNat)) → d.drillPermits kind p k = false) ∧
  (∀ n, PortDrills (.linkSym n) 0 (fun _ => decide (1 ≤ n ∧ n ≤ 60)) (fun _ y => { y with symErr := n })) ∧
  (∀ n, PortDrills (.linkAck n false) 1 (fun _ => decide (1 ≤ n ∧ n ≤ 65535)) (fun _ y => { y with ackvClear := n })) ∧
  (∀ n, PortDrills (.linkAck n true) 1 (fun _ => decide (1 ≤ n ∧ n ≤ 65535)) (fun _ y => { y with nakSet := n })) ∧
  (∀ n, PortDrills (.kaHold n) 2 (fun _ => decide (1 ≤ n ∧ n ≤ 255)) (fun _ y => { y with kaHold := n })) ∧
  PortDrills .laneLoss 3 (fun d => decide (d.drillLane < 5)) (fun d y =>
    { y with idleLanes := y.idleLanes ||| BitVec.ofNat 5 (2 ^ d.drillLane), idleSince := d.clk.now }) ∧
  (∀ (s : State) (i : Nat), isPort i = true → (s.dev.port i).exr.idleLanes ≠ 0 → (s.dev.port i).exr.drill = true →
    ((s.dev.port i).exr.idleSince + ms 10000 ≤ s.dev.clk.now → exec (.laneLossRelease i) s =
      .next { s with dev := s.dev.updExr i fun y => { y with idleLanes := 0, drillEnd := s.dev.clk.now } }) ∧
    (s.dev.clk.now < (s.dev.port i).exr.idleSince + ms 10000 → exec (.laneLossRelease i) s = .next s)) ∧
  (∀ n, EccDrills (.eccSingle n) 4 (2 ^ (n % 64))) ∧ EccDrills .eccDouble 5 5 ∧
  (∀ (s : State) (c l w k n : Nat), s.dev.drillSite (s.dev.mb.drillTarget.toNat % 2 ^ 48) = some (.dram c l, w, k, true) →
    s.dev.drillPermits 6 none (some k) = true → Completes (.eccDevice n) s fun e =>
      (∃ u, e.upset (.dram c l) = some u ∧ u.drill = true) ∧ e.mb.drillCnt = satInc s.dev.mb.drillCnt ∧
      e = { s.dev with flt := { s.dev.flt with upsets := e.flt.upsets }, mb := e.mb, freeCtr := e.freeCtr }) ∧
  (∀ (s : State) (p k : Nat), p = s.dev.mb.drillTarget.toNat % 1024 → isPacer p = true → p < 208 →
    (s.dev.pacer p).state ≠ .idle → s.dev.flt.failedTiles = [] → s.dev.st.running = none → s.dev.pacerPart p = some k →
    s.dev.drillPermits 7 none (some k) = true → Completes .pacerStuck s fun e =>
      e.pacer p = { s.dev.pacer p with stuck := true } ∧ (∀ q, q ≠ p → e.pacer q = s.dev.pacer q) ∧
      e = { s.dev with pacers := e.pacers, mb := e.mb }) ∧
  (∀ s : State, s.dev.drillActive = none → Completes .pacerStuck s (Errs pgMailbox 0x0150 s.dev))

/-- The link exerciser and drills. Model's choice, not the spec's: which bits a drill corrupts (log entry 19), free values apart
(log entry 5). -/
def Obligations.ExerciserAndDrills : Prop := LinkExerciserClauses ∧ DrillsClauses

/-! ### Register pages and the sideband -/

/-- The headers of register pages, and writes. ERR_CLR clears the error fields; a W1C write clears the bits it names, and a bit that
the hardware sets at the same time stays set; INT_SET sets bits; CNT_CLR clears the page's counters and nothing else. A write that
its path may not make touches no register: JTAG is closed in SCRAPPED and, without a debug scope, in DEPLOYED; a port that is not in host mode reaches no
register, a host-mode peer needs the page's bit or DEVICE, and before firmware runs only the mailbox and security pages; read-only offsets and unaligned
addresses take nothing, and a field out of range is counted and keeps its value. -/
def RegisterPagesClauses : Prop :=
  (∀ (s : State) (n : Nat), isPage n = true → exec (.errClr n) s = .next { s with dev := s.dev.updPage n fun h =>
    { h with errCnt := 0, errFirst := 0, errBib := 0 } }) ∧
  (∀ (s : State) (n : Nat) (v w : W32), isPage n = true → Completes (.intRawW1c n v w) s fun e => Flagged n s.dev e ∧
    (e.page n).intRaw = ((s.dev.page n).intRaw &&& ~~~v) ||| w ∧ (e.page n).errCnt = (s.dev.page n).errCnt ∧
    (e.page n).intEn = (s.dev.page n).intEn) ∧
  (∀ (s : State) (n : Nat) (v : W32), isPage n = true → Completes (.intSet n v) s fun e => Flagged n s.dev e ∧
    (e.page n).intRaw = (s.dev.page n).intRaw ||| v ∧ (e.page n).errCnt = (s.dev.page n).errCnt) ∧
  (∀ (s : State) (n : Nat) (v w : W32), isPage n = false → exec (.errClr n) s = .next s ∧ exec (.intRawW1c n v w) s = .next s ∧
    exec (.intSet n v) s = .next s ∧ exec (.cntClr n) s = .next s) ∧
  (∀ s : State,
    exec (.cntClr pgTransport) s = .next { s with dev := s.dev.updTr fun t =>
      { t with noRoute := 0, ageDiscard := 0, streamFull := 0, dupUnit := 0, staleSeq := 0, streamWait := 0 } } ∧
    exec (.cntClr pgTime) s = .next { s with dev := s.dev.updTk fun t => { t with voidCnt := 0 } } ∧
    exec (.cntClr pgPower) s = .next { s with dev := s.dev.updPwr fun t => { t with govCnt := 0 } } ∧
    exec (.cntClr pgSecurity) s = .next s) ∧
  (∀ (s : State) (i : Nat), isPort i = true →
    exec (.cntClr (pgPort i)) s = .next { s with dev := s.dev.updPort i fun p => { p with cnt := {} } }) ∧
  (∀ (s : State) (p : Nat), isPacer p = true →
    exec (.cntClr (pgPacer p)) s = .next { s with dev := s.dev.updPacer p fun x => { x with traceDrop := 0 } }) ∧
  (∀ (s : State) (src : Src) (a : Nat) (v : W32),
    a < 0x0F0000000000 ∨ a % 4 ≠ 0 ∨ s.dev.mayReach src (pageSlot a) = false ∨ pageType (pageSlot a) = 0 →
    exec (.registerWrite src a v) s = .next s) ∧
  (∀ (d : Device) (n : Nat), (d.fuses.lc = 5 → d.mayReach .jtag n = false) ∧
    (d.fuses.lc = 3 → d.sec.debug = false → d.mayReach .jtag n = false)) ∧
  (∀ (d : Device) (h n : Nat), (d.hostMode h = false → d.mayReach (.host h) n = false) ∧
    (d.sec.bootStatus ≠ 2 → n ≠ pgMailbox → n ≠ pgSecurity → d.mayReach (.host h) n = false) ∧
    (scopeDevice (d.hostScope h) = false → d.pagePart n = none → d.mayReach (.host h) n = false) ∧
    (∀ k, scopeDevice (d.hostScope h) = false → d.pagePart n = some k → scopeHas (d.hostScope h) k = false →
      d.mayReach (.host h) n = false)) ∧
  (∀ (s : State) (n off : Nat) (v : W32), isPage n = true → off < 0x40 → off % 4 = 0 → off ∉ [0x0C, 0x14, 0x18, 0x20] →
    exec (.registerWrite .marshal (0x0F0000000000 + 4096 * n + off) v) s = .next s) ∧
  (∀ (s : State) (n : Nat) (v : W32), isPage n = true →
    Completes (.registerWrite .marshal (0x0F0000000000 + 4096 * n + 0x18) v) s fun e =>
      Flagged n s.dev e ∧ (e.page n).intEn = v ∧ (e.page n).intRaw = (s.dev.page n).intRaw) ∧
  (∀ (s : State) (c : Nat) (v : W32), isChan c = true →
    (1 ≤ v.toNat % 65536 → exec (.registerWrite .marshal (0x0F0000000000 + 4096 * pgChan c + 0x70) v) s =
      .next { s with dev := s.dev.updChan c fun x => { x with scrubPeriod := v.toNat % 65536 } }) ∧
    (v.toNat % 65536 = 0 → Completes (.registerWrite .marshal (0x0F0000000000 + 4096 * pgChan c + 0x70) v) s
      (Errs (pgChan c) errRange s.dev))) ∧
  (∀ (s : State) (v : W32), v.getLsbD 0 = true →
    exec (.registerWrite .marshal (0x0F0000000000 + 4096 * pgMailbox + 0x5C) v) s = exec .loadGo s ∧
    exec (.registerWrite .marshal (0x0F0000000000 + 4096 * pgMailbox + 0x74) v) s = exec .fwGo s ∧
    exec (.registerWrite .marshal (0x0F0000000000 + 4096 * pgSelftest + 0x68) v) s = exec .stGo s)

/-- The marshal takes the oldest record of a pacer's trace queue into the partition's trace ring and moves its position on. With an
empty queue nothing happens. -/
def TraceRingClauses : Prop :=
  (∀ (s : State) (p k : Nat) (r : TraceRec) (rest : List TraceRec) (im : Image), (s.dev.pacer p).traceQ = r :: rest →
    s.dev.pacerPart p = some k → (s.dev.part k).image = some im → s.dev.flt.upsets = [] → Completes (.traceRingWrite p) s fun e =>
      let i := (s.dev.part k).run.tracePos % 4096
      e.pacer p = { s.dev.pacer p with traceQ := rest } ∧ (e.part k).run = { (s.dev.part k).run with tracePos := (i + 1) % 4096 } ∧
      e.chans = (s.dev.writeBytes k (s.dev.physAddr k (im.traceBase + 16 * i)) r.bytes).chans ∧
      (∀ q, q ≠ p → e.pacer q = s.dev.pacer q) ∧ e.tiles = s.dev.tiles) ∧
  (∀ (s : State) (p : Nat), (s.dev.pacer p).traceQ = [] → exec (.traceRingWrite p) s = .next s)

/-- Register pages and the trace ring. Model's choice, not the spec's: the corners of register access in log entry 28. -/
def Obligations.RegistersAndTraces : Prop := RegisterPagesClauses ∧ TraceRingClauses

/-- The sideband. It answers with STATUS, SERIAL, TEMPS and RAILS in every life-cycle state and while no firmware runs, when the
fields that firmware serves read all ones; DEV_RESET with 0x5AA5 resets the device and with another value does nothing; a
transaction with a bad PEC is ignored; an alert response releases the alert. Model's choice, not the spec's: the corners of log
entry 29. -/
def Obligations.Sideband : Prop :=
  (∀ s : State, exec (.sidebandStatus true) s = .next { s with dev := { s.dev with
    out := s.dev.out ++ [.sideband s.dev.sbStatus] } }) ∧
  (∀ d : Device, d.sbStatus.length = 8 ∧ d.sbStatus.getD 1 0 = BitVec.ofNat 8 d.sec.bootStatus ∧
    d.sbStatus.getD 0 0 = BitVec.ofNat 8 d.fuses.lc ∧
    (d.sec.bootStatus ≠ 2 → d.sbStatus.drop 4 = [0xFF, 0xFF, 0xFF, 0xFF])) ∧
  (∀ s : State, exec (.sidebandSerial true) s = .next { s with dev := { s.dev with
    out := s.dev.out ++ [.sideband (leBytes 6 s.dev.fuses.serial.toNat)] } }) ∧
  (∀ s : State, Completes (.sidebandTemps true) s fun e => ∃ bs, bs.length = 32 ∧
    e = { s.dev with out := s.dev.out ++ [.sideband bs], freeCtr := s.dev.freeCtr + 1 } ∧
    (s.dev.sec.bootStatus ≠ 2 → ∀ b ∈ bs, b = 0xFF) ∧
    (s.dev.sec.bootStatus = 2 → ∀ g, g < 32 → bs[g]? = some (BitVec.ofInt 8 (Map.get 0 s.dev.thr.sensors g / 10)) ∨
      bs[g]? = some (BitVec.ofInt 8 (Map.get 0 s.dev.thr.sensors g / 10 + 1)))) ∧
  (∀ s : State, Completes (.sidebandRails true) s fun e => ∃ bs : List Byte, bs.length = 12 ∧
    e = { s.dev with out := s.dev.out ++ [.sideband bs], freeCtr := s.dev.freeCtr + 1 }) ∧
  (∀ (s : State) (v : W16), exec (.sidebandStatus false) s = .next s ∧ exec (.sidebandSerial false) s = .next s ∧
    exec (.sidebandTemps false) s = .next s ∧ exec (.sidebandRails false) s = .next s ∧ exec (.devReset false v) s = .next s) ∧
  (∀ s : State, s.dev.flt.inReset = false → exec (.devReset true 0x5AA5) s = exec .deviceReset s) ∧
  (∀ s : State, s.dev.flt.inReset = false → s.dev.flt.crashBusy = none →
    Completes (.devReset true 0x5AA5) s (AfterDeviceReset s.dev)) ∧
  (∀ (s : State) (v : W16), v ≠ 0x5AA5 → exec (.devReset true v) s = .next s) ∧
  (∀ s : State, s.dev.flt.smbAlert = true → Completes .smbusAlertResponse s fun e => e.flt.smbAlert = false ∧
    ∃ b, e = { s.dev with flt := { s.dev.flt with smbAlert := false }, out := s.dev.out ++ [.sideband [b]] }) ∧
  (∀ s : State, s.dev.flt.smbAlert = false →
    exec .smbusAlertResponse s = .next { s with dev := { s.dev with out := s.dev.out ++ [.nack] } })

/-! ### Codes and counted errors -/

/-- How many of the eight bits of a syndrome are set. -/
def weight (x : Nat) : Nat := ((List.range 8).filter fun i => x.testBit i).length

/-- The word decoder. The syndrome is the remainder of the codeword modulo g; with syndrome 0 the word is delivered, with the
syndrome of one position that position is flipped, with that of an adjacent pair both are, and with any other syndrome the word is
uncorrectable. So every single error and every adjacent pair in a word is corrected. The syndromes of single positions are distinct
and of odd weight, those of adjacent pairs distinct and of even weight, and any two errors give a syndrome that is not zero and of
even weight. -/
def Obligations.WordCode : Prop :=
  (∀ p, p < 8 → xpow p = 2 ^ p) ∧
  (∀ p, xpow (p + 1) = if 2 * xpow p < 256 then 2 * xpow p else Nat.xor (2 * xpow p) 0x19B) ∧
  (∀ p, p < 72 → syndrome (2 ^ p) = xpow p) ∧
  (∀ m n, syndrome (Nat.xor m n) = Nat.xor (syndrome m) (syndrome n)) ∧
  (∀ m, syndrome m = 0 → wordDecode m = some m) ∧
  (∀ m p, p < 72 → syndrome m = xpow p → wordDecode m = some (Nat.xor m (2 ^ p))) ∧
  (∀ m p, p < 71 → syndrome m = Nat.xor (xpow p) (xpow (p + 1)) → wordDecode m = some (Nat.xor m (2 ^ p + 2 ^ (p + 1)))) ∧
  (∀ m, syndrome m ≠ 0 → (∀ p, p < 72 → syndrome m ≠ xpow p) →
    (∀ p, p < 71 → syndrome m ≠ Nat.xor (xpow p) (xpow (p + 1))) → wordDecode m = none) ∧
  (∀ p, p < 72 → wordDecode (2 ^ p) = some 0) ∧ (∀ p, p < 71 → wordDecode (2 ^ p + 2 ^ (p + 1)) = some 0) ∧
  (∀ p q, p < 72 → q < 72 → xpow p = xpow q → p = q) ∧ (∀ p, p < 72 → weight (xpow p) % 2 = 1) ∧
  (∀ p q, p < 71 → q < 71 → Nat.xor (xpow p) (xpow (p + 1)) = Nat.xor (xpow q) (xpow (q + 1)) → p = q) ∧
  (∀ p q, p < 72 → q < 72 → p ≠ q → syndrome (2 ^ p + 2 ^ q) ≠ 0 ∧ weight (syndrome (2 ^ p + 2 ^ q)) % 2 = 0)

/-- The error fields of a register page. An error counts and sets INT_RAW[0]; the first one since COUNT was zero gives its code and bib;
ERR_CLR zeroes all three fields, and an error after it counts as the first one. -/
def Obligations.ErrorsAreCounted : Prop :=
  (∀ (d : Device) (n code : Nat), Errs n code d (d.countErr n code)) ∧
  (∀ (s : State) (n : Nat), isPage n = true → Completes (.errClr n) s fun e => (e.page n).errCnt = 0 ∧ (e.page n).errFirst = 0 ∧
    (e.page n).errBib = 0) ∧
  (∀ (d : Device) (n code : Nat), code < 65536 → (((d.opErrClr n).countErr n code).page n).errCnt = 1 ∧
    (((d.opErrClr n).countErr n code).page n).errFirst = BitVec.ofNat 16 code ∧
    (((d.opErrClr n).countErr n code).page n).errBib = d.pageBib n ∧
    (((d.opErrClr n).countErr n code).page n).intRaw = (d.page n).intRaw ||| 1)
end

