-- ==== Sys2Proof/Laws/Map.lean ====
section
/-! SUPPORT. The laws of sparse maps: what a read gives after a write, and that every write keeps the canonical form. -/

namespace Sys2Proof

variable {α : Type}

theorem Map.get_erase (d : α) (m : Map α) (k j : Nat) :
    Map.get d (Map.erase m k) j = if j = k then d else Map.get d m j := by
  induction m with
  | nil => simp [Map.erase, Map.get]
  | cons e t ih =>
    obtain ⟨a, v⟩ := e
    simp only [Map.erase, List.filter_cons, bne_iff_ne, ne_eq] at ih ⊢
    by_cases h : a = k
    · subst h
      simp only [not_true_eq_false, if_false, ih, Map.get]
      split <;> simp_all
    · simp only [h, not_false_eq_true, if_true, Map.get, ih]
      split
      · subst_vars; simp [h]
      · rfl

theorem Map.get_insert (d : α) (k : Nat) (v : α) (m : Map α) (j : Nat) (h : ∀ e ∈ m, e.1 ≠ k) :
    Map.get d (Map.insert k v m) j = if j = k then v else Map.get d m j := by
  induction m with
  | nil => simp [Map.insert, Map.get]
  | cons e t ih =>
    obtain ⟨a, w⟩ := e
    have ha : a ≠ k := h (a, w) (by simp)
    have ht := ih fun e he => h e (by simp [he])
    simp only [Map.insert]
    split
    · simp [Map.get]
    · simp only [Map.get, ht]
      split
      · subst_vars; simp [ha]
      · rfl

theorem Map.erase_ne (m : Map α) (k : Nat) : ∀ e ∈ Map.erase m k, e.1 ≠ k := by
  intro e he
  simpa [Map.erase] using (List.mem_filter.mp he).2

/-- What a read gives after a write. -/
theorem Map.get_set [DecidableEq α] (d : α) (m : Map α) (k : Nat) (v : α) (j : Nat) :
    Map.get d (Map.set d m k v) j = if j = k then v else Map.get d m j := by
  unfold Map.set
  split
  · next h => rw [Map.get_erase, h]
  · rw [Map.get_insert _ _ _ _ _ (Map.erase_ne m k), Map.get_erase]
    split <;> simp_all

@[simp] theorem Map.get_set_self [DecidableEq α] (d : α) (m : Map α) (k : Nat) (v : α) :
    Map.get d (Map.set d m k v) k = v := by simp [Map.get_set]

@[simp] theorem Map.get_set_ne [DecidableEq α] (d : α) (m : Map α) {k j : Nat} (v : α) (h : j ≠ k) :
    Map.get d (Map.set d m k v) j = Map.get d m j := by simp [Map.get_set, h]

/-- What a read gives after a change of one key. -/
theorem Map.get_upd [DecidableEq α] (d : α) (m : Map α) (k : Nat) (f : α → α) (j : Nat) :
    Map.get d (Map.upd d m k f) j = if j = k then f (Map.get d m k) else Map.get d m j := by
  simp [Map.upd, Map.get_set]

@[simp] theorem Map.get_upd_self [DecidableEq α] (d : α) (m : Map α) (k : Nat) (f : α → α) :
    Map.get d (Map.upd d m k f) k = f (Map.get d m k) := by simp [Map.get_upd]

@[simp] theorem Map.get_upd_ne [DecidableEq α] (d : α) (m : Map α) {k j : Nat} (f : α → α) (h : j ≠ k) :
    Map.get d (Map.upd d m k f) j = Map.get d m j := by simp [Map.get_upd, h]

@[simp] theorem Map.get_nil (d : α) (k : Nat) : Map.get d ([] : Map α) k = d := rfl

/-! ### The canonical form -/

theorem Map.wfFrom_mono [DecidableEq α] {d : α} {m : Map α} {lo lo' : Nat} (h : Map.wfFrom d lo m = true) (hl : lo' ≤ lo) :
    Map.wfFrom d lo' m = true := by
  cases m with
  | nil => rfl
  | cons e t =>
    simp only [Map.wfFrom, Bool.and_eq_true, decide_eq_true_eq] at h ⊢
    exact ⟨⟨by omega, h.1.2⟩, h.2⟩

/-- Any part of a canonical map is canonical. -/
theorem Map.wfFrom_filter [DecidableEq α] {d : α} (p : Nat × α → Bool) {m : Map α} {lo : Nat} (h : Map.wfFrom d lo m = true) :
    Map.wfFrom d lo (m.filter p) = true := by
  induction m generalizing lo with
  | nil => rfl
  | cons e t ih =>
    simp only [Map.wfFrom, Bool.and_eq_true, decide_eq_true_eq] at h
    simp only [List.filter_cons]
    split
    · simp only [Map.wfFrom, Bool.and_eq_true, decide_eq_true_eq]
      exact ⟨h.1, ih h.2⟩
    · exact Map.wfFrom_mono (ih h.2) (by omega)

theorem Map.wf_filter [DecidableEq α] {d : α} (p : Nat × α → Bool) {m : Map α} (h : Map.wf d m = true) :
    Map.wf d (m.filter p) = true := Map.wfFrom_filter p h

theorem Map.wfFrom_insert [DecidableEq α] {d : α} {k : Nat} {v : α} (hv : v ≠ d) {m : Map α} {lo : Nat} (hl : lo ≤ k)
    (h : Map.wfFrom d lo m = true) (hk : ∀ e ∈ m, e.1 ≠ k) : Map.wfFrom d lo (Map.insert k v m) = true := by
  induction m generalizing lo with
  | nil => simp [Map.insert, Map.wfFrom, hl, hv]
  | cons e t ih =>
    obtain ⟨a, w⟩ := e
    have ha : a ≠ k := hk (a, w) (by simp)
    simp only [Map.wfFrom, Bool.and_eq_true, decide_eq_true_eq] at h
    simp only [Map.insert]
    split
    · simp only [Map.wfFrom, Bool.and_eq_true, decide_eq_true_eq]
      exact ⟨⟨hl, hv⟩, ⟨by omega, h.1.2⟩, h.2⟩
    · simp only [Map.wfFrom, Bool.and_eq_true, decide_eq_true_eq]
      exact ⟨h.1, ih (by omega) h.2 fun e he => hk e (by simp [he])⟩

/-- A write keeps the canonical form. -/
theorem Map.wf_set [DecidableEq α] {d : α} {m : Map α} (k : Nat) (v : α) (h : Map.wf d m = true) :
    Map.wf d (Map.set d m k v) = true := by
  unfold Map.set
  split
  · exact Map.wf_filter _ h
  · next hv => exact Map.wfFrom_insert hv (Nat.zero_le _) (Map.wf_filter _ h) (Map.erase_ne m k)

theorem Map.wf_upd [DecidableEq α] {d : α} {m : Map α} (k : Nat) (f : α → α) (h : Map.wf d m = true) :
    Map.wf d (Map.upd d m k f) = true := Map.wf_set k _ h

@[simp] theorem Map.wf_nil [DecidableEq α] (d : α) : Map.wf d ([] : Map α) = true := rfl

/-- In a canonical map, two maps that read alike everywhere are one map. -/
theorem Map.wfFrom_ext [DecidableEq α] {d : α} {m n : Map α} {lo : Nat} (hm : Map.wfFrom d lo m = true)
    (hn : Map.wfFrom d lo n = true) (h : ∀ k, Map.get d m k = Map.get d n k) : m = n := by
  have low : ∀ {m : Map α} {lo k : Nat}, Map.wfFrom d lo m = true → k < lo → Map.get d m k = d := by
    intro m
    induction m with
    | nil => intros; rfl
    | cons e t ih =>
      intro lo k h hk
      simp only [Map.wfFrom, Bool.and_eq_true, decide_eq_true_eq] at h
      simp only [Map.get]
      rw [if_neg (by omega)]
      exact ih h.2 (by omega)
  induction m generalizing n lo with
  | nil =>
    cases n with
    | nil => rfl
    | cons e t =>
      simp only [Map.wfFrom, Bool.and_eq_true, decide_eq_true_eq] at hn
      have := h e.1
      simp only [Map.get, if_true] at this
      exact absurd this.symm hn.1.2
  | cons e t ih =>
    obtain ⟨a, v⟩ := e
    simp only [Map.wfFrom, Bool.and_eq_true, decide_eq_true_eq] at hm
    cases n with
    | nil =>
      have := h a
      simp only [Map.get, if_true] at this
      exact absurd this hm.1.2
    | cons e' t' =>
      obtain ⟨b, w⟩ := e'
      simp only [Map.wfFrom, Bool.and_eq_true, decide_eq_true_eq] at hn
      have hab : a = b := by
        rcases Nat.lt_trichotomy a b with hlt | heq | hgt
        · have := h a
          simp only [Map.get, if_true] at this
          rw [if_neg (by omega), low hn.2 (by omega)] at this
          exact absurd this hm.1.2
        · exact heq
        · have := h b
          simp only [Map.get, if_true] at this
          rw [if_neg (by omega), low hm.2 (by omega)] at this
          exact absurd this.symm hn.1.2
      subst hab
      have hv := h a
      simp only [Map.get, if_true] at hv
      subst hv
      have ht : t = t' := ih hm.2 hn.2 fun k => by
        by_cases hk : k = a
        · subst hk; rw [low hm.2 (by omega), low hn.2 (by omega)]
        · have := h k; simpa [Map.get, hk] using this
      rw [ht]

end Sys2Proof
end

