-- ==== Sys2Proof/Laws/State.lean ====
section
/-! SUPPORT. One lemma for each field of `State` and `Device` under each update of one: no later proof unfolds a record
update. The reads of one unit under an update of one unit follow. -/

namespace Sys2Proof.Machine

@[simp] theorem State.on_dev (f : Device → Device) (s : State) : (s.on f).dev = f s.dev := rfl
@[simp] theorem State.on_pending (f : Device → Device) (s : State) : (s.on f).pending = s.pending := rfl
@[simp] theorem Device.when_true (f : Device → Device) (d : Device) : d.when true f = f d := rfl
@[simp] theorem Device.when_false (f : Device → Device) (d : Device) : d.when false f = d := rfl
theorem Device.when_pos {c : Bool} (h : c = true) (f : Device → Device) (d : Device) : d.when c f = f d := by simp [h]
theorem Device.when_neg {c : Bool} (h : c = false) (f : Device → Device) (d : Device) : d.when c f = d := by simp [h]
@[simp] theorem Device.forAll_nil (f : Nat → Device → Device) (d : Device) : d.forAll [] f = d := rfl
@[simp] theorem Device.forAll_cons (k : Nat) (ks : List Nat) (f : Nat → Device → Device) (d : Device) :
    d.forAll (k :: ks) f = (f k d).forAll ks f := rfl

/-- What every step of a fold keeps, the fold keeps. -/
theorem Device.forAll_keeps {P : Device → Prop} (ks : List Nat) (f : Nat → Device → Device) (hf : ∀ k d, P d → P (f k d))
    (d : Device) (h : P d) : P (d.forAll ks f) := by
  induction ks generalizing d with
  | nil => exact h
  | cons k ks ih => exact ih _ (hf k d h)

/-- A part of the device that no step of a fold changes is as it was. -/
theorem Device.forAll_proj {α : Type} (g : Device → α) (ks : List Nat) (f : Nat → Device → Device)
    (hf : ∀ k d, g (f k d) = g d) (d : Device) : g (d.forAll ks f) = g d :=
  Device.forAll_keeps (P := fun e => g e = g d) ks f (fun k e he => (hf k e).trans he) d rfl

@[simp] theorem Device.updPart_clk (k : Nat) (f : Part → Part) (d : Device) : (d.updPart k f).clk = d.clk := rfl
@[simp] theorem Device.updPart_tk (k : Nat) (f : Part → Part) (d : Device) : (d.updPart k f).tk = d.tk := rfl
@[simp] theorem Device.updPart_fuses (k : Nat) (f : Part → Part) (d : Device) : (d.updPart k f).fuses = d.fuses := rfl
@[simp] theorem Device.updPart_sec (k : Nat) (f : Part → Part) (d : Device) : (d.updPart k f).sec = d.sec := rfl
@[simp] theorem Device.updPart_st (k : Nat) (f : Part → Part) (d : Device) : (d.updPart k f).st = d.st := rfl
@[simp] theorem Device.updPart_mb (k : Nat) (f : Part → Part) (d : Device) : (d.updPart k f).mb = d.mb := rfl
@[simp] theorem Device.updPart_flt (k : Nat) (f : Part → Part) (d : Device) : (d.updPart k f).flt = d.flt := rfl
@[simp] theorem Device.updPart_pwr (k : Nat) (f : Part → Part) (d : Device) : (d.updPart k f).pwr = d.pwr := rfl
@[simp] theorem Device.updPart_thr (k : Nat) (f : Part → Part) (d : Device) : (d.updPart k f).thr = d.thr := rfl
@[simp] theorem Device.updPart_ports (k : Nat) (f : Part → Part) (d : Device) : (d.updPart k f).ports = d.ports := rfl
@[simp] theorem Device.updPart_tr (k : Nat) (f : Part → Part) (d : Device) : (d.updPart k f).tr = d.tr := rfl
@[simp] theorem Device.updPart_starter (k : Nat) (f : Part → Part) (d : Device) : (d.updPart k f).starter = d.starter := rfl
@[simp] theorem Device.updPart_pacers (k : Nat) (f : Part → Part) (d : Device) : (d.updPart k f).pacers = d.pacers := rfl
@[simp] theorem Device.updPart_tiles (k : Nat) (f : Part → Part) (d : Device) : (d.updPart k f).tiles = d.tiles := rfl
@[simp] theorem Device.updPart_bmes (k : Nat) (f : Part → Part) (d : Device) : (d.updPart k f).bmes = d.bmes := rfl
@[simp] theorem Device.updPart_chans (k : Nat) (f : Part → Part) (d : Device) : (d.updPart k f).chans = d.chans := rfl
@[simp] theorem Device.updPart_net (k : Nat) (f : Part → Part) (d : Device) : (d.updPart k f).net = d.net := rfl
@[simp] theorem Device.updPart_pages (k : Nat) (f : Part → Part) (d : Device) : (d.updPart k f).pages = d.pages := rfl
@[simp] theorem Device.updPart_out (k : Nat) (f : Part → Part) (d : Device) : (d.updPart k f).out = d.out := rfl
@[simp] theorem Device.updPart_freeCtr (k : Nat) (f : Part → Part) (d : Device) : (d.updPart k f).freeCtr = d.freeCtr := rfl
theorem Device.updPart_part (k j : Nat) (f : Part → Part) (d : Device) : (d.updPart k f).part j = if j = k then f (d.part k) else d.part j := Map.get_upd _ _ _ _ _
@[simp] theorem Device.updPart_part_self (k : Nat) (f : Part → Part) (d : Device) : (d.updPart k f).part k = f (d.part k) := Map.get_upd_self _ _ _ _
@[simp] theorem Device.updPart_part_ne {k j : Nat} (f : Part → Part) (d : Device) (h : j ≠ k) : (d.updPart k f).part j = d.part j := Map.get_upd_ne _ _ _ h
@[simp] theorem Device.updPart_port_of (k j : Nat) (f : Part → Part) (d : Device) : (d.updPart k f).port j = d.port j := rfl
@[simp] theorem Device.updPart_pacer_of (k j : Nat) (f : Part → Part) (d : Device) : (d.updPart k f).pacer j = d.pacer j := rfl
@[simp] theorem Device.updPart_tile_of (k j : Nat) (f : Part → Part) (d : Device) : (d.updPart k f).tile j = d.tile j := rfl
@[simp] theorem Device.updPart_bme_of (k j : Nat) (f : Part → Part) (d : Device) : (d.updPart k f).bme j = d.bme j := rfl
@[simp] theorem Device.updPart_chan_of (k j : Nat) (f : Part → Part) (d : Device) : (d.updPart k f).chan j = d.chan j := rfl
@[simp] theorem Device.updPart_page_of (k j : Nat) (f : Part → Part) (d : Device) : (d.updPart k f).page j = d.page j := rfl
@[simp] theorem Device.updPart_region (k j : Nat) (f : Part → Part) (d : Device) : (d.updPart k f).region j = d.region j := rfl

@[simp] theorem Device.updPort_clk (k : Nat) (f : Port → Port) (d : Device) : (d.updPort k f).clk = d.clk := rfl
@[simp] theorem Device.updPort_tk (k : Nat) (f : Port → Port) (d : Device) : (d.updPort k f).tk = d.tk := rfl
@[simp] theorem Device.updPort_fuses (k : Nat) (f : Port → Port) (d : Device) : (d.updPort k f).fuses = d.fuses := rfl
@[simp] theorem Device.updPort_sec (k : Nat) (f : Port → Port) (d : Device) : (d.updPort k f).sec = d.sec := rfl
@[simp] theorem Device.updPort_st (k : Nat) (f : Port → Port) (d : Device) : (d.updPort k f).st = d.st := rfl
@[simp] theorem Device.updPort_mb (k : Nat) (f : Port → Port) (d : Device) : (d.updPort k f).mb = d.mb := rfl
@[simp] theorem Device.updPort_flt (k : Nat) (f : Port → Port) (d : Device) : (d.updPort k f).flt = d.flt := rfl
@[simp] theorem Device.updPort_pwr (k : Nat) (f : Port → Port) (d : Device) : (d.updPort k f).pwr = d.pwr := rfl
@[simp] theorem Device.updPort_thr (k : Nat) (f : Port → Port) (d : Device) : (d.updPort k f).thr = d.thr := rfl
@[simp] theorem Device.updPort_tr (k : Nat) (f : Port → Port) (d : Device) : (d.updPort k f).tr = d.tr := rfl
@[simp] theorem Device.updPort_starter (k : Nat) (f : Port → Port) (d : Device) : (d.updPort k f).starter = d.starter := rfl
@[simp] theorem Device.updPort_parts (k : Nat) (f : Port → Port) (d : Device) : (d.updPort k f).parts = d.parts := rfl
@[simp] theorem Device.updPort_pacers (k : Nat) (f : Port → Port) (d : Device) : (d.updPort k f).pacers = d.pacers := rfl
@[simp] theorem Device.updPort_tiles (k : Nat) (f : Port → Port) (d : Device) : (d.updPort k f).tiles = d.tiles := rfl
@[simp] theorem Device.updPort_bmes (k : Nat) (f : Port → Port) (d : Device) : (d.updPort k f).bmes = d.bmes := rfl
@[simp] theorem Device.updPort_chans (k : Nat) (f : Port → Port) (d : Device) : (d.updPort k f).chans = d.chans := rfl
@[simp] theorem Device.updPort_net (k : Nat) (f : Port → Port) (d : Device) : (d.updPort k f).net = d.net := rfl
@[simp] theorem Device.updPort_pages (k : Nat) (f : Port → Port) (d : Device) : (d.updPort k f).pages = d.pages := rfl
@[simp] theorem Device.updPort_out (k : Nat) (f : Port → Port) (d : Device) : (d.updPort k f).out = d.out := rfl
@[simp] theorem Device.updPort_freeCtr (k : Nat) (f : Port → Port) (d : Device) : (d.updPort k f).freeCtr = d.freeCtr := rfl
theorem Device.updPort_port (k j : Nat) (f : Port → Port) (d : Device) : (d.updPort k f).port j = if j = k then f (d.port k) else d.port j := Map.get_upd _ _ _ _ _
@[simp] theorem Device.updPort_port_self (k : Nat) (f : Port → Port) (d : Device) : (d.updPort k f).port k = f (d.port k) := Map.get_upd_self _ _ _ _
@[simp] theorem Device.updPort_port_ne {k j : Nat} (f : Port → Port) (d : Device) (h : j ≠ k) : (d.updPort k f).port j = d.port j := Map.get_upd_ne _ _ _ h
@[simp] theorem Device.updPort_part_of (k j : Nat) (f : Port → Port) (d : Device) : (d.updPort k f).part j = d.part j := rfl
@[simp] theorem Device.updPort_pacer_of (k j : Nat) (f : Port → Port) (d : Device) : (d.updPort k f).pacer j = d.pacer j := rfl
@[simp] theorem Device.updPort_tile_of (k j : Nat) (f : Port → Port) (d : Device) : (d.updPort k f).tile j = d.tile j := rfl
@[simp] theorem Device.updPort_bme_of (k j : Nat) (f : Port → Port) (d : Device) : (d.updPort k f).bme j = d.bme j := rfl
@[simp] theorem Device.updPort_chan_of (k j : Nat) (f : Port → Port) (d : Device) : (d.updPort k f).chan j = d.chan j := rfl
@[simp] theorem Device.updPort_page_of (k j : Nat) (f : Port → Port) (d : Device) : (d.updPort k f).page j = d.page j := rfl
@[simp] theorem Device.updPort_region (k j : Nat) (f : Port → Port) (d : Device) : (d.updPort k f).region j = d.region j := rfl

@[simp] theorem Device.updPacer_clk (k : Nat) (f : Pacer → Pacer) (d : Device) : (d.updPacer k f).clk = d.clk := rfl
@[simp] theorem Device.updPacer_tk (k : Nat) (f : Pacer → Pacer) (d : Device) : (d.updPacer k f).tk = d.tk := rfl
@[simp] theorem Device.updPacer_fuses (k : Nat) (f : Pacer → Pacer) (d : Device) : (d.updPacer k f).fuses = d.fuses := rfl
@[simp] theorem Device.updPacer_sec (k : Nat) (f : Pacer → Pacer) (d : Device) : (d.updPacer k f).sec = d.sec := rfl
@[simp] theorem Device.updPacer_st (k : Nat) (f : Pacer → Pacer) (d : Device) : (d.updPacer k f).st = d.st := rfl
@[simp] theorem Device.updPacer_mb (k : Nat) (f : Pacer → Pacer) (d : Device) : (d.updPacer k f).mb = d.mb := rfl
@[simp] theorem Device.updPacer_flt (k : Nat) (f : Pacer → Pacer) (d : Device) : (d.updPacer k f).flt = d.flt := rfl
@[simp] theorem Device.updPacer_pwr (k : Nat) (f : Pacer → Pacer) (d : Device) : (d.updPacer k f).pwr = d.pwr := rfl
@[simp] theorem Device.updPacer_thr (k : Nat) (f : Pacer → Pacer) (d : Device) : (d.updPacer k f).thr = d.thr := rfl
@[simp] theorem Device.updPacer_ports (k : Nat) (f : Pacer → Pacer) (d : Device) : (d.updPacer k f).ports = d.ports := rfl
@[simp] theorem Device.updPacer_tr (k : Nat) (f : Pacer → Pacer) (d : Device) : (d.updPacer k f).tr = d.tr := rfl
@[simp] theorem Device.updPacer_starter (k : Nat) (f : Pacer → Pacer) (d : Device) : (d.updPacer k f).starter = d.starter := rfl
@[simp] theorem Device.updPacer_parts (k : Nat) (f : Pacer → Pacer) (d : Device) : (d.updPacer k f).parts = d.parts := rfl
@[simp] theorem Device.updPacer_tiles (k : Nat) (f : Pacer → Pacer) (d : Device) : (d.updPacer k f).tiles = d.tiles := rfl
@[simp] theorem Device.updPacer_bmes (k : Nat) (f : Pacer → Pacer) (d : Device) : (d.updPacer k f).bmes = d.bmes := rfl
@[simp] theorem Device.updPacer_chans (k : Nat) (f : Pacer → Pacer) (d : Device) : (d.updPacer k f).chans = d.chans := rfl
@[simp] theorem Device.updPacer_net (k : Nat) (f : Pacer → Pacer) (d : Device) : (d.updPacer k f).net = d.net := rfl
@[simp] theorem Device.updPacer_pages (k : Nat) (f : Pacer → Pacer) (d : Device) : (d.updPacer k f).pages = d.pages := rfl
@[simp] theorem Device.updPacer_out (k : Nat) (f : Pacer → Pacer) (d : Device) : (d.updPacer k f).out = d.out := rfl
@[simp] theorem Device.updPacer_freeCtr (k : Nat) (f : Pacer → Pacer) (d : Device) : (d.updPacer k f).freeCtr = d.freeCtr := rfl
theorem Device.updPacer_pacer (k j : Nat) (f : Pacer → Pacer) (d : Device) : (d.updPacer k f).pacer j = if j = k then f (d.pacer k) else d.pacer j := Map.get_upd _ _ _ _ _
@[simp] theorem Device.updPacer_pacer_self (k : Nat) (f : Pacer → Pacer) (d : Device) : (d.updPacer k f).pacer k = f (d.pacer k) := Map.get_upd_self _ _ _ _
@[simp] theorem Device.updPacer_pacer_ne {k j : Nat} (f : Pacer → Pacer) (d : Device) (h : j ≠ k) : (d.updPacer k f).pacer j = d.pacer j := Map.get_upd_ne _ _ _ h
@[simp] theorem Device.updPacer_part_of (k j : Nat) (f : Pacer → Pacer) (d : Device) : (d.updPacer k f).part j = d.part j := rfl
@[simp] theorem Device.updPacer_port_of (k j : Nat) (f : Pacer → Pacer) (d : Device) : (d.updPacer k f).port j = d.port j := rfl
@[simp] theorem Device.updPacer_tile_of (k j : Nat) (f : Pacer → Pacer) (d : Device) : (d.updPacer k f).tile j = d.tile j := rfl
@[simp] theorem Device.updPacer_bme_of (k j : Nat) (f : Pacer → Pacer) (d : Device) : (d.updPacer k f).bme j = d.bme j := rfl
@[simp] theorem Device.updPacer_chan_of (k j : Nat) (f : Pacer → Pacer) (d : Device) : (d.updPacer k f).chan j = d.chan j := rfl
@[simp] theorem Device.updPacer_page_of (k j : Nat) (f : Pacer → Pacer) (d : Device) : (d.updPacer k f).page j = d.page j := rfl
@[simp] theorem Device.updPacer_region (k j : Nat) (f : Pacer → Pacer) (d : Device) : (d.updPacer k f).region j = d.region j := rfl

@[simp] theorem Device.updTile_clk (k : Nat) (f : Tile → Tile) (d : Device) : (d.updTile k f).clk = d.clk := rfl
@[simp] theorem Device.updTile_tk (k : Nat) (f : Tile → Tile) (d : Device) : (d.updTile k f).tk = d.tk := rfl
@[simp] theorem Device.updTile_fuses (k : Nat) (f : Tile → Tile) (d : Device) : (d.updTile k f).fuses = d.fuses := rfl
@[simp] theorem Device.updTile_sec (k : Nat) (f : Tile → Tile) (d : Device) : (d.updTile k f).sec = d.sec := rfl
@[simp] theorem Device.updTile_st (k : Nat) (f : Tile → Tile) (d : Device) : (d.updTile k f).st = d.st := rfl
@[simp] theorem Device.updTile_mb (k : Nat) (f : Tile → Tile) (d : Device) : (d.updTile k f).mb = d.mb := rfl
@[simp] theorem Device.updTile_flt (k : Nat) (f : Tile → Tile) (d : Device) : (d.updTile k f).flt = d.flt := rfl
@[simp] theorem Device.updTile_pwr (k : Nat) (f : Tile → Tile) (d : Device) : (d.updTile k f).pwr = d.pwr := rfl
@[simp] theorem Device.updTile_thr (k : Nat) (f : Tile → Tile) (d : Device) : (d.updTile k f).thr = d.thr := rfl
@[simp] theorem Device.updTile_ports (k : Nat) (f : Tile → Tile) (d : Device) : (d.updTile k f).ports = d.ports := rfl
@[simp] theorem Device.updTile_tr (k : Nat) (f : Tile → Tile) (d : Device) : (d.updTile k f).tr = d.tr := rfl
@[simp] theorem Device.updTile_starter (k : Nat) (f : Tile → Tile) (d : Device) : (d.updTile k f).starter = d.starter := rfl
@[simp] theorem Device.updTile_parts (k : Nat) (f : Tile → Tile) (d : Device) : (d.updTile k f).parts = d.parts := rfl
@[simp] theorem Device.updTile_pacers (k : Nat) (f : Tile → Tile) (d : Device) : (d.updTile k f).pacers = d.pacers := rfl
@[simp] theorem Device.updTile_bmes (k : Nat) (f : Tile → Tile) (d : Device) : (d.updTile k f).bmes = d.bmes := rfl
@[simp] theorem Device.updTile_chans (k : Nat) (f : Tile → Tile) (d : Device) : (d.updTile k f).chans = d.chans := rfl
@[simp] theorem Device.updTile_net (k : Nat) (f : Tile → Tile) (d : Device) : (d.updTile k f).net = d.net := rfl
@[simp] theorem Device.updTile_pages (k : Nat) (f : Tile → Tile) (d : Device) : (d.updTile k f).pages = d.pages := rfl
@[simp] theorem Device.updTile_out (k : Nat) (f : Tile → Tile) (d : Device) : (d.updTile k f).out = d.out := rfl
@[simp] theorem Device.updTile_freeCtr (k : Nat) (f : Tile → Tile) (d : Device) : (d.updTile k f).freeCtr = d.freeCtr := rfl
theorem Device.updTile_tile (k j : Nat) (f : Tile → Tile) (d : Device) : (d.updTile k f).tile j = if j = k then f (d.tile k) else d.tile j := Map.get_upd _ _ _ _ _
@[simp] theorem Device.updTile_tile_self (k : Nat) (f : Tile → Tile) (d : Device) : (d.updTile k f).tile k = f (d.tile k) := Map.get_upd_self _ _ _ _
@[simp] theorem Device.updTile_tile_ne {k j : Nat} (f : Tile → Tile) (d : Device) (h : j ≠ k) : (d.updTile k f).tile j = d.tile j := Map.get_upd_ne _ _ _ h
@[simp] theorem Device.updTile_part_of (k j : Nat) (f : Tile → Tile) (d : Device) : (d.updTile k f).part j = d.part j := rfl
@[simp] theorem Device.updTile_port_of (k j : Nat) (f : Tile → Tile) (d : Device) : (d.updTile k f).port j = d.port j := rfl
@[simp] theorem Device.updTile_pacer_of (k j : Nat) (f : Tile → Tile) (d : Device) : (d.updTile k f).pacer j = d.pacer j := rfl
@[simp] theorem Device.updTile_bme_of (k j : Nat) (f : Tile → Tile) (d : Device) : (d.updTile k f).bme j = d.bme j := rfl
@[simp] theorem Device.updTile_chan_of (k j : Nat) (f : Tile → Tile) (d : Device) : (d.updTile k f).chan j = d.chan j := rfl
@[simp] theorem Device.updTile_page_of (k j : Nat) (f : Tile → Tile) (d : Device) : (d.updTile k f).page j = d.page j := rfl
@[simp] theorem Device.updTile_region (k j : Nat) (f : Tile → Tile) (d : Device) : (d.updTile k f).region j = d.region j := rfl

@[simp] theorem Device.updBme_clk (k : Nat) (f : Bme → Bme) (d : Device) : (d.updBme k f).clk = d.clk := rfl
@[simp] theorem Device.updBme_tk (k : Nat) (f : Bme → Bme) (d : Device) : (d.updBme k f).tk = d.tk := rfl
@[simp] theorem Device.updBme_fuses (k : Nat) (f : Bme → Bme) (d : Device) : (d.updBme k f).fuses = d.fuses := rfl
@[simp] theorem Device.updBme_sec (k : Nat) (f : Bme → Bme) (d : Device) : (d.updBme k f).sec = d.sec := rfl
@[simp] theorem Device.updBme_st (k : Nat) (f : Bme → Bme) (d : Device) : (d.updBme k f).st = d.st := rfl
@[simp] theorem Device.updBme_mb (k : Nat) (f : Bme → Bme) (d : Device) : (d.updBme k f).mb = d.mb := rfl
@[simp] theorem Device.updBme_flt (k : Nat) (f : Bme → Bme) (d : Device) : (d.updBme k f).flt = d.flt := rfl
@[simp] theorem Device.updBme_pwr (k : Nat) (f : Bme → Bme) (d : Device) : (d.updBme k f).pwr = d.pwr := rfl
@[simp] theorem Device.updBme_thr (k : Nat) (f : Bme → Bme) (d : Device) : (d.updBme k f).thr = d.thr := rfl
@[simp] theorem Device.updBme_ports (k : Nat) (f : Bme → Bme) (d : Device) : (d.updBme k f).ports = d.ports := rfl
@[simp] theorem Device.updBme_tr (k : Nat) (f : Bme → Bme) (d : Device) : (d.updBme k f).tr = d.tr := rfl
@[simp] theorem Device.updBme_starter (k : Nat) (f : Bme → Bme) (d : Device) : (d.updBme k f).starter = d.starter := rfl
@[simp] theorem Device.updBme_parts (k : Nat) (f : Bme → Bme) (d : Device) : (d.updBme k f).parts = d.parts := rfl
@[simp] theorem Device.updBme_pacers (k : Nat) (f : Bme → Bme) (d : Device) : (d.updBme k f).pacers = d.pacers := rfl
@[simp] theorem Device.updBme_tiles (k : Nat) (f : Bme → Bme) (d : Device) : (d.updBme k f).tiles = d.tiles := rfl
@[simp] theorem Device.updBme_chans (k : Nat) (f : Bme → Bme) (d : Device) : (d.updBme k f).chans = d.chans := rfl
@[simp] theorem Device.updBme_net (k : Nat) (f : Bme → Bme) (d : Device) : (d.updBme k f).net = d.net := rfl
@[simp] theorem Device.updBme_pages (k : Nat) (f : Bme → Bme) (d : Device) : (d.updBme k f).pages = d.pages := rfl
@[simp] theorem Device.updBme_out (k : Nat) (f : Bme → Bme) (d : Device) : (d.updBme k f).out = d.out := rfl
@[simp] theorem Device.updBme_freeCtr (k : Nat) (f : Bme → Bme) (d : Device) : (d.updBme k f).freeCtr = d.freeCtr := rfl
theorem Device.updBme_bme (k j : Nat) (f : Bme → Bme) (d : Device) : (d.updBme k f).bme j = if j = k then f (d.bme k) else d.bme j := Map.get_upd _ _ _ _ _
@[simp] theorem Device.updBme_bme_self (k : Nat) (f : Bme → Bme) (d : Device) : (d.updBme k f).bme k = f (d.bme k) := Map.get_upd_self _ _ _ _
@[simp] theorem Device.updBme_bme_ne {k j : Nat} (f : Bme → Bme) (d : Device) (h : j ≠ k) : (d.updBme k f).bme j = d.bme j := Map.get_upd_ne _ _ _ h
@[simp] theorem Device.updBme_part_of (k j : Nat) (f : Bme → Bme) (d : Device) : (d.updBme k f).part j = d.part j := rfl
@[simp] theorem Device.updBme_port_of (k j : Nat) (f : Bme → Bme) (d : Device) : (d.updBme k f).port j = d.port j := rfl
@[simp] theorem Device.updBme_pacer_of (k j : Nat) (f : Bme → Bme) (d : Device) : (d.updBme k f).pacer j = d.pacer j := rfl
@[simp] theorem Device.updBme_tile_of (k j : Nat) (f : Bme → Bme) (d : Device) : (d.updBme k f).tile j = d.tile j := rfl
@[simp] theorem Device.updBme_chan_of (k j : Nat) (f : Bme → Bme) (d : Device) : (d.updBme k f).chan j = d.chan j := rfl
@[simp] theorem Device.updBme_page_of (k j : Nat) (f : Bme → Bme) (d : Device) : (d.updBme k f).page j = d.page j := rfl
@[simp] theorem Device.updBme_region (k j : Nat) (f : Bme → Bme) (d : Device) : (d.updBme k f).region j = d.region j := rfl

@[simp] theorem Device.updChan_clk (k : Nat) (f : Chan → Chan) (d : Device) : (d.updChan k f).clk = d.clk := rfl
@[simp] theorem Device.updChan_tk (k : Nat) (f : Chan → Chan) (d : Device) : (d.updChan k f).tk = d.tk := rfl
@[simp] theorem Device.updChan_fuses (k : Nat) (f : Chan → Chan) (d : Device) : (d.updChan k f).fuses = d.fuses := rfl
@[simp] theorem Device.updChan_sec (k : Nat) (f : Chan → Chan) (d : Device) : (d.updChan k f).sec = d.sec := rfl
@[simp] theorem Device.updChan_st (k : Nat) (f : Chan → Chan) (d : Device) : (d.updChan k f).st = d.st := rfl
@[simp] theorem Device.updChan_mb (k : Nat) (f : Chan → Chan) (d : Device) : (d.updChan k f).mb = d.mb := rfl
@[simp] theorem Device.updChan_flt (k : Nat) (f : Chan → Chan) (d : Device) : (d.updChan k f).flt = d.flt := rfl
@[simp] theorem Device.updChan_pwr (k : Nat) (f : Chan → Chan) (d : Device) : (d.updChan k f).pwr = d.pwr := rfl
@[simp] theorem Device.updChan_thr (k : Nat) (f : Chan → Chan) (d : Device) : (d.updChan k f).thr = d.thr := rfl
@[simp] theorem Device.updChan_ports (k : Nat) (f : Chan → Chan) (d : Device) : (d.updChan k f).ports = d.ports := rfl
@[simp] theorem Device.updChan_tr (k : Nat) (f : Chan → Chan) (d : Device) : (d.updChan k f).tr = d.tr := rfl
@[simp] theorem Device.updChan_starter (k : Nat) (f : Chan → Chan) (d : Device) : (d.updChan k f).starter = d.starter := rfl
@[simp] theorem Device.updChan_parts (k : Nat) (f : Chan → Chan) (d : Device) : (d.updChan k f).parts = d.parts := rfl
@[simp] theorem Device.updChan_pacers (k : Nat) (f : Chan → Chan) (d : Device) : (d.updChan k f).pacers = d.pacers := rfl
@[simp] theorem Device.updChan_tiles (k : Nat) (f : Chan → Chan) (d : Device) : (d.updChan k f).tiles = d.tiles := rfl
@[simp] theorem Device.updChan_bmes (k : Nat) (f : Chan → Chan) (d : Device) : (d.updChan k f).bmes = d.bmes := rfl
@[simp] theorem Device.updChan_net (k : Nat) (f : Chan → Chan) (d : Device) : (d.updChan k f).net = d.net := rfl
@[simp] theorem Device.updChan_pages (k : Nat) (f : Chan → Chan) (d : Device) : (d.updChan k f).pages = d.pages := rfl
@[simp] theorem Device.updChan_out (k : Nat) (f : Chan → Chan) (d : Device) : (d.updChan k f).out = d.out := rfl
@[simp] theorem Device.updChan_freeCtr (k : Nat) (f : Chan → Chan) (d : Device) : (d.updChan k f).freeCtr = d.freeCtr := rfl
theorem Device.updChan_chan (k j : Nat) (f : Chan → Chan) (d : Device) : (d.updChan k f).chan j = if j = k then f (d.chan k) else d.chan j := Map.get_upd _ _ _ _ _
@[simp] theorem Device.updChan_chan_self (k : Nat) (f : Chan → Chan) (d : Device) : (d.updChan k f).chan k = f (d.chan k) := Map.get_upd_self _ _ _ _
@[simp] theorem Device.updChan_chan_ne {k j : Nat} (f : Chan → Chan) (d : Device) (h : j ≠ k) : (d.updChan k f).chan j = d.chan j := Map.get_upd_ne _ _ _ h
@[simp] theorem Device.updChan_part_of (k j : Nat) (f : Chan → Chan) (d : Device) : (d.updChan k f).part j = d.part j := rfl
@[simp] theorem Device.updChan_port_of (k j : Nat) (f : Chan → Chan) (d : Device) : (d.updChan k f).port j = d.port j := rfl
@[simp] theorem Device.updChan_pacer_of (k j : Nat) (f : Chan → Chan) (d : Device) : (d.updChan k f).pacer j = d.pacer j := rfl
@[simp] theorem Device.updChan_tile_of (k j : Nat) (f : Chan → Chan) (d : Device) : (d.updChan k f).tile j = d.tile j := rfl
@[simp] theorem Device.updChan_bme_of (k j : Nat) (f : Chan → Chan) (d : Device) : (d.updChan k f).bme j = d.bme j := rfl
@[simp] theorem Device.updChan_page_of (k j : Nat) (f : Chan → Chan) (d : Device) : (d.updChan k f).page j = d.page j := rfl
@[simp] theorem Device.updChan_region (k j : Nat) (f : Chan → Chan) (d : Device) : (d.updChan k f).region j = d.region j := rfl

@[simp] theorem Device.updPage_clk (k : Nat) (f : PageHdr → PageHdr) (d : Device) : (d.updPage k f).clk = d.clk := rfl
@[simp] theorem Device.updPage_tk (k : Nat) (f : PageHdr → PageHdr) (d : Device) : (d.updPage k f).tk = d.tk := rfl
@[simp] theorem Device.updPage_fuses (k : Nat) (f : PageHdr → PageHdr) (d : Device) : (d.updPage k f).fuses = d.fuses := rfl
@[simp] theorem Device.updPage_sec (k : Nat) (f : PageHdr → PageHdr) (d : Device) : (d.updPage k f).sec = d.sec := rfl
@[simp] theorem Device.updPage_st (k : Nat) (f : PageHdr → PageHdr) (d : Device) : (d.updPage k f).st = d.st := rfl
@[simp] theorem Device.updPage_mb (k : Nat) (f : PageHdr → PageHdr) (d : Device) : (d.updPage k f).mb = d.mb := rfl
@[simp] theorem Device.updPage_flt (k : Nat) (f : PageHdr → PageHdr) (d : Device) : (d.updPage k f).flt = d.flt := rfl
@[simp] theorem Device.updPage_pwr (k : Nat) (f : PageHdr → PageHdr) (d : Device) : (d.updPage k f).pwr = d.pwr := rfl
@[simp] theorem Device.updPage_thr (k : Nat) (f : PageHdr → PageHdr) (d : Device) : (d.updPage k f).thr = d.thr := rfl
@[simp] theorem Device.updPage_ports (k : Nat) (f : PageHdr → PageHdr) (d : Device) : (d.updPage k f).ports = d.ports := rfl
@[simp] theorem Device.updPage_tr (k : Nat) (f : PageHdr → PageHdr) (d : Device) : (d.updPage k f).tr = d.tr := rfl
@[simp] theorem Device.updPage_starter (k : Nat) (f : PageHdr → PageHdr) (d : Device) : (d.updPage k f).starter = d.starter := rfl
@[simp] theorem Device.updPage_parts (k : Nat) (f : PageHdr → PageHdr) (d : Device) : (d.updPage k f).parts = d.parts := rfl
@[simp] theorem Device.updPage_pacers (k : Nat) (f : PageHdr → PageHdr) (d : Device) : (d.updPage k f).pacers = d.pacers := rfl
@[simp] theorem Device.updPage_tiles (k : Nat) (f : PageHdr → PageHdr) (d : Device) : (d.updPage k f).tiles = d.tiles := rfl
@[simp] theorem Device.updPage_bmes (k : Nat) (f : PageHdr → PageHdr) (d : Device) : (d.updPage k f).bmes = d.bmes := rfl
@[simp] theorem Device.updPage_chans (k : Nat) (f : PageHdr → PageHdr) (d : Device) : (d.updPage k f).chans = d.chans := rfl
@[simp] theorem Device.updPage_net (k : Nat) (f : PageHdr → PageHdr) (d : Device) : (d.updPage k f).net = d.net := rfl
@[simp] theorem Device.updPage_out (k : Nat) (f : PageHdr → PageHdr) (d : Device) : (d.updPage k f).out = d.out := rfl
@[simp] theorem Device.updPage_freeCtr (k : Nat) (f : PageHdr → PageHdr) (d : Device) : (d.updPage k f).freeCtr = d.freeCtr := rfl
theorem Device.updPage_page (k j : Nat) (f : PageHdr → PageHdr) (d : Device) : (d.updPage k f).page j = if j = k then f (d.page k) else d.page j := Map.get_upd _ _ _ _ _
@[simp] theorem Device.updPage_page_self (k : Nat) (f : PageHdr → PageHdr) (d : Device) : (d.updPage k f).page k = f (d.page k) := Map.get_upd_self _ _ _ _
@[simp] theorem Device.updPage_page_ne {k j : Nat} (f : PageHdr → PageHdr) (d : Device) (h : j ≠ k) : (d.updPage k f).page j = d.page j := Map.get_upd_ne _ _ _ h
@[simp] theorem Device.updPage_part_of (k j : Nat) (f : PageHdr → PageHdr) (d : Device) : (d.updPage k f).part j = d.part j := rfl
@[simp] theorem Device.updPage_port_of (k j : Nat) (f : PageHdr → PageHdr) (d : Device) : (d.updPage k f).port j = d.port j := rfl
@[simp] theorem Device.updPage_pacer_of (k j : Nat) (f : PageHdr → PageHdr) (d : Device) : (d.updPage k f).pacer j = d.pacer j := rfl
@[simp] theorem Device.updPage_tile_of (k j : Nat) (f : PageHdr → PageHdr) (d : Device) : (d.updPage k f).tile j = d.tile j := rfl
@[simp] theorem Device.updPage_bme_of (k j : Nat) (f : PageHdr → PageHdr) (d : Device) : (d.updPage k f).bme j = d.bme j := rfl
@[simp] theorem Device.updPage_chan_of (k j : Nat) (f : PageHdr → PageHdr) (d : Device) : (d.updPage k f).chan j = d.chan j := rfl
@[simp] theorem Device.updPage_region (k j : Nat) (f : PageHdr → PageHdr) (d : Device) : (d.updPage k f).region j = d.region j := rfl

@[simp] theorem Device.updClk_clk (f : Clock → Clock) (d : Device) : (d.updClk f).clk = f d.clk := rfl
@[simp] theorem Device.updClk_tk (f : Clock → Clock) (d : Device) : (d.updClk f).tk = d.tk := rfl
@[simp] theorem Device.updClk_fuses (f : Clock → Clock) (d : Device) : (d.updClk f).fuses = d.fuses := rfl
@[simp] theorem Device.updClk_sec (f : Clock → Clock) (d : Device) : (d.updClk f).sec = d.sec := rfl
@[simp] theorem Device.updClk_st (f : Clock → Clock) (d : Device) : (d.updClk f).st = d.st := rfl
@[simp] theorem Device.updClk_mb (f : Clock → Clock) (d : Device) : (d.updClk f).mb = d.mb := rfl
@[simp] theorem Device.updClk_flt (f : Clock → Clock) (d : Device) : (d.updClk f).flt = d.flt := rfl
@[simp] theorem Device.updClk_pwr (f : Clock → Clock) (d : Device) : (d.updClk f).pwr = d.pwr := rfl
@[simp] theorem Device.updClk_thr (f : Clock → Clock) (d : Device) : (d.updClk f).thr = d.thr := rfl
@[simp] theorem Device.updClk_ports (f : Clock → Clock) (d : Device) : (d.updClk f).ports = d.ports := rfl
@[simp] theorem Device.updClk_tr (f : Clock → Clock) (d : Device) : (d.updClk f).tr = d.tr := rfl
@[simp] theorem Device.updClk_starter (f : Clock → Clock) (d : Device) : (d.updClk f).starter = d.starter := rfl
@[simp] theorem Device.updClk_parts (f : Clock → Clock) (d : Device) : (d.updClk f).parts = d.parts := rfl
@[simp] theorem Device.updClk_pacers (f : Clock → Clock) (d : Device) : (d.updClk f).pacers = d.pacers := rfl
@[simp] theorem Device.updClk_tiles (f : Clock → Clock) (d : Device) : (d.updClk f).tiles = d.tiles := rfl
@[simp] theorem Device.updClk_bmes (f : Clock → Clock) (d : Device) : (d.updClk f).bmes = d.bmes := rfl
@[simp] theorem Device.updClk_chans (f : Clock → Clock) (d : Device) : (d.updClk f).chans = d.chans := rfl
@[simp] theorem Device.updClk_net (f : Clock → Clock) (d : Device) : (d.updClk f).net = d.net := rfl
@[simp] theorem Device.updClk_pages (f : Clock → Clock) (d : Device) : (d.updClk f).pages = d.pages := rfl
@[simp] theorem Device.updClk_out (f : Clock → Clock) (d : Device) : (d.updClk f).out = d.out := rfl
@[simp] theorem Device.updClk_freeCtr (f : Clock → Clock) (d : Device) : (d.updClk f).freeCtr = d.freeCtr := rfl
@[simp] theorem Device.updClk_part (j : Nat) (f : Clock → Clock) (d : Device) : (d.updClk f).part j = d.part j := rfl
@[simp] theorem Device.updClk_port (j : Nat) (f : Clock → Clock) (d : Device) : (d.updClk f).port j = d.port j := rfl
@[simp] theorem Device.updClk_pacer (j : Nat) (f : Clock → Clock) (d : Device) : (d.updClk f).pacer j = d.pacer j := rfl
@[simp] theorem Device.updClk_tile (j : Nat) (f : Clock → Clock) (d : Device) : (d.updClk f).tile j = d.tile j := rfl
@[simp] theorem Device.updClk_bme (j : Nat) (f : Clock → Clock) (d : Device) : (d.updClk f).bme j = d.bme j := rfl
@[simp] theorem Device.updClk_chan (j : Nat) (f : Clock → Clock) (d : Device) : (d.updClk f).chan j = d.chan j := rfl
@[simp] theorem Device.updClk_page (j : Nat) (f : Clock → Clock) (d : Device) : (d.updClk f).page j = d.page j := rfl

@[simp] theorem Device.updTk_clk (f : Timekeeper → Timekeeper) (d : Device) : (d.updTk f).clk = d.clk := rfl
@[simp] theorem Device.updTk_tk (f : Timekeeper → Timekeeper) (d : Device) : (d.updTk f).tk = f d.tk := rfl
@[simp] theorem Device.updTk_fuses (f : Timekeeper → Timekeeper) (d : Device) : (d.updTk f).fuses = d.fuses := rfl
@[simp] theorem Device.updTk_sec (f : Timekeeper → Timekeeper) (d : Device) : (d.updTk f).sec = d.sec := rfl
@[simp] theorem Device.updTk_st (f : Timekeeper → Timekeeper) (d : Device) : (d.updTk f).st = d.st := rfl
@[simp] theorem Device.updTk_mb (f : Timekeeper → Timekeeper) (d : Device) : (d.updTk f).mb = d.mb := rfl
@[simp] theorem Device.updTk_flt (f : Timekeeper → Timekeeper) (d : Device) : (d.updTk f).flt = d.flt := rfl
@[simp] theorem Device.updTk_pwr (f : Timekeeper → Timekeeper) (d : Device) : (d.updTk f).pwr = d.pwr := rfl
@[simp] theorem Device.updTk_thr (f : Timekeeper → Timekeeper) (d : Device) : (d.updTk f).thr = d.thr := rfl
@[simp] theorem Device.updTk_ports (f : Timekeeper → Timekeeper) (d : Device) : (d.updTk f).ports = d.ports := rfl
@[simp] theorem Device.updTk_tr (f : Timekeeper → Timekeeper) (d : Device) : (d.updTk f).tr = d.tr := rfl
@[simp] theorem Device.updTk_starter (f : Timekeeper → Timekeeper) (d : Device) : (d.updTk f).starter = d.starter := rfl
@[simp] theorem Device.updTk_parts (f : Timekeeper → Timekeeper) (d : Device) : (d.updTk f).parts = d.parts := rfl
@[simp] theorem Device.updTk_pacers (f : Timekeeper → Timekeeper) (d : Device) : (d.updTk f).pacers = d.pacers := rfl
@[simp] theorem Device.updTk_tiles (f : Timekeeper → Timekeeper) (d : Device) : (d.updTk f).tiles = d.tiles := rfl
@[simp] theorem Device.updTk_bmes (f : Timekeeper → Timekeeper) (d : Device) : (d.updTk f).bmes = d.bmes := rfl
@[simp] theorem Device.updTk_chans (f : Timekeeper → Timekeeper) (d : Device) : (d.updTk f).chans = d.chans := rfl
@[simp] theorem Device.updTk_net (f : Timekeeper → Timekeeper) (d : Device) : (d.updTk f).net = d.net := rfl
@[simp] theorem Device.updTk_pages (f : Timekeeper → Timekeeper) (d : Device) : (d.updTk f).pages = d.pages := rfl
@[simp] theorem Device.updTk_out (f : Timekeeper → Timekeeper) (d : Device) : (d.updTk f).out = d.out := rfl
@[simp] theorem Device.updTk_freeCtr (f : Timekeeper → Timekeeper) (d : Device) : (d.updTk f).freeCtr = d.freeCtr := rfl
@[simp] theorem Device.updTk_part (j : Nat) (f : Timekeeper → Timekeeper) (d : Device) : (d.updTk f).part j = d.part j := rfl
@[simp] theorem Device.updTk_port (j : Nat) (f : Timekeeper → Timekeeper) (d : Device) : (d.updTk f).port j = d.port j := rfl
@[simp] theorem Device.updTk_pacer (j : Nat) (f : Timekeeper → Timekeeper) (d : Device) : (d.updTk f).pacer j = d.pacer j := rfl
@[simp] theorem Device.updTk_tile (j : Nat) (f : Timekeeper → Timekeeper) (d : Device) : (d.updTk f).tile j = d.tile j := rfl
@[simp] theorem Device.updTk_bme (j : Nat) (f : Timekeeper → Timekeeper) (d : Device) : (d.updTk f).bme j = d.bme j := rfl
@[simp] theorem Device.updTk_chan (j : Nat) (f : Timekeeper → Timekeeper) (d : Device) : (d.updTk f).chan j = d.chan j := rfl
@[simp] theorem Device.updTk_page (j : Nat) (f : Timekeeper → Timekeeper) (d : Device) : (d.updTk f).page j = d.page j := rfl
@[simp] theorem Device.updTk_region (j : Nat) (f : Timekeeper → Timekeeper) (d : Device) : (d.updTk f).region j = d.region j := rfl

@[simp] theorem Device.updSec_clk (f : Security → Security) (d : Device) : (d.updSec f).clk = d.clk := rfl
@[simp] theorem Device.updSec_tk (f : Security → Security) (d : Device) : (d.updSec f).tk = d.tk := rfl
@[simp] theorem Device.updSec_fuses (f : Security → Security) (d : Device) : (d.updSec f).fuses = d.fuses := rfl
@[simp] theorem Device.updSec_sec (f : Security → Security) (d : Device) : (d.updSec f).sec = f d.sec := rfl
@[simp] theorem Device.updSec_st (f : Security → Security) (d : Device) : (d.updSec f).st = d.st := rfl
@[simp] theorem Device.updSec_mb (f : Security → Security) (d : Device) : (d.updSec f).mb = d.mb := rfl
@[simp] theorem Device.updSec_flt (f : Security → Security) (d : Device) : (d.updSec f).flt = d.flt := rfl
@[simp] theorem Device.updSec_pwr (f : Security → Security) (d : Device) : (d.updSec f).pwr = d.pwr := rfl
@[simp] theorem Device.updSec_thr (f : Security → Security) (d : Device) : (d.updSec f).thr = d.thr := rfl
@[simp] theorem Device.updSec_ports (f : Security → Security) (d : Device) : (d.updSec f).ports = d.ports := rfl
@[simp] theorem Device.updSec_tr (f : Security → Security) (d : Device) : (d.updSec f).tr = d.tr := rfl
@[simp] theorem Device.updSec_starter (f : Security → Security) (d : Device) : (d.updSec f).starter = d.starter := rfl
@[simp] theorem Device.updSec_parts (f : Security → Security) (d : Device) : (d.updSec f).parts = d.parts := rfl
@[simp] theorem Device.updSec_pacers (f : Security → Security) (d : Device) : (d.updSec f).pacers = d.pacers := rfl
@[simp] theorem Device.updSec_tiles (f : Security → Security) (d : Device) : (d.updSec f).tiles = d.tiles := rfl
@[simp] theorem Device.updSec_bmes (f : Security → Security) (d : Device) : (d.updSec f).bmes = d.bmes := rfl
@[simp] theorem Device.updSec_chans (f : Security → Security) (d : Device) : (d.updSec f).chans = d.chans := rfl
@[simp] theorem Device.updSec_net (f : Security → Security) (d : Device) : (d.updSec f).net = d.net := rfl
@[simp] theorem Device.updSec_pages (f : Security → Security) (d : Device) : (d.updSec f).pages = d.pages := rfl
@[simp] theorem Device.updSec_out (f : Security → Security) (d : Device) : (d.updSec f).out = d.out := rfl
@[simp] theorem Device.updSec_freeCtr (f : Security → Security) (d : Device) : (d.updSec f).freeCtr = d.freeCtr := rfl
@[simp] theorem Device.updSec_part (j : Nat) (f : Security → Security) (d : Device) : (d.updSec f).part j = d.part j := rfl
@[simp] theorem Device.updSec_port (j : Nat) (f : Security → Security) (d : Device) : (d.updSec f).port j = d.port j := rfl
@[simp] theorem Device.updSec_pacer (j : Nat) (f : Security → Security) (d : Device) : (d.updSec f).pacer j = d.pacer j := rfl
@[simp] theorem Device.updSec_tile (j : Nat) (f : Security → Security) (d : Device) : (d.updSec f).tile j = d.tile j := rfl
@[simp] theorem Device.updSec_bme (j : Nat) (f : Security → Security) (d : Device) : (d.updSec f).bme j = d.bme j := rfl
@[simp] theorem Device.updSec_chan (j : Nat) (f : Security → Security) (d : Device) : (d.updSec f).chan j = d.chan j := rfl
@[simp] theorem Device.updSec_page (j : Nat) (f : Security → Security) (d : Device) : (d.updSec f).page j = d.page j := rfl
@[simp] theorem Device.updSec_region (j : Nat) (f : Security → Security) (d : Device) : (d.updSec f).region j = d.region j := rfl

@[simp] theorem Device.updSt_clk (f : SelfTest → SelfTest) (d : Device) : (d.updSt f).clk = d.clk := rfl
@[simp] theorem Device.updSt_tk (f : SelfTest → SelfTest) (d : Device) : (d.updSt f).tk = d.tk := rfl
@[simp] theorem Device.updSt_fuses (f : SelfTest → SelfTest) (d : Device) : (d.updSt f).fuses = d.fuses := rfl
@[simp] theorem Device.updSt_sec (f : SelfTest → SelfTest) (d : Device) : (d.updSt f).sec = d.sec := rfl
@[simp] theorem Device.updSt_st (f : SelfTest → SelfTest) (d : Device) : (d.updSt f).st = f d.st := rfl
@[simp] theorem Device.updSt_mb (f : SelfTest → SelfTest) (d : Device) : (d.updSt f).mb = d.mb := rfl
@[simp] theorem Device.updSt_flt (f : SelfTest → SelfTest) (d : Device) : (d.updSt f).flt = d.flt := rfl
@[simp] theorem Device.updSt_pwr (f : SelfTest → SelfTest) (d : Device) : (d.updSt f).pwr = d.pwr := rfl
@[simp] theorem Device.updSt_thr (f : SelfTest → SelfTest) (d : Device) : (d.updSt f).thr = d.thr := rfl
@[simp] theorem Device.updSt_ports (f : SelfTest → SelfTest) (d : Device) : (d.updSt f).ports = d.ports := rfl
@[simp] theorem Device.updSt_tr (f : SelfTest → SelfTest) (d : Device) : (d.updSt f).tr = d.tr := rfl
@[simp] theorem Device.updSt_starter (f : SelfTest → SelfTest) (d : Device) : (d.updSt f).starter = d.starter := rfl
@[simp] theorem Device.updSt_parts (f : SelfTest → SelfTest) (d : Device) : (d.updSt f).parts = d.parts := rfl
@[simp] theorem Device.updSt_pacers (f : SelfTest → SelfTest) (d : Device) : (d.updSt f).pacers = d.pacers := rfl
@[simp] theorem Device.updSt_tiles (f : SelfTest → SelfTest) (d : Device) : (d.updSt f).tiles = d.tiles := rfl
@[simp] theorem Device.updSt_bmes (f : SelfTest → SelfTest) (d : Device) : (d.updSt f).bmes = d.bmes := rfl
@[simp] theorem Device.updSt_chans (f : SelfTest → SelfTest) (d : Device) : (d.updSt f).chans = d.chans := rfl
@[simp] theorem Device.updSt_net (f : SelfTest → SelfTest) (d : Device) : (d.updSt f).net = d.net := rfl
@[simp] theorem Device.updSt_pages (f : SelfTest → SelfTest) (d : Device) : (d.updSt f).pages = d.pages := rfl
@[simp] theorem Device.updSt_out (f : SelfTest → SelfTest) (d : Device) : (d.updSt f).out = d.out := rfl
@[simp] theorem Device.updSt_freeCtr (f : SelfTest → SelfTest) (d : Device) : (d.updSt f).freeCtr = d.freeCtr := rfl
@[simp] theorem Device.updSt_part (j : Nat) (f : SelfTest → SelfTest) (d : Device) : (d.updSt f).part j = d.part j := rfl
@[simp] theorem Device.updSt_port (j : Nat) (f : SelfTest → SelfTest) (d : Device) : (d.updSt f).port j = d.port j := rfl
@[simp] theorem Device.updSt_pacer (j : Nat) (f : SelfTest → SelfTest) (d : Device) : (d.updSt f).pacer j = d.pacer j := rfl
@[simp] theorem Device.updSt_tile (j : Nat) (f : SelfTest → SelfTest) (d : Device) : (d.updSt f).tile j = d.tile j := rfl
@[simp] theorem Device.updSt_bme (j : Nat) (f : SelfTest → SelfTest) (d : Device) : (d.updSt f).bme j = d.bme j := rfl
@[simp] theorem Device.updSt_chan (j : Nat) (f : SelfTest → SelfTest) (d : Device) : (d.updSt f).chan j = d.chan j := rfl
@[simp] theorem Device.updSt_page (j : Nat) (f : SelfTest → SelfTest) (d : Device) : (d.updSt f).page j = d.page j := rfl
@[simp] theorem Device.updSt_region (j : Nat) (f : SelfTest → SelfTest) (d : Device) : (d.updSt f).region j = d.region j := rfl

@[simp] theorem Device.updMb_clk (f : Mailbox → Mailbox) (d : Device) : (d.updMb f).clk = d.clk := rfl
@[simp] theorem Device.updMb_tk (f : Mailbox → Mailbox) (d : Device) : (d.updMb f).tk = d.tk := rfl
@[simp] theorem Device.updMb_fuses (f : Mailbox → Mailbox) (d : Device) : (d.updMb f).fuses = d.fuses := rfl
@[simp] theorem Device.updMb_sec (f : Mailbox → Mailbox) (d : Device) : (d.updMb f).sec = d.sec := rfl
@[simp] theorem Device.updMb_st (f : Mailbox → Mailbox) (d : Device) : (d.updMb f).st = d.st := rfl
@[simp] theorem Device.updMb_mb (f : Mailbox → Mailbox) (d : Device) : (d.updMb f).mb = f d.mb := rfl
@[simp] theorem Device.updMb_flt (f : Mailbox → Mailbox) (d : Device) : (d.updMb f).flt = d.flt := rfl
@[simp] theorem Device.updMb_pwr (f : Mailbox → Mailbox) (d : Device) : (d.updMb f).pwr = d.pwr := rfl
@[simp] theorem Device.updMb_thr (f : Mailbox → Mailbox) (d : Device) : (d.updMb f).thr = d.thr := rfl
@[simp] theorem Device.updMb_ports (f : Mailbox → Mailbox) (d : Device) : (d.updMb f).ports = d.ports := rfl
@[simp] theorem Device.updMb_tr (f : Mailbox → Mailbox) (d : Device) : (d.updMb f).tr = d.tr := rfl
@[simp] theorem Device.updMb_starter (f : Mailbox → Mailbox) (d : Device) : (d.updMb f).starter = d.starter := rfl
@[simp] theorem Device.updMb_parts (f : Mailbox → Mailbox) (d : Device) : (d.updMb f).parts = d.parts := rfl
@[simp] theorem Device.updMb_pacers (f : Mailbox → Mailbox) (d : Device) : (d.updMb f).pacers = d.pacers := rfl
@[simp] theorem Device.updMb_tiles (f : Mailbox → Mailbox) (d : Device) : (d.updMb f).tiles = d.tiles := rfl
@[simp] theorem Device.updMb_bmes (f : Mailbox → Mailbox) (d : Device) : (d.updMb f).bmes = d.bmes := rfl
@[simp] theorem Device.updMb_chans (f : Mailbox → Mailbox) (d : Device) : (d.updMb f).chans = d.chans := rfl
@[simp] theorem Device.updMb_net (f : Mailbox → Mailbox) (d : Device) : (d.updMb f).net = d.net := rfl
@[simp] theorem Device.updMb_pages (f : Mailbox → Mailbox) (d : Device) : (d.updMb f).pages = d.pages := rfl
@[simp] theorem Device.updMb_out (f : Mailbox → Mailbox) (d : Device) : (d.updMb f).out = d.out := rfl
@[simp] theorem Device.updMb_freeCtr (f : Mailbox → Mailbox) (d : Device) : (d.updMb f).freeCtr = d.freeCtr := rfl
@[simp] theorem Device.updMb_part (j : Nat) (f : Mailbox → Mailbox) (d : Device) : (d.updMb f).part j = d.part j := rfl
@[simp] theorem Device.updMb_port (j : Nat) (f : Mailbox → Mailbox) (d : Device) : (d.updMb f).port j = d.port j := rfl
@[simp] theorem Device.updMb_pacer (j : Nat) (f : Mailbox → Mailbox) (d : Device) : (d.updMb f).pacer j = d.pacer j := rfl
@[simp] theorem Device.updMb_tile (j : Nat) (f : Mailbox → Mailbox) (d : Device) : (d.updMb f).tile j = d.tile j := rfl
@[simp] theorem Device.updMb_bme (j : Nat) (f : Mailbox → Mailbox) (d : Device) : (d.updMb f).bme j = d.bme j := rfl
@[simp] theorem Device.updMb_chan (j : Nat) (f : Mailbox → Mailbox) (d : Device) : (d.updMb f).chan j = d.chan j := rfl
@[simp] theorem Device.updMb_page (j : Nat) (f : Mailbox → Mailbox) (d : Device) : (d.updMb f).page j = d.page j := rfl
@[simp] theorem Device.updMb_region (j : Nat) (f : Mailbox → Mailbox) (d : Device) : (d.updMb f).region j = d.region j := rfl

@[simp] theorem Device.updFlt_clk (f : Faults → Faults) (d : Device) : (d.updFlt f).clk = d.clk := rfl
@[simp] theorem Device.updFlt_tk (f : Faults → Faults) (d : Device) : (d.updFlt f).tk = d.tk := rfl
@[simp] theorem Device.updFlt_fuses (f : Faults → Faults) (d : Device) : (d.updFlt f).fuses = d.fuses := rfl
@[simp] theorem Device.updFlt_sec (f : Faults → Faults) (d : Device) : (d.updFlt f).sec = d.sec := rfl
@[simp] theorem Device.updFlt_st (f : Faults → Faults) (d : Device) : (d.updFlt f).st = d.st := rfl
@[simp] theorem Device.updFlt_mb (f : Faults → Faults) (d : Device) : (d.updFlt f).mb = d.mb := rfl
@[simp] theorem Device.updFlt_flt (f : Faults → Faults) (d : Device) : (d.updFlt f).flt = f d.flt := rfl
@[simp] theorem Device.updFlt_pwr (f : Faults → Faults) (d : Device) : (d.updFlt f).pwr = d.pwr := rfl
@[simp] theorem Device.updFlt_thr (f : Faults → Faults) (d : Device) : (d.updFlt f).thr = d.thr := rfl
@[simp] theorem Device.updFlt_ports (f : Faults → Faults) (d : Device) : (d.updFlt f).ports = d.ports := rfl
@[simp] theorem Device.updFlt_tr (f : Faults → Faults) (d : Device) : (d.updFlt f).tr = d.tr := rfl
@[simp] theorem Device.updFlt_starter (f : Faults → Faults) (d : Device) : (d.updFlt f).starter = d.starter := rfl
@[simp] theorem Device.updFlt_parts (f : Faults → Faults) (d : Device) : (d.updFlt f).parts = d.parts := rfl
@[simp] theorem Device.updFlt_pacers (f : Faults → Faults) (d : Device) : (d.updFlt f).pacers = d.pacers := rfl
@[simp] theorem Device.updFlt_tiles (f : Faults → Faults) (d : Device) : (d.updFlt f).tiles = d.tiles := rfl
@[simp] theorem Device.updFlt_bmes (f : Faults → Faults) (d : Device) : (d.updFlt f).bmes = d.bmes := rfl
@[simp] theorem Device.updFlt_chans (f : Faults → Faults) (d : Device) : (d.updFlt f).chans = d.chans := rfl
@[simp] theorem Device.updFlt_net (f : Faults → Faults) (d : Device) : (d.updFlt f).net = d.net := rfl
@[simp] theorem Device.updFlt_pages (f : Faults → Faults) (d : Device) : (d.updFlt f).pages = d.pages := rfl
@[simp] theorem Device.updFlt_out (f : Faults → Faults) (d : Device) : (d.updFlt f).out = d.out := rfl
@[simp] theorem Device.updFlt_freeCtr (f : Faults → Faults) (d : Device) : (d.updFlt f).freeCtr = d.freeCtr := rfl
@[simp] theorem Device.updFlt_part (j : Nat) (f : Faults → Faults) (d : Device) : (d.updFlt f).part j = d.part j := rfl
@[simp] theorem Device.updFlt_port (j : Nat) (f : Faults → Faults) (d : Device) : (d.updFlt f).port j = d.port j := rfl
@[simp] theorem Device.updFlt_pacer (j : Nat) (f : Faults → Faults) (d : Device) : (d.updFlt f).pacer j = d.pacer j := rfl
@[simp] theorem Device.updFlt_tile (j : Nat) (f : Faults → Faults) (d : Device) : (d.updFlt f).tile j = d.tile j := rfl
@[simp] theorem Device.updFlt_bme (j : Nat) (f : Faults → Faults) (d : Device) : (d.updFlt f).bme j = d.bme j := rfl
@[simp] theorem Device.updFlt_chan (j : Nat) (f : Faults → Faults) (d : Device) : (d.updFlt f).chan j = d.chan j := rfl
@[simp] theorem Device.updFlt_page (j : Nat) (f : Faults → Faults) (d : Device) : (d.updFlt f).page j = d.page j := rfl
@[simp] theorem Device.updFlt_region (j : Nat) (f : Faults → Faults) (d : Device) : (d.updFlt f).region j = d.region j := rfl

@[simp] theorem Device.updPwr_clk (f : Power → Power) (d : Device) : (d.updPwr f).clk = d.clk := rfl
@[simp] theorem Device.updPwr_tk (f : Power → Power) (d : Device) : (d.updPwr f).tk = d.tk := rfl
@[simp] theorem Device.updPwr_fuses (f : Power → Power) (d : Device) : (d.updPwr f).fuses = d.fuses := rfl
@[simp] theorem Device.updPwr_sec (f : Power → Power) (d : Device) : (d.updPwr f).sec = d.sec := rfl
@[simp] theorem Device.updPwr_st (f : Power → Power) (d : Device) : (d.updPwr f).st = d.st := rfl
@[simp] theorem Device.updPwr_mb (f : Power → Power) (d : Device) : (d.updPwr f).mb = d.mb := rfl
@[simp] theorem Device.updPwr_flt (f : Power → Power) (d : Device) : (d.updPwr f).flt = d.flt := rfl
@[simp] theorem Device.updPwr_pwr (f : Power → Power) (d : Device) : (d.updPwr f).pwr = f d.pwr := rfl
@[simp] theorem Device.updPwr_thr (f : Power → Power) (d : Device) : (d.updPwr f).thr = d.thr := rfl
@[simp] theorem Device.updPwr_ports (f : Power → Power) (d : Device) : (d.updPwr f).ports = d.ports := rfl
@[simp] theorem Device.updPwr_tr (f : Power → Power) (d : Device) : (d.updPwr f).tr = d.tr := rfl
@[simp] theorem Device.updPwr_starter (f : Power → Power) (d : Device) : (d.updPwr f).starter = d.starter := rfl
@[simp] theorem Device.updPwr_parts (f : Power → Power) (d : Device) : (d.updPwr f).parts = d.parts := rfl
@[simp] theorem Device.updPwr_pacers (f : Power → Power) (d : Device) : (d.updPwr f).pacers = d.pacers := rfl
@[simp] theorem Device.updPwr_tiles (f : Power → Power) (d : Device) : (d.updPwr f).tiles = d.tiles := rfl
@[simp] theorem Device.updPwr_bmes (f : Power → Power) (d : Device) : (d.updPwr f).bmes = d.bmes := rfl
@[simp] theorem Device.updPwr_chans (f : Power → Power) (d : Device) : (d.updPwr f).chans = d.chans := rfl
@[simp] theorem Device.updPwr_net (f : Power → Power) (d : Device) : (d.updPwr f).net = d.net := rfl
@[simp] theorem Device.updPwr_pages (f : Power → Power) (d : Device) : (d.updPwr f).pages = d.pages := rfl
@[simp] theorem Device.updPwr_out (f : Power → Power) (d : Device) : (d.updPwr f).out = d.out := rfl
@[simp] theorem Device.updPwr_freeCtr (f : Power → Power) (d : Device) : (d.updPwr f).freeCtr = d.freeCtr := rfl
@[simp] theorem Device.updPwr_part (j : Nat) (f : Power → Power) (d : Device) : (d.updPwr f).part j = d.part j := rfl
@[simp] theorem Device.updPwr_port (j : Nat) (f : Power → Power) (d : Device) : (d.updPwr f).port j = d.port j := rfl
@[simp] theorem Device.updPwr_pacer (j : Nat) (f : Power → Power) (d : Device) : (d.updPwr f).pacer j = d.pacer j := rfl
@[simp] theorem Device.updPwr_tile (j : Nat) (f : Power → Power) (d : Device) : (d.updPwr f).tile j = d.tile j := rfl
@[simp] theorem Device.updPwr_bme (j : Nat) (f : Power → Power) (d : Device) : (d.updPwr f).bme j = d.bme j := rfl
@[simp] theorem Device.updPwr_chan (j : Nat) (f : Power → Power) (d : Device) : (d.updPwr f).chan j = d.chan j := rfl
@[simp] theorem Device.updPwr_page (j : Nat) (f : Power → Power) (d : Device) : (d.updPwr f).page j = d.page j := rfl
@[simp] theorem Device.updPwr_region (j : Nat) (f : Power → Power) (d : Device) : (d.updPwr f).region j = d.region j := rfl

@[simp] theorem Device.updThr_clk (f : Thermal → Thermal) (d : Device) : (d.updThr f).clk = d.clk := rfl
@[simp] theorem Device.updThr_tk (f : Thermal → Thermal) (d : Device) : (d.updThr f).tk = d.tk := rfl
@[simp] theorem Device.updThr_fuses (f : Thermal → Thermal) (d : Device) : (d.updThr f).fuses = d.fuses := rfl
@[simp] theorem Device.updThr_sec (f : Thermal → Thermal) (d : Device) : (d.updThr f).sec = d.sec := rfl
@[simp] theorem Device.updThr_st (f : Thermal → Thermal) (d : Device) : (d.updThr f).st = d.st := rfl
@[simp] theorem Device.updThr_mb (f : Thermal → Thermal) (d : Device) : (d.updThr f).mb = d.mb := rfl
@[simp] theorem Device.updThr_flt (f : Thermal → Thermal) (d : Device) : (d.updThr f).flt = d.flt := rfl
@[simp] theorem Device.updThr_pwr (f : Thermal → Thermal) (d : Device) : (d.updThr f).pwr = d.pwr := rfl
@[simp] theorem Device.updThr_thr (f : Thermal → Thermal) (d : Device) : (d.updThr f).thr = f d.thr := rfl
@[simp] theorem Device.updThr_ports (f : Thermal → Thermal) (d : Device) : (d.updThr f).ports = d.ports := rfl
@[simp] theorem Device.updThr_tr (f : Thermal → Thermal) (d : Device) : (d.updThr f).tr = d.tr := rfl
@[simp] theorem Device.updThr_starter (f : Thermal → Thermal) (d : Device) : (d.updThr f).starter = d.starter := rfl
@[simp] theorem Device.updThr_parts (f : Thermal → Thermal) (d : Device) : (d.updThr f).parts = d.parts := rfl
@[simp] theorem Device.updThr_pacers (f : Thermal → Thermal) (d : Device) : (d.updThr f).pacers = d.pacers := rfl
@[simp] theorem Device.updThr_tiles (f : Thermal → Thermal) (d : Device) : (d.updThr f).tiles = d.tiles := rfl
@[simp] theorem Device.updThr_bmes (f : Thermal → Thermal) (d : Device) : (d.updThr f).bmes = d.bmes := rfl
@[simp] theorem Device.updThr_chans (f : Thermal → Thermal) (d : Device) : (d.updThr f).chans = d.chans := rfl
@[simp] theorem Device.updThr_net (f : Thermal → Thermal) (d : Device) : (d.updThr f).net = d.net := rfl
@[simp] theorem Device.updThr_pages (f : Thermal → Thermal) (d : Device) : (d.updThr f).pages = d.pages := rfl
@[simp] theorem Device.updThr_out (f : Thermal → Thermal) (d : Device) : (d.updThr f).out = d.out := rfl
@[simp] theorem Device.updThr_freeCtr (f : Thermal → Thermal) (d : Device) : (d.updThr f).freeCtr = d.freeCtr := rfl
@[simp] theorem Device.updThr_part (j : Nat) (f : Thermal → Thermal) (d : Device) : (d.updThr f).part j = d.part j := rfl
@[simp] theorem Device.updThr_port (j : Nat) (f : Thermal → Thermal) (d : Device) : (d.updThr f).port j = d.port j := rfl
@[simp] theorem Device.updThr_pacer (j : Nat) (f : Thermal → Thermal) (d : Device) : (d.updThr f).pacer j = d.pacer j := rfl
@[simp] theorem Device.updThr_tile (j : Nat) (f : Thermal → Thermal) (d : Device) : (d.updThr f).tile j = d.tile j := rfl
@[simp] theorem Device.updThr_bme (j : Nat) (f : Thermal → Thermal) (d : Device) : (d.updThr f).bme j = d.bme j := rfl
@[simp] theorem Device.updThr_chan (j : Nat) (f : Thermal → Thermal) (d : Device) : (d.updThr f).chan j = d.chan j := rfl
@[simp] theorem Device.updThr_page (j : Nat) (f : Thermal → Thermal) (d : Device) : (d.updThr f).page j = d.page j := rfl
@[simp] theorem Device.updThr_region (j : Nat) (f : Thermal → Thermal) (d : Device) : (d.updThr f).region j = d.region j := rfl

@[simp] theorem Device.updTr_clk (f : Transport → Transport) (d : Device) : (d.updTr f).clk = d.clk := rfl
@[simp] theorem Device.updTr_tk (f : Transport → Transport) (d : Device) : (d.updTr f).tk = d.tk := rfl
@[simp] theorem Device.updTr_fuses (f : Transport → Transport) (d : Device) : (d.updTr f).fuses = d.fuses := rfl
@[simp] theorem Device.updTr_sec (f : Transport → Transport) (d : Device) : (d.updTr f).sec = d.sec := rfl
@[simp] theorem Device.updTr_st (f : Transport → Transport) (d : Device) : (d.updTr f).st = d.st := rfl
@[simp] theorem Device.updTr_mb (f : Transport → Transport) (d : Device) : (d.updTr f).mb = d.mb := rfl
@[simp] theorem Device.updTr_flt (f : Transport → Transport) (d : Device) : (d.updTr f).flt = d.flt := rfl
@[simp] theorem Device.updTr_pwr (f : Transport → Transport) (d : Device) : (d.updTr f).pwr = d.pwr := rfl
@[simp] theorem Device.updTr_thr (f : Transport → Transport) (d : Device) : (d.updTr f).thr = d.thr := rfl
@[simp] theorem Device.updTr_ports (f : Transport → Transport) (d : Device) : (d.updTr f).ports = d.ports := rfl
@[simp] theorem Device.updTr_tr (f : Transport → Transport) (d : Device) : (d.updTr f).tr = f d.tr := rfl
@[simp] theorem Device.updTr_starter (f : Transport → Transport) (d : Device) : (d.updTr f).starter = d.starter := rfl
@[simp] theorem Device.updTr_parts (f : Transport → Transport) (d : Device) : (d.updTr f).parts = d.parts := rfl
@[simp] theorem Device.updTr_pacers (f : Transport → Transport) (d : Device) : (d.updTr f).pacers = d.pacers := rfl
@[simp] theorem Device.updTr_tiles (f : Transport → Transport) (d : Device) : (d.updTr f).tiles = d.tiles := rfl
@[simp] theorem Device.updTr_bmes (f : Transport → Transport) (d : Device) : (d.updTr f).bmes = d.bmes := rfl
@[simp] theorem Device.updTr_chans (f : Transport → Transport) (d : Device) : (d.updTr f).chans = d.chans := rfl
@[simp] theorem Device.updTr_net (f : Transport → Transport) (d : Device) : (d.updTr f).net = d.net := rfl
@[simp] theorem Device.updTr_pages (f : Transport → Transport) (d : Device) : (d.updTr f).pages = d.pages := rfl
@[simp] theorem Device.updTr_out (f : Transport → Transport) (d : Device) : (d.updTr f).out = d.out := rfl
@[simp] theorem Device.updTr_freeCtr (f : Transport → Transport) (d : Device) : (d.updTr f).freeCtr = d.freeCtr := rfl
@[simp] theorem Device.updTr_part (j : Nat) (f : Transport → Transport) (d : Device) : (d.updTr f).part j = d.part j := rfl
@[simp] theorem Device.updTr_port (j : Nat) (f : Transport → Transport) (d : Device) : (d.updTr f).port j = d.port j := rfl
@[simp] theorem Device.updTr_pacer (j : Nat) (f : Transport → Transport) (d : Device) : (d.updTr f).pacer j = d.pacer j := rfl
@[simp] theorem Device.updTr_tile (j : Nat) (f : Transport → Transport) (d : Device) : (d.updTr f).tile j = d.tile j := rfl
@[simp] theorem Device.updTr_bme (j : Nat) (f : Transport → Transport) (d : Device) : (d.updTr f).bme j = d.bme j := rfl
@[simp] theorem Device.updTr_chan (j : Nat) (f : Transport → Transport) (d : Device) : (d.updTr f).chan j = d.chan j := rfl
@[simp] theorem Device.updTr_page (j : Nat) (f : Transport → Transport) (d : Device) : (d.updTr f).page j = d.page j := rfl
@[simp] theorem Device.updTr_region (j : Nat) (f : Transport → Transport) (d : Device) : (d.updTr f).region j = d.region j := rfl

@[simp] theorem Device.updStarter_clk (f : Starter → Starter) (d : Device) : (d.updStarter f).clk = d.clk := rfl
@[simp] theorem Device.updStarter_tk (f : Starter → Starter) (d : Device) : (d.updStarter f).tk = d.tk := rfl
@[simp] theorem Device.updStarter_fuses (f : Starter → Starter) (d : Device) : (d.updStarter f).fuses = d.fuses := rfl
@[simp] theorem Device.updStarter_sec (f : Starter → Starter) (d : Device) : (d.updStarter f).sec = d.sec := rfl
@[simp] theorem Device.updStarter_st (f : Starter → Starter) (d : Device) : (d.updStarter f).st = d.st := rfl
@[simp] theorem Device.updStarter_mb (f : Starter → Starter) (d : Device) : (d.updStarter f).mb = d.mb := rfl
@[simp] theorem Device.updStarter_flt (f : Starter → Starter) (d : Device) : (d.updStarter f).flt = d.flt := rfl
@[simp] theorem Device.updStarter_pwr (f : Starter → Starter) (d : Device) : (d.updStarter f).pwr = d.pwr := rfl
@[simp] theorem Device.updStarter_thr (f : Starter → Starter) (d : Device) : (d.updStarter f).thr = d.thr := rfl
@[simp] theorem Device.updStarter_ports (f : Starter → Starter) (d : Device) : (d.updStarter f).ports = d.ports := rfl
@[simp] theorem Device.updStarter_tr (f : Starter → Starter) (d : Device) : (d.updStarter f).tr = d.tr := rfl
@[simp] theorem Device.updStarter_starter (f : Starter → Starter) (d : Device) : (d.updStarter f).starter = f d.starter := rfl
@[simp] theorem Device.updStarter_parts (f : Starter → Starter) (d : Device) : (d.updStarter f).parts = d.parts := rfl
@[simp] theorem Device.updStarter_pacers (f : Starter → Starter) (d : Device) : (d.updStarter f).pacers = d.pacers := rfl
@[simp] theorem Device.updStarter_tiles (f : Starter → Starter) (d : Device) : (d.updStarter f).tiles = d.tiles := rfl
@[simp] theorem Device.updStarter_bmes (f : Starter → Starter) (d : Device) : (d.updStarter f).bmes = d.bmes := rfl
@[simp] theorem Device.updStarter_chans (f : Starter → Starter) (d : Device) : (d.updStarter f).chans = d.chans := rfl
@[simp] theorem Device.updStarter_net (f : Starter → Starter) (d : Device) : (d.updStarter f).net = d.net := rfl
@[simp] theorem Device.updStarter_pages (f : Starter → Starter) (d : Device) : (d.updStarter f).pages = d.pages := rfl
@[simp] theorem Device.updStarter_out (f : Starter → Starter) (d : Device) : (d.updStarter f).out = d.out := rfl
@[simp] theorem Device.updStarter_freeCtr (f : Starter → Starter) (d : Device) : (d.updStarter f).freeCtr = d.freeCtr := rfl
@[simp] theorem Device.updStarter_part (j : Nat) (f : Starter → Starter) (d : Device) : (d.updStarter f).part j = d.part j := rfl
@[simp] theorem Device.updStarter_port (j : Nat) (f : Starter → Starter) (d : Device) : (d.updStarter f).port j = d.port j := rfl
@[simp] theorem Device.updStarter_pacer (j : Nat) (f : Starter → Starter) (d : Device) : (d.updStarter f).pacer j = d.pacer j := rfl
@[simp] theorem Device.updStarter_tile (j : Nat) (f : Starter → Starter) (d : Device) : (d.updStarter f).tile j = d.tile j := rfl
@[simp] theorem Device.updStarter_bme (j : Nat) (f : Starter → Starter) (d : Device) : (d.updStarter f).bme j = d.bme j := rfl
@[simp] theorem Device.updStarter_chan (j : Nat) (f : Starter → Starter) (d : Device) : (d.updStarter f).chan j = d.chan j := rfl
@[simp] theorem Device.updStarter_page (j : Nat) (f : Starter → Starter) (d : Device) : (d.updStarter f).page j = d.page j := rfl
@[simp] theorem Device.updStarter_region (j : Nat) (f : Starter → Starter) (d : Device) : (d.updStarter f).region j = d.region j := rfl

@[simp] theorem Device.updRun_clk (k : Nat) (f : Run → Run) (d : Device) : (d.updRun k f).clk = d.clk := rfl
@[simp] theorem Device.updRun_tk (k : Nat) (f : Run → Run) (d : Device) : (d.updRun k f).tk = d.tk := rfl
@[simp] theorem Device.updRun_fuses (k : Nat) (f : Run → Run) (d : Device) : (d.updRun k f).fuses = d.fuses := rfl
@[simp] theorem Device.updRun_sec (k : Nat) (f : Run → Run) (d : Device) : (d.updRun k f).sec = d.sec := rfl
@[simp] theorem Device.updRun_st (k : Nat) (f : Run → Run) (d : Device) : (d.updRun k f).st = d.st := rfl
@[simp] theorem Device.updRun_mb (k : Nat) (f : Run → Run) (d : Device) : (d.updRun k f).mb = d.mb := rfl
@[simp] theorem Device.updRun_flt (k : Nat) (f : Run → Run) (d : Device) : (d.updRun k f).flt = d.flt := rfl
@[simp] theorem Device.updRun_pwr (k : Nat) (f : Run → Run) (d : Device) : (d.updRun k f).pwr = d.pwr := rfl
@[simp] theorem Device.updRun_thr (k : Nat) (f : Run → Run) (d : Device) : (d.updRun k f).thr = d.thr := rfl
@[simp] theorem Device.updRun_ports (k : Nat) (f : Run → Run) (d : Device) : (d.updRun k f).ports = d.ports := rfl
@[simp] theorem Device.updRun_tr (k : Nat) (f : Run → Run) (d : Device) : (d.updRun k f).tr = d.tr := rfl
@[simp] theorem Device.updRun_starter (k : Nat) (f : Run → Run) (d : Device) : (d.updRun k f).starter = d.starter := rfl
@[simp] theorem Device.updRun_pacers (k : Nat) (f : Run → Run) (d : Device) : (d.updRun k f).pacers = d.pacers := rfl
@[simp] theorem Device.updRun_tiles (k : Nat) (f : Run → Run) (d : Device) : (d.updRun k f).tiles = d.tiles := rfl
@[simp] theorem Device.updRun_bmes (k : Nat) (f : Run → Run) (d : Device) : (d.updRun k f).bmes = d.bmes := rfl
@[simp] theorem Device.updRun_chans (k : Nat) (f : Run → Run) (d : Device) : (d.updRun k f).chans = d.chans := rfl
@[simp] theorem Device.updRun_net (k : Nat) (f : Run → Run) (d : Device) : (d.updRun k f).net = d.net := rfl
@[simp] theorem Device.updRun_pages (k : Nat) (f : Run → Run) (d : Device) : (d.updRun k f).pages = d.pages := rfl
@[simp] theorem Device.updRun_out (k : Nat) (f : Run → Run) (d : Device) : (d.updRun k f).out = d.out := rfl
@[simp] theorem Device.updRun_freeCtr (k : Nat) (f : Run → Run) (d : Device) : (d.updRun k f).freeCtr = d.freeCtr := rfl
theorem Device.updRun_part (k j : Nat) (f : Run → Run) (d : Device) :
    (d.updRun k f).part j = if j = k then { d.part k with run := f (d.part k).run } else d.part j := Device.updPart_part _ _ _ _
@[simp] theorem Device.updRun_part_self (k : Nat) (f : Run → Run) (d : Device) : (d.updRun k f).part k = { d.part k with run := f (d.part k).run } :=
  Device.updPart_part_self _ _ _
@[simp] theorem Device.updRun_part_ne {k j : Nat} (f : Run → Run) (d : Device) (h : j ≠ k) : (d.updRun k f).part j = d.part j := Device.updPart_part_ne _ _ h
@[simp] theorem Device.updRun_port_of (k j : Nat) (f : Run → Run) (d : Device) : (d.updRun k f).port j = d.port j := rfl
@[simp] theorem Device.updRun_pacer_of (k j : Nat) (f : Run → Run) (d : Device) : (d.updRun k f).pacer j = d.pacer j := rfl
@[simp] theorem Device.updRun_tile_of (k j : Nat) (f : Run → Run) (d : Device) : (d.updRun k f).tile j = d.tile j := rfl
@[simp] theorem Device.updRun_bme_of (k j : Nat) (f : Run → Run) (d : Device) : (d.updRun k f).bme j = d.bme j := rfl
@[simp] theorem Device.updRun_chan_of (k j : Nat) (f : Run → Run) (d : Device) : (d.updRun k f).chan j = d.chan j := rfl
@[simp] theorem Device.updRun_page_of (k j : Nat) (f : Run → Run) (d : Device) : (d.updRun k f).page j = d.page j := rfl
@[simp] theorem Device.updRun_region (k j : Nat) (f : Run → Run) (d : Device) : (d.updRun k f).region j = d.region j := rfl

@[simp] theorem Device.updServing_clk (k : Nat) (f : Serving → Serving) (d : Device) : (d.updServing k f).clk = d.clk := rfl
@[simp] theorem Device.updServing_tk (k : Nat) (f : Serving → Serving) (d : Device) : (d.updServing k f).tk = d.tk := rfl
@[simp] theorem Device.updServing_fuses (k : Nat) (f : Serving → Serving) (d : Device) : (d.updServing k f).fuses = d.fuses := rfl
@[simp] theorem Device.updServing_sec (k : Nat) (f : Serving → Serving) (d : Device) : (d.updServing k f).sec = d.sec := rfl
@[simp] theorem Device.updServing_st (k : Nat) (f : Serving → Serving) (d : Device) : (d.updServing k f).st = d.st := rfl
@[simp] theorem Device.updServing_mb (k : Nat) (f : Serving → Serving) (d : Device) : (d.updServing k f).mb = d.mb := rfl
@[simp] theorem Device.updServing_flt (k : Nat) (f : Serving → Serving) (d : Device) : (d.updServing k f).flt = d.flt := rfl
@[simp] theorem Device.updServing_pwr (k : Nat) (f : Serving → Serving) (d : Device) : (d.updServing k f).pwr = d.pwr := rfl
@[simp] theorem Device.updServing_thr (k : Nat) (f : Serving → Serving) (d : Device) : (d.updServing k f).thr = d.thr := rfl
@[simp] theorem Device.updServing_ports (k : Nat) (f : Serving → Serving) (d : Device) : (d.updServing k f).ports = d.ports := rfl
@[simp] theorem Device.updServing_tr (k : Nat) (f : Serving → Serving) (d : Device) : (d.updServing k f).tr = d.tr := rfl
@[simp] theorem Device.updServing_starter (k : Nat) (f : Serving → Serving) (d : Device) : (d.updServing k f).starter = d.starter := rfl
@[simp] theorem Device.updServing_pacers (k : Nat) (f : Serving → Serving) (d : Device) : (d.updServing k f).pacers = d.pacers := rfl
@[simp] theorem Device.updServing_tiles (k : Nat) (f : Serving → Serving) (d : Device) : (d.updServing k f).tiles = d.tiles := rfl
@[simp] theorem Device.updServing_bmes (k : Nat) (f : Serving → Serving) (d : Device) : (d.updServing k f).bmes = d.bmes := rfl
@[simp] theorem Device.updServing_chans (k : Nat) (f : Serving → Serving) (d : Device) : (d.updServing k f).chans = d.chans := rfl
@[simp] theorem Device.updServing_net (k : Nat) (f : Serving → Serving) (d : Device) : (d.updServing k f).net = d.net := rfl
@[simp] theorem Device.updServing_pages (k : Nat) (f : Serving → Serving) (d : Device) : (d.updServing k f).pages = d.pages := rfl
@[simp] theorem Device.updServing_out (k : Nat) (f : Serving → Serving) (d : Device) : (d.updServing k f).out = d.out := rfl
@[simp] theorem Device.updServing_freeCtr (k : Nat) (f : Serving → Serving) (d : Device) : (d.updServing k f).freeCtr = d.freeCtr := rfl
theorem Device.updServing_part (k j : Nat) (f : Serving → Serving) (d : Device) :
    (d.updServing k f).part j = if j = k then { d.part k with serving := f (d.part k).serving } else d.part j := Device.updPart_part _ _ _ _
@[simp] theorem Device.updServing_part_self (k : Nat) (f : Serving → Serving) (d : Device) : (d.updServing k f).part k = { d.part k with serving := f (d.part k).serving } :=
  Device.updPart_part_self _ _ _
@[simp] theorem Device.updServing_part_ne {k j : Nat} (f : Serving → Serving) (d : Device) (h : j ≠ k) : (d.updServing k f).part j = d.part j := Device.updPart_part_ne _ _ h
@[simp] theorem Device.updServing_port_of (k j : Nat) (f : Serving → Serving) (d : Device) : (d.updServing k f).port j = d.port j := rfl
@[simp] theorem Device.updServing_pacer_of (k j : Nat) (f : Serving → Serving) (d : Device) : (d.updServing k f).pacer j = d.pacer j := rfl
@[simp] theorem Device.updServing_tile_of (k j : Nat) (f : Serving → Serving) (d : Device) : (d.updServing k f).tile j = d.tile j := rfl
@[simp] theorem Device.updServing_bme_of (k j : Nat) (f : Serving → Serving) (d : Device) : (d.updServing k f).bme j = d.bme j := rfl
@[simp] theorem Device.updServing_chan_of (k j : Nat) (f : Serving → Serving) (d : Device) : (d.updServing k f).chan j = d.chan j := rfl
@[simp] theorem Device.updServing_page_of (k j : Nat) (f : Serving → Serving) (d : Device) : (d.updServing k f).page j = d.page j := rfl
@[simp] theorem Device.updServing_region (k j : Nat) (f : Serving → Serving) (d : Device) : (d.updServing k f).region j = d.region j := rfl

@[simp] theorem Device.updShadow_clk (k : Nat) (f : Shadow → Shadow) (d : Device) : (d.updShadow k f).clk = d.clk := rfl
@[simp] theorem Device.updShadow_tk (k : Nat) (f : Shadow → Shadow) (d : Device) : (d.updShadow k f).tk = d.tk := rfl
@[simp] theorem Device.updShadow_fuses (k : Nat) (f : Shadow → Shadow) (d : Device) : (d.updShadow k f).fuses = d.fuses := rfl
@[simp] theorem Device.updShadow_sec (k : Nat) (f : Shadow → Shadow) (d : Device) : (d.updShadow k f).sec = d.sec := rfl
@[simp] theorem Device.updShadow_st (k : Nat) (f : Shadow → Shadow) (d : Device) : (d.updShadow k f).st = d.st := rfl
@[simp] theorem Device.updShadow_mb (k : Nat) (f : Shadow → Shadow) (d : Device) : (d.updShadow k f).mb = d.mb := rfl
@[simp] theorem Device.updShadow_flt (k : Nat) (f : Shadow → Shadow) (d : Device) : (d.updShadow k f).flt = d.flt := rfl
@[simp] theorem Device.updShadow_pwr (k : Nat) (f : Shadow → Shadow) (d : Device) : (d.updShadow k f).pwr = d.pwr := rfl
@[simp] theorem Device.updShadow_thr (k : Nat) (f : Shadow → Shadow) (d : Device) : (d.updShadow k f).thr = d.thr := rfl
@[simp] theorem Device.updShadow_ports (k : Nat) (f : Shadow → Shadow) (d : Device) : (d.updShadow k f).ports = d.ports := rfl
@[simp] theorem Device.updShadow_tr (k : Nat) (f : Shadow → Shadow) (d : Device) : (d.updShadow k f).tr = d.tr := rfl
@[simp] theorem Device.updShadow_starter (k : Nat) (f : Shadow → Shadow) (d : Device) : (d.updShadow k f).starter = d.starter := rfl
@[simp] theorem Device.updShadow_pacers (k : Nat) (f : Shadow → Shadow) (d : Device) : (d.updShadow k f).pacers = d.pacers := rfl
@[simp] theorem Device.updShadow_tiles (k : Nat) (f : Shadow → Shadow) (d : Device) : (d.updShadow k f).tiles = d.tiles := rfl
@[simp] theorem Device.updShadow_bmes (k : Nat) (f : Shadow → Shadow) (d : Device) : (d.updShadow k f).bmes = d.bmes := rfl
@[simp] theorem Device.updShadow_chans (k : Nat) (f : Shadow → Shadow) (d : Device) : (d.updShadow k f).chans = d.chans := rfl
@[simp] theorem Device.updShadow_net (k : Nat) (f : Shadow → Shadow) (d : Device) : (d.updShadow k f).net = d.net := rfl
@[simp] theorem Device.updShadow_pages (k : Nat) (f : Shadow → Shadow) (d : Device) : (d.updShadow k f).pages = d.pages := rfl
@[simp] theorem Device.updShadow_out (k : Nat) (f : Shadow → Shadow) (d : Device) : (d.updShadow k f).out = d.out := rfl
@[simp] theorem Device.updShadow_freeCtr (k : Nat) (f : Shadow → Shadow) (d : Device) : (d.updShadow k f).freeCtr = d.freeCtr := rfl
theorem Device.updShadow_part (k j : Nat) (f : Shadow → Shadow) (d : Device) :
    (d.updShadow k f).part j = if j = k then { d.part k with shadow := f (d.part k).shadow } else d.part j := Device.updPart_part _ _ _ _
@[simp] theorem Device.updShadow_part_self (k : Nat) (f : Shadow → Shadow) (d : Device) : (d.updShadow k f).part k = { d.part k with shadow := f (d.part k).shadow } :=
  Device.updPart_part_self _ _ _
@[simp] theorem Device.updShadow_part_ne {k j : Nat} (f : Shadow → Shadow) (d : Device) (h : j ≠ k) : (d.updShadow k f).part j = d.part j := Device.updPart_part_ne _ _ h
@[simp] theorem Device.updShadow_port_of (k j : Nat) (f : Shadow → Shadow) (d : Device) : (d.updShadow k f).port j = d.port j := rfl
@[simp] theorem Device.updShadow_pacer_of (k j : Nat) (f : Shadow → Shadow) (d : Device) : (d.updShadow k f).pacer j = d.pacer j := rfl
@[simp] theorem Device.updShadow_tile_of (k j : Nat) (f : Shadow → Shadow) (d : Device) : (d.updShadow k f).tile j = d.tile j := rfl
@[simp] theorem Device.updShadow_bme_of (k j : Nat) (f : Shadow → Shadow) (d : Device) : (d.updShadow k f).bme j = d.bme j := rfl
@[simp] theorem Device.updShadow_chan_of (k j : Nat) (f : Shadow → Shadow) (d : Device) : (d.updShadow k f).chan j = d.chan j := rfl
@[simp] theorem Device.updShadow_page_of (k j : Nat) (f : Shadow → Shadow) (d : Device) : (d.updShadow k f).page j = d.page j := rfl
@[simp] theorem Device.updShadow_region (k j : Nat) (f : Shadow → Shadow) (d : Device) : (d.updShadow k f).region j = d.region j := rfl

@[simp] theorem Device.updLink_clk (k : Nat) (f : Link → Link) (d : Device) : (d.updLink k f).clk = d.clk := rfl
@[simp] theorem Device.updLink_tk (k : Nat) (f : Link → Link) (d : Device) : (d.updLink k f).tk = d.tk := rfl
@[simp] theorem Device.updLink_fuses (k : Nat) (f : Link → Link) (d : Device) : (d.updLink k f).fuses = d.fuses := rfl
@[simp] theorem Device.updLink_sec (k : Nat) (f : Link → Link) (d : Device) : (d.updLink k f).sec = d.sec := rfl
@[simp] theorem Device.updLink_st (k : Nat) (f : Link → Link) (d : Device) : (d.updLink k f).st = d.st := rfl
@[simp] theorem Device.updLink_mb (k : Nat) (f : Link → Link) (d : Device) : (d.updLink k f).mb = d.mb := rfl
@[simp] theorem Device.updLink_flt (k : Nat) (f : Link → Link) (d : Device) : (d.updLink k f).flt = d.flt := rfl
@[simp] theorem Device.updLink_pwr (k : Nat) (f : Link → Link) (d : Device) : (d.updLink k f).pwr = d.pwr := rfl
@[simp] theorem Device.updLink_thr (k : Nat) (f : Link → Link) (d : Device) : (d.updLink k f).thr = d.thr := rfl
@[simp] theorem Device.updLink_tr (k : Nat) (f : Link → Link) (d : Device) : (d.updLink k f).tr = d.tr := rfl
@[simp] theorem Device.updLink_starter (k : Nat) (f : Link → Link) (d : Device) : (d.updLink k f).starter = d.starter := rfl
@[simp] theorem Device.updLink_parts (k : Nat) (f : Link → Link) (d : Device) : (d.updLink k f).parts = d.parts := rfl
@[simp] theorem Device.updLink_pacers (k : Nat) (f : Link → Link) (d : Device) : (d.updLink k f).pacers = d.pacers := rfl
@[simp] theorem Device.updLink_tiles (k : Nat) (f : Link → Link) (d : Device) : (d.updLink k f).tiles = d.tiles := rfl
@[simp] theorem Device.updLink_bmes (k : Nat) (f : Link → Link) (d : Device) : (d.updLink k f).bmes = d.bmes := rfl
@[simp] theorem Device.updLink_chans (k : Nat) (f : Link → Link) (d : Device) : (d.updLink k f).chans = d.chans := rfl
@[simp] theorem Device.updLink_net (k : Nat) (f : Link → Link) (d : Device) : (d.updLink k f).net = d.net := rfl
@[simp] theorem Device.updLink_pages (k : Nat) (f : Link → Link) (d : Device) : (d.updLink k f).pages = d.pages := rfl
@[simp] theorem Device.updLink_out (k : Nat) (f : Link → Link) (d : Device) : (d.updLink k f).out = d.out := rfl
@[simp] theorem Device.updLink_freeCtr (k : Nat) (f : Link → Link) (d : Device) : (d.updLink k f).freeCtr = d.freeCtr := rfl
theorem Device.updLink_port (k j : Nat) (f : Link → Link) (d : Device) :
    (d.updLink k f).port j = if j = k then { d.port k with link := f (d.port k).link } else d.port j := Device.updPort_port _ _ _ _
@[simp] theorem Device.updLink_port_self (k : Nat) (f : Link → Link) (d : Device) : (d.updLink k f).port k = { d.port k with link := f (d.port k).link } :=
  Device.updPort_port_self _ _ _
@[simp] theorem Device.updLink_port_ne {k j : Nat} (f : Link → Link) (d : Device) (h : j ≠ k) : (d.updLink k f).port j = d.port j := Device.updPort_port_ne _ _ h
@[simp] theorem Device.updLink_part_of (k j : Nat) (f : Link → Link) (d : Device) : (d.updLink k f).part j = d.part j := rfl
@[simp] theorem Device.updLink_pacer_of (k j : Nat) (f : Link → Link) (d : Device) : (d.updLink k f).pacer j = d.pacer j := rfl
@[simp] theorem Device.updLink_tile_of (k j : Nat) (f : Link → Link) (d : Device) : (d.updLink k f).tile j = d.tile j := rfl
@[simp] theorem Device.updLink_bme_of (k j : Nat) (f : Link → Link) (d : Device) : (d.updLink k f).bme j = d.bme j := rfl
@[simp] theorem Device.updLink_chan_of (k j : Nat) (f : Link → Link) (d : Device) : (d.updLink k f).chan j = d.chan j := rfl
@[simp] theorem Device.updLink_page_of (k j : Nat) (f : Link → Link) (d : Device) : (d.updLink k f).page j = d.page j := rfl
@[simp] theorem Device.updLink_region (k j : Nat) (f : Link → Link) (d : Device) : (d.updLink k f).region j = d.region j := rfl

@[simp] theorem Device.updCnt_clk (k : Nat) (f : PortCnt → PortCnt) (d : Device) : (d.updCnt k f).clk = d.clk := rfl
@[simp] theorem Device.updCnt_tk (k : Nat) (f : PortCnt → PortCnt) (d : Device) : (d.updCnt k f).tk = d.tk := rfl
@[simp] theorem Device.updCnt_fuses (k : Nat) (f : PortCnt → PortCnt) (d : Device) : (d.updCnt k f).fuses = d.fuses := rfl
@[simp] theorem Device.updCnt_sec (k : Nat) (f : PortCnt → PortCnt) (d : Device) : (d.updCnt k f).sec = d.sec := rfl
@[simp] theorem Device.updCnt_st (k : Nat) (f : PortCnt → PortCnt) (d : Device) : (d.updCnt k f).st = d.st := rfl
@[simp] theorem Device.updCnt_mb (k : Nat) (f : PortCnt → PortCnt) (d : Device) : (d.updCnt k f).mb = d.mb := rfl
@[simp] theorem Device.updCnt_flt (k : Nat) (f : PortCnt → PortCnt) (d : Device) : (d.updCnt k f).flt = d.flt := rfl
@[simp] theorem Device.updCnt_pwr (k : Nat) (f : PortCnt → PortCnt) (d : Device) : (d.updCnt k f).pwr = d.pwr := rfl
@[simp] theorem Device.updCnt_thr (k : Nat) (f : PortCnt → PortCnt) (d : Device) : (d.updCnt k f).thr = d.thr := rfl
@[simp] theorem Device.updCnt_tr (k : Nat) (f : PortCnt → PortCnt) (d : Device) : (d.updCnt k f).tr = d.tr := rfl
@[simp] theorem Device.updCnt_starter (k : Nat) (f : PortCnt → PortCnt) (d : Device) : (d.updCnt k f).starter = d.starter := rfl
@[simp] theorem Device.updCnt_parts (k : Nat) (f : PortCnt → PortCnt) (d : Device) : (d.updCnt k f).parts = d.parts := rfl
@[simp] theorem Device.updCnt_pacers (k : Nat) (f : PortCnt → PortCnt) (d : Device) : (d.updCnt k f).pacers = d.pacers := rfl
@[simp] theorem Device.updCnt_tiles (k : Nat) (f : PortCnt → PortCnt) (d : Device) : (d.updCnt k f).tiles = d.tiles := rfl
@[simp] theorem Device.updCnt_bmes (k : Nat) (f : PortCnt → PortCnt) (d : Device) : (d.updCnt k f).bmes = d.bmes := rfl
@[simp] theorem Device.updCnt_chans (k : Nat) (f : PortCnt → PortCnt) (d : Device) : (d.updCnt k f).chans = d.chans := rfl
@[simp] theorem Device.updCnt_net (k : Nat) (f : PortCnt → PortCnt) (d : Device) : (d.updCnt k f).net = d.net := rfl
@[simp] theorem Device.updCnt_pages (k : Nat) (f : PortCnt → PortCnt) (d : Device) : (d.updCnt k f).pages = d.pages := rfl
@[simp] theorem Device.updCnt_out (k : Nat) (f : PortCnt → PortCnt) (d : Device) : (d.updCnt k f).out = d.out := rfl
@[simp] theorem Device.updCnt_freeCtr (k : Nat) (f : PortCnt → PortCnt) (d : Device) : (d.updCnt k f).freeCtr = d.freeCtr := rfl
theorem Device.updCnt_port (k j : Nat) (f : PortCnt → PortCnt) (d : Device) :
    (d.updCnt k f).port j = if j = k then { d.port k with cnt := f (d.port k).cnt } else d.port j := Device.updPort_port _ _ _ _
@[simp] theorem Device.updCnt_port_self (k : Nat) (f : PortCnt → PortCnt) (d : Device) : (d.updCnt k f).port k = { d.port k with cnt := f (d.port k).cnt } :=
  Device.updPort_port_self _ _ _
@[simp] theorem Device.updCnt_port_ne {k j : Nat} (f : PortCnt → PortCnt) (d : Device) (h : j ≠ k) : (d.updCnt k f).port j = d.port j := Device.updPort_port_ne _ _ h
@[simp] theorem Device.updCnt_part_of (k j : Nat) (f : PortCnt → PortCnt) (d : Device) : (d.updCnt k f).part j = d.part j := rfl
@[simp] theorem Device.updCnt_pacer_of (k j : Nat) (f : PortCnt → PortCnt) (d : Device) : (d.updCnt k f).pacer j = d.pacer j := rfl
@[simp] theorem Device.updCnt_tile_of (k j : Nat) (f : PortCnt → PortCnt) (d : Device) : (d.updCnt k f).tile j = d.tile j := rfl
@[simp] theorem Device.updCnt_bme_of (k j : Nat) (f : PortCnt → PortCnt) (d : Device) : (d.updCnt k f).bme j = d.bme j := rfl
@[simp] theorem Device.updCnt_chan_of (k j : Nat) (f : PortCnt → PortCnt) (d : Device) : (d.updCnt k f).chan j = d.chan j := rfl
@[simp] theorem Device.updCnt_page_of (k j : Nat) (f : PortCnt → PortCnt) (d : Device) : (d.updCnt k f).page j = d.page j := rfl
@[simp] theorem Device.updCnt_region (k j : Nat) (f : PortCnt → PortCnt) (d : Device) : (d.updCnt k f).region j = d.region j := rfl

@[simp] theorem Device.updExr_clk (k : Nat) (f : Exerciser → Exerciser) (d : Device) : (d.updExr k f).clk = d.clk := rfl
@[simp] theorem Device.updExr_tk (k : Nat) (f : Exerciser → Exerciser) (d : Device) : (d.updExr k f).tk = d.tk := rfl
@[simp] theorem Device.updExr_fuses (k : Nat) (f : Exerciser → Exerciser) (d : Device) : (d.updExr k f).fuses = d.fuses := rfl
@[simp] theorem Device.updExr_sec (k : Nat) (f : Exerciser → Exerciser) (d : Device) : (d.updExr k f).sec = d.sec := rfl
@[simp] theorem Device.updExr_st (k : Nat) (f : Exerciser → Exerciser) (d : Device) : (d.updExr k f).st = d.st := rfl
@[simp] theorem Device.updExr_mb (k : Nat) (f : Exerciser → Exerciser) (d : Device) : (d.updExr k f).mb = d.mb := rfl
@[simp] theorem Device.updExr_flt (k : Nat) (f : Exerciser → Exerciser) (d : Device) : (d.updExr k f).flt = d.flt := rfl
@[simp] theorem Device.updExr_pwr (k : Nat) (f : Exerciser → Exerciser) (d : Device) : (d.updExr k f).pwr = d.pwr := rfl
@[simp] theorem Device.updExr_thr (k : Nat) (f : Exerciser → Exerciser) (d : Device) : (d.updExr k f).thr = d.thr := rfl
@[simp] theorem Device.updExr_tr (k : Nat) (f : Exerciser → Exerciser) (d : Device) : (d.updExr k f).tr = d.tr := rfl
@[simp] theorem Device.updExr_starter (k : Nat) (f : Exerciser → Exerciser) (d : Device) : (d.updExr k f).starter = d.starter := rfl
@[simp] theorem Device.updExr_parts (k : Nat) (f : Exerciser → Exerciser) (d : Device) : (d.updExr k f).parts = d.parts := rfl
@[simp] theorem Device.updExr_pacers (k : Nat) (f : Exerciser → Exerciser) (d : Device) : (d.updExr k f).pacers = d.pacers := rfl
@[simp] theorem Device.updExr_tiles (k : Nat) (f : Exerciser → Exerciser) (d : Device) : (d.updExr k f).tiles = d.tiles := rfl
@[simp] theorem Device.updExr_bmes (k : Nat) (f : Exerciser → Exerciser) (d : Device) : (d.updExr k f).bmes = d.bmes := rfl
@[simp] theorem Device.updExr_chans (k : Nat) (f : Exerciser → Exerciser) (d : Device) : (d.updExr k f).chans = d.chans := rfl
@[simp] theorem Device.updExr_net (k : Nat) (f : Exerciser → Exerciser) (d : Device) : (d.updExr k f).net = d.net := rfl
@[simp] theorem Device.updExr_pages (k : Nat) (f : Exerciser → Exerciser) (d : Device) : (d.updExr k f).pages = d.pages := rfl
@[simp] theorem Device.updExr_out (k : Nat) (f : Exerciser → Exerciser) (d : Device) : (d.updExr k f).out = d.out := rfl
@[simp] theorem Device.updExr_freeCtr (k : Nat) (f : Exerciser → Exerciser) (d : Device) : (d.updExr k f).freeCtr = d.freeCtr := rfl
theorem Device.updExr_port (k j : Nat) (f : Exerciser → Exerciser) (d : Device) :
    (d.updExr k f).port j = if j = k then { d.port k with exr := f (d.port k).exr } else d.port j := Device.updPort_port _ _ _ _
@[simp] theorem Device.updExr_port_self (k : Nat) (f : Exerciser → Exerciser) (d : Device) : (d.updExr k f).port k = { d.port k with exr := f (d.port k).exr } :=
  Device.updPort_port_self _ _ _
@[simp] theorem Device.updExr_port_ne {k j : Nat} (f : Exerciser → Exerciser) (d : Device) (h : j ≠ k) : (d.updExr k f).port j = d.port j := Device.updPort_port_ne _ _ h
@[simp] theorem Device.updExr_part_of (k j : Nat) (f : Exerciser → Exerciser) (d : Device) : (d.updExr k f).part j = d.part j := rfl
@[simp] theorem Device.updExr_pacer_of (k j : Nat) (f : Exerciser → Exerciser) (d : Device) : (d.updExr k f).pacer j = d.pacer j := rfl
@[simp] theorem Device.updExr_tile_of (k j : Nat) (f : Exerciser → Exerciser) (d : Device) : (d.updExr k f).tile j = d.tile j := rfl
@[simp] theorem Device.updExr_bme_of (k j : Nat) (f : Exerciser → Exerciser) (d : Device) : (d.updExr k f).bme j = d.bme j := rfl
@[simp] theorem Device.updExr_chan_of (k j : Nat) (f : Exerciser → Exerciser) (d : Device) : (d.updExr k f).chan j = d.chan j := rfl
@[simp] theorem Device.updExr_page_of (k j : Nat) (f : Exerciser → Exerciser) (d : Device) : (d.updExr k f).page j = d.page j := rfl
@[simp] theorem Device.updExr_region (k j : Nat) (f : Exerciser → Exerciser) (d : Device) : (d.updExr k f).region j = d.region j := rfl

@[simp] theorem Device.updRegion_tk (g : Nat) (f : Region → Region) (d : Device) : (d.updRegion g f).tk = d.tk := rfl
@[simp] theorem Device.updRegion_fuses (g : Nat) (f : Region → Region) (d : Device) : (d.updRegion g f).fuses = d.fuses := rfl
@[simp] theorem Device.updRegion_sec (g : Nat) (f : Region → Region) (d : Device) : (d.updRegion g f).sec = d.sec := rfl
@[simp] theorem Device.updRegion_st (g : Nat) (f : Region → Region) (d : Device) : (d.updRegion g f).st = d.st := rfl
@[simp] theorem Device.updRegion_mb (g : Nat) (f : Region → Region) (d : Device) : (d.updRegion g f).mb = d.mb := rfl
@[simp] theorem Device.updRegion_flt (g : Nat) (f : Region → Region) (d : Device) : (d.updRegion g f).flt = d.flt := rfl
@[simp] theorem Device.updRegion_pwr (g : Nat) (f : Region → Region) (d : Device) : (d.updRegion g f).pwr = d.pwr := rfl
@[simp] theorem Device.updRegion_thr (g : Nat) (f : Region → Region) (d : Device) : (d.updRegion g f).thr = d.thr := rfl
@[simp] theorem Device.updRegion_ports (g : Nat) (f : Region → Region) (d : Device) : (d.updRegion g f).ports = d.ports := rfl
@[simp] theorem Device.updRegion_tr (g : Nat) (f : Region → Region) (d : Device) : (d.updRegion g f).tr = d.tr := rfl
@[simp] theorem Device.updRegion_starter (g : Nat) (f : Region → Region) (d : Device) : (d.updRegion g f).starter = d.starter := rfl
@[simp] theorem Device.updRegion_parts (g : Nat) (f : Region → Region) (d : Device) : (d.updRegion g f).parts = d.parts := rfl
@[simp] theorem Device.updRegion_pacers (g : Nat) (f : Region → Region) (d : Device) : (d.updRegion g f).pacers = d.pacers := rfl
@[simp] theorem Device.updRegion_tiles (g : Nat) (f : Region → Region) (d : Device) : (d.updRegion g f).tiles = d.tiles := rfl
@[simp] theorem Device.updRegion_bmes (g : Nat) (f : Region → Region) (d : Device) : (d.updRegion g f).bmes = d.bmes := rfl
@[simp] theorem Device.updRegion_chans (g : Nat) (f : Region → Region) (d : Device) : (d.updRegion g f).chans = d.chans := rfl
@[simp] theorem Device.updRegion_net (g : Nat) (f : Region → Region) (d : Device) : (d.updRegion g f).net = d.net := rfl
@[simp] theorem Device.updRegion_pages (g : Nat) (f : Region → Region) (d : Device) : (d.updRegion g f).pages = d.pages := rfl
@[simp] theorem Device.updRegion_out (g : Nat) (f : Region → Region) (d : Device) : (d.updRegion g f).out = d.out := rfl
@[simp] theorem Device.updRegion_freeCtr (g : Nat) (f : Region → Region) (d : Device) : (d.updRegion g f).freeCtr = d.freeCtr := rfl
@[simp] theorem Device.updRegion_region_self (g : Nat) (f : Region → Region) (d : Device) : (d.updRegion g f).region g = f (d.region g) :=
  Map.get_upd_self _ _ _ _
@[simp] theorem Device.updRegion_region_ne {g h : Nat} (f : Region → Region) (d : Device) (n : h ≠ g) : (d.updRegion g f).region h = d.region h :=
  Map.get_upd_ne _ _ _ n
@[simp] theorem Device.updRegion_part (g j : Nat) (f : Region → Region) (d : Device) : (d.updRegion g f).part j = d.part j := rfl
@[simp] theorem Device.updRegion_port (g j : Nat) (f : Region → Region) (d : Device) : (d.updRegion g f).port j = d.port j := rfl
@[simp] theorem Device.updRegion_pacer (g j : Nat) (f : Region → Region) (d : Device) : (d.updRegion g f).pacer j = d.pacer j := rfl
@[simp] theorem Device.updRegion_tile (g j : Nat) (f : Region → Region) (d : Device) : (d.updRegion g f).tile j = d.tile j := rfl
@[simp] theorem Device.updRegion_bme (g j : Nat) (f : Region → Region) (d : Device) : (d.updRegion g f).bme j = d.bme j := rfl
@[simp] theorem Device.updRegion_chan (g j : Nat) (f : Region → Region) (d : Device) : (d.updRegion g f).chan j = d.chan j := rfl
@[simp] theorem Device.updRegion_page (g j : Nat) (f : Region → Region) (d : Device) : (d.updRegion g f).page j = d.page j := rfl
@[simp] theorem Device.updRegion_clk_opCur (g : Nat) (f : Region → Region) (d : Device) : (d.updRegion g f).clk.opCur = d.clk.opCur := rfl
@[simp] theorem Device.updRegion_clk_opNext (g : Nat) (f : Region → Region) (d : Device) : (d.updRegion g f).clk.opNext = d.clk.opNext := rfl
@[simp] theorem Device.updRegion_clk_opPend (g : Nat) (f : Region → Region) (d : Device) : (d.updRegion g f).clk.opPend = d.clk.opPend := rfl
@[simp] theorem Device.updRegion_clk_opLap (g : Nat) (f : Region → Region) (d : Device) : (d.updRegion g f).clk.opLap = d.clk.opLap := rfl
@[simp] theorem Device.updRegion_clk_opLapLo (g : Nat) (f : Region → Region) (d : Device) : (d.updRegion g f).clk.opLapLo = d.clk.opLapLo := rfl
@[simp] theorem Device.updRegion_clk_opFailCnt (g : Nat) (f : Region → Region) (d : Device) : (d.updRegion g f).clk.opFailCnt = d.clk.opFailCnt := rfl
@[simp] theorem Device.updRegion_clk_opChangedAt (g : Nat) (f : Region → Region) (d : Device) : (d.updRegion g f).clk.opChangedAt = d.clk.opChangedAt := rfl
@[simp] theorem Device.updRegion_clk_cycStamp (g : Nat) (f : Region → Region) (d : Device) : (d.updRegion g f).clk.cycStamp = d.clk.cycStamp := rfl
@[simp] theorem Device.updRegion_clk_lap (g : Nat) (f : Region → Region) (d : Device) : (d.updRegion g f).clk.lap = d.clk.lap := rfl
@[simp] theorem Device.updRegion_clk_lapCyc (g : Nat) (f : Region → Region) (d : Device) : (d.updRegion g f).clk.lapCyc = d.clk.lapCyc := rfl
@[simp] theorem Device.updRegion_clk_now (g : Nat) (f : Region → Region) (d : Device) : (d.updRegion g f).clk.now = d.clk.now := rfl
@[simp] theorem Device.updRegion_clk_phase (g : Nat) (f : Region → Region) (d : Device) : (d.updRegion g f).clk.phase = d.clk.phase := rfl
@[simp] theorem Device.updRegion_clk_gun (g : Nat) (f : Region → Region) (d : Device) : (d.updRegion g f).clk.gun = d.clk.gun := rfl
@[simp] theorem Device.updRegion_clk_users (g : Nat) (f : Region → Region) (d : Device) : (d.updRegion g f).clk.users = d.clk.users := rfl
@[simp] theorem Device.updRegion_clk_staggers (g : Nat) (f : Region → Region) (d : Device) : (d.updRegion g f).clk.staggers = d.clk.staggers := rfl
@[simp] theorem Device.updRegion_clk_relays (g : Nat) (f : Region → Region) (d : Device) : (d.updRegion g f).clk.relays = d.clk.relays := rfl
@[simp] theorem Device.updRegion_clk_govAsked (g : Nat) (f : Region → Region) (d : Device) : (d.updRegion g f).clk.govAsked = d.clk.govAsked := rfl
@[simp] theorem Device.updRegion_clk_markSplit (g : Nat) (f : Region → Region) (d : Device) : (d.updRegion g f).clk.markSplit = d.clk.markSplit := rfl

@[simp] theorem Device.emit_clk (x : Out) (d : Device) : (d.emit x).clk = d.clk := rfl
@[simp] theorem Device.emit_tk (x : Out) (d : Device) : (d.emit x).tk = d.tk := rfl
@[simp] theorem Device.emit_fuses (x : Out) (d : Device) : (d.emit x).fuses = d.fuses := rfl
@[simp] theorem Device.emit_sec (x : Out) (d : Device) : (d.emit x).sec = d.sec := rfl
@[simp] theorem Device.emit_st (x : Out) (d : Device) : (d.emit x).st = d.st := rfl
@[simp] theorem Device.emit_mb (x : Out) (d : Device) : (d.emit x).mb = d.mb := rfl
@[simp] theorem Device.emit_flt (x : Out) (d : Device) : (d.emit x).flt = d.flt := rfl
@[simp] theorem Device.emit_pwr (x : Out) (d : Device) : (d.emit x).pwr = d.pwr := rfl
@[simp] theorem Device.emit_thr (x : Out) (d : Device) : (d.emit x).thr = d.thr := rfl
@[simp] theorem Device.emit_ports (x : Out) (d : Device) : (d.emit x).ports = d.ports := rfl
@[simp] theorem Device.emit_tr (x : Out) (d : Device) : (d.emit x).tr = d.tr := rfl
@[simp] theorem Device.emit_starter (x : Out) (d : Device) : (d.emit x).starter = d.starter := rfl
@[simp] theorem Device.emit_parts (x : Out) (d : Device) : (d.emit x).parts = d.parts := rfl
@[simp] theorem Device.emit_pacers (x : Out) (d : Device) : (d.emit x).pacers = d.pacers := rfl
@[simp] theorem Device.emit_tiles (x : Out) (d : Device) : (d.emit x).tiles = d.tiles := rfl
@[simp] theorem Device.emit_bmes (x : Out) (d : Device) : (d.emit x).bmes = d.bmes := rfl
@[simp] theorem Device.emit_chans (x : Out) (d : Device) : (d.emit x).chans = d.chans := rfl
@[simp] theorem Device.emit_net (x : Out) (d : Device) : (d.emit x).net = d.net := rfl
@[simp] theorem Device.emit_pages (x : Out) (d : Device) : (d.emit x).pages = d.pages := rfl
@[simp] theorem Device.emit_freeCtr (x : Out) (d : Device) : (d.emit x).freeCtr = d.freeCtr := rfl
@[simp] theorem Device.emit_out (x : Out) (d : Device) : (d.emit x).out = d.out ++ [x] := rfl
@[simp] theorem Device.draw_clk (d : Device) : d.draw.2.clk = d.clk := rfl
@[simp] theorem Device.draw_tk (d : Device) : d.draw.2.tk = d.tk := rfl
@[simp] theorem Device.draw_fuses (d : Device) : d.draw.2.fuses = d.fuses := rfl
@[simp] theorem Device.draw_sec (d : Device) : d.draw.2.sec = d.sec := rfl
@[simp] theorem Device.draw_st (d : Device) : d.draw.2.st = d.st := rfl
@[simp] theorem Device.draw_mb (d : Device) : d.draw.2.mb = d.mb := rfl
@[simp] theorem Device.draw_flt (d : Device) : d.draw.2.flt = d.flt := rfl
@[simp] theorem Device.draw_pwr (d : Device) : d.draw.2.pwr = d.pwr := rfl
@[simp] theorem Device.draw_thr (d : Device) : d.draw.2.thr = d.thr := rfl
@[simp] theorem Device.draw_ports (d : Device) : d.draw.2.ports = d.ports := rfl
@[simp] theorem Device.draw_tr (d : Device) : d.draw.2.tr = d.tr := rfl
@[simp] theorem Device.draw_starter (d : Device) : d.draw.2.starter = d.starter := rfl
@[simp] theorem Device.draw_parts (d : Device) : d.draw.2.parts = d.parts := rfl
@[simp] theorem Device.draw_pacers (d : Device) : d.draw.2.pacers = d.pacers := rfl
@[simp] theorem Device.draw_tiles (d : Device) : d.draw.2.tiles = d.tiles := rfl
@[simp] theorem Device.draw_bmes (d : Device) : d.draw.2.bmes = d.bmes := rfl
@[simp] theorem Device.draw_chans (d : Device) : d.draw.2.chans = d.chans := rfl
@[simp] theorem Device.draw_net (d : Device) : d.draw.2.net = d.net := rfl
@[simp] theorem Device.draw_pages (d : Device) : d.draw.2.pages = d.pages := rfl
@[simp] theorem Device.draw_out (d : Device) : d.draw.2.out = d.out := rfl
@[simp] theorem Device.draw_freeCtr (d : Device) : d.draw.2.freeCtr = d.freeCtr + 1 := rfl
@[simp] theorem Device.emit_part (x : Out) (j : Nat) (d : Device) : (d.emit x).part j = d.part j := rfl
@[simp] theorem Device.draw_part (j : Nat) (d : Device) : d.draw.2.part j = d.part j := rfl
@[simp] theorem Device.emit_port (x : Out) (j : Nat) (d : Device) : (d.emit x).port j = d.port j := rfl
@[simp] theorem Device.draw_port (j : Nat) (d : Device) : d.draw.2.port j = d.port j := rfl
@[simp] theorem Device.emit_pacer (x : Out) (j : Nat) (d : Device) : (d.emit x).pacer j = d.pacer j := rfl
@[simp] theorem Device.draw_pacer (j : Nat) (d : Device) : d.draw.2.pacer j = d.pacer j := rfl
@[simp] theorem Device.emit_tile (x : Out) (j : Nat) (d : Device) : (d.emit x).tile j = d.tile j := rfl
@[simp] theorem Device.draw_tile (j : Nat) (d : Device) : d.draw.2.tile j = d.tile j := rfl
@[simp] theorem Device.emit_bme (x : Out) (j : Nat) (d : Device) : (d.emit x).bme j = d.bme j := rfl
@[simp] theorem Device.draw_bme (j : Nat) (d : Device) : d.draw.2.bme j = d.bme j := rfl
@[simp] theorem Device.emit_chan (x : Out) (j : Nat) (d : Device) : (d.emit x).chan j = d.chan j := rfl
@[simp] theorem Device.draw_chan (j : Nat) (d : Device) : d.draw.2.chan j = d.chan j := rfl
@[simp] theorem Device.emit_page (x : Out) (j : Nat) (d : Device) : (d.emit x).page j = d.page j := rfl
@[simp] theorem Device.draw_page (j : Nat) (d : Device) : d.draw.2.page j = d.page j := rfl

end Sys2Proof.Machine
end

