-- ==== Sys2Proof/Laws/Shared.lean ====
section
/-! SUPPORT. What the shared operations can do, said once: sending a unit, an event write, INT_RAW, the error fields, a trace
record, a fault record, and the frame of each. -/

namespace Sys2Proof.Machine

/-! ### Sending: the transport, the ports and the QXFER lists change -/

theorem SendPart.refl (p : Part) : SendPart p p := ⟨rfl, fun h => ⟨rfl, rfl, h⟩⟩
theorem SendPart.trans {p q r : Part} (h : SendPart p q) (k : SendPart q r) : SendPart p r := by
  obtain ⟨h1, h2⟩ := h
  obtain ⟨k1, k2⟩ := k
  refine ⟨by rw [k1, h1], fun e => ?_⟩
  obtain ⟨a, a', b⟩ := h2 e
  obtain ⟨c, c', f⟩ := k2 b
  exact ⟨c.trans a, c'.trans a', f⟩

theorem SendFrame.refl (d : Device) : SendFrame d d := ⟨rfl, fun _ => .refl _⟩
theorem SendFrame.trans {a b c : Device} (h : SendFrame a b) (k : SendFrame b c) : SendFrame a c :=
  ⟨by rw [k.1, h.1], fun j => (h.2 j).trans (k.2 j)⟩

theorem SendFrame.updTr (f : Transport → Transport) (d : Device) : SendFrame d (d.updTr f) := ⟨rfl, fun _ => .refl _⟩
theorem SendFrame.updPort (i : Nat) (f : Port → Port) (d : Device) : SendFrame d (d.updPort i f) := ⟨rfl, fun _ => .refl _⟩
theorem SendFrame.noRoute (d : Device) : SendFrame d d.noRoute := .updTr _ _

theorem SendFrame.queueAt (i : Nat) (u : XUnit) (d : Device) : SendFrame d (d.queueAt i u) := by
  unfold Device.queueAt
  split
  · exact .updPort _ _ _
  · exact .updTr _ _

theorem SendFrame.number {d : Device} {u : XUnit} {r : XUnit × Device} (h : d.number u = some r) : SendFrame d r.2 := by
  unfold Device.number at h
  split at h
  · split at h
    · cases h; exact ⟨rfl, fun _ => .refl _⟩
    · cases h
  · split at h
    · cases h; exact ⟨rfl, fun _ => .refl _⟩
    · cases h

/-- A counter of a partition with a list waiting may count; no other part of the device changes. -/
theorem SendFrame.updCc (k n : Nat) (f : Cc → Cc) (d : Device) (h : (d.part k).qlists ≠ []) : SendFrame d (d.updCc k n f) := by
  unfold Device.updCc Device.putCc
  split
  · exact .refl d
  · refine ⟨rfl, fun j => ?_⟩
    by_cases e : j = k
    · subst e; simp [SendPart, h]
    · simp [e, SendPart.refl]

theorem updCc_qlists (k n : Nat) (f : Cc → Cc) (d : Device) : ((d.updCc k n f).part k).qlists = (d.part k).qlists := by
  unfold Device.updCc Device.putCc
  split <;> simp

/-- Counting the lists that are done changes counters of their partition alone. -/
theorem SendFrame.countLists (k : Nat) (done : List Qlist) (d : Device) (h : (d.part k).qlists ≠ []) :
    SendFrame d (done.foldl (fun d q => d.updCc k q.lcc Cc.bump) d) := by
  induction done generalizing d with
  | nil => exact .refl d
  | cons q t ih => exact (SendFrame.updCc k q.lcc _ d h).trans (ih _ (by rw [updCc_qlists]; exact h))

/-- Lists that are left may be none, so the frame of what follows is that of the counters. -/
theorem countLists_part (k : Nat) (done : List Qlist) (d : Device) :
    (done.foldl (fun d q => d.updCc k q.lcc Cc.bump) d) =
      { d with parts := (done.foldl (fun d q => d.updCc k q.lcc Cc.bump) d).parts } ∧
    ∀ j, ∃ c o, (done.foldl (fun d q => d.updCc k q.lcc Cc.bump) d).part j = { d.part j with cc := c, ccOld := o } ∧
      (j ≠ k → c = (d.part j).cc ∧ o = (d.part j).ccOld) := by
  induction done generalizing d with
  | nil => exact ⟨rfl, fun j => ⟨_, _, rfl, fun _ => ⟨rfl, rfl⟩⟩⟩
  | cons q t ih =>
    obtain ⟨h1, h2⟩ := ih (d.updCc k q.lcc Cc.bump)
    have e : (d.updCc k q.lcc Cc.bump) = { d with parts := (d.updCc k q.lcc Cc.bump).parts } := by
      unfold Device.updCc Device.putCc; split <;> rfl
    refine ⟨by rw [List.foldl_cons, h1, e], fun j => ?_⟩
    obtain ⟨c, o, h3, h4⟩ := h2 j
    rw [List.foldl_cons, h3]
    unfold Device.updCc Device.putCc at h4 ⊢
    split at h4
    · rename_i hc; simp only [hc]; exact ⟨c, o, rfl, h4⟩
    · rename_i hc
      simp only [hc]
      by_cases hj : j = k
      · subst hj; exact ⟨c, o, by simp, fun h => absurd rfl h⟩
      · simp only [if_false, Device.updPart_part_ne _ _ hj] at h4 ⊢; exact ⟨c, o, rfl, h4⟩

/-- Taking a unit out of its list leaves a partition without lists alone (R311). -/
theorem SendFrame.unitGone (u : XUnit) (d : Device) : SendFrame d (d.unitGone u) := by
  unfold Device.unitGone
  split
  · exact .refl d
  · by_cases e : (d.part u.srcPart).qlists = []
    · simp [e, takeListed, SendFrame.refl]
    · simp only
      split
      · exact .countLists _ _ _ e
      · obtain ⟨h1, h2⟩ := countLists_part u.srcPart
          ((takeListed (XUnit.bare u) (d.part u.srcPart).qlists).filter fun q => q.units.isEmpty)
          (d.updPart u.srcPart fun p =>
            { p with qlists := (takeListed (XUnit.bare u) (d.part u.srcPart).qlists).filter fun q => !q.units.isEmpty })
        refine ⟨by rw [h1]; rfl, fun j => ?_⟩
        obtain ⟨c, o, h3, h4⟩ := h2 j
        rw [h3]
        by_cases hj : j = u.srcPart
        · subst hj; exact ⟨by simp, fun h => absurd h e⟩
        · obtain ⟨rfl, rfl⟩ := h4 hj
          simp [hj, SendPart.refl]

theorem SendFrame.originateAt (via : Option Nat) (u : XUnit) (i : Nat) (d : Device) : SendFrame d (d.originateAt via u i) := by
  unfold Device.originateAt
  split
  · split
    · next h => exact (SendFrame.number h).trans (SendFrame.queueAt _ _ _)
    · exact .updTr _ _
  · exact .unitGone _ _

/-- A unit that asks for no status changes no counter of its own when it finds no route. -/
theorem SendFrame.unrouted (u : XUnit) (h : ¬(u.kind = .get ∨ u.kind = .put ∧ u.ackReq = true)) (d : Device) :
    SendFrame d (d.unrouted u) := by
  unfold Device.unrouted
  simp only [h, and_false, if_false]
  exact (SendFrame.noRoute d).trans (.unitGone _ _)

theorem SendFrame.originateStamped (via : Option Nat) (u : XUnit) (h : ¬(u.kind = .get ∨ u.kind = .put ∧ u.ackReq = true))
    (d : Device) : SendFrame d (d.originateStamped via u) := by
  unfold Device.originateStamped
  split
  · split
    · next h => exact (SendFrame.number h).trans (.updTr _ _)
    · exact .updTr _ _
  · split
    · exact .originateAt _ _ _ _
    · exact .originateAt _ _ _ _
    · exact .originateAt _ _ _ _
    · exact .unrouted u h d

theorem SendFrame.originate (via : Option Nat) (u : XUnit) (h : ¬(u.kind = .get ∨ u.kind = .put ∧ u.ackReq = true)) (d : Device) :
    SendFrame d (d.originate via u) := SendFrame.originateStamped via { u with srcId := d.tr.myId, stamp := d.stampNow } h d
theorem SendFrame.sendLocal (i : Nat) (u : XUnit) (d : Device) : SendFrame d (d.sendLocal i u) := .updPort _ _ _
theorem SendFrame.sendPut (k : Nat) (dst : W64) (part : Nat) (ep : W16) (cc : Nat) (data : List Byte) (d : Device) :
    SendFrame d (d.sendPut k dst part ep cc data) := SendFrame.originate _ _ (by simp) _
theorem SendFrame.sendCell (k : Nat) (dev : W16) (part : Nat) (ep : W16) (c : Cell) (d : Device) :
    SendFrame d (d.sendCell k dev part ep c) := SendFrame.originate _ _ (by simp) _

/-! ### Events: the transport, the ports, the rings' sequence numbers and the suppressed count change -/

theorem EventPart.refl (p : Part) : EventPart p p := ⟨rfl, fun h => ⟨rfl, rfl, h⟩, fun _ => rfl⟩
theorem EventPart.trans {p q r : Part} (h : EventPart p q) (k : EventPart q r) : EventPart p r := by
  obtain ⟨h1, h2, h3⟩ := h
  obtain ⟨k1, k2, k3⟩ := k
  have hr : q.shadow.role = p.shadow.role := by rw [h1]
  refine ⟨by rw [k1, h1], fun e => ?_, fun e => (k3 (by rw [hr]; exact e)).trans (h3 e)⟩
  obtain ⟨a, a', b⟩ := h2 e
  obtain ⟨c, c', f⟩ := k2 b
  exact ⟨c.trans a, c'.trans a', f⟩
theorem EventPart.ofSend {p q : Part} (h : SendPart p q) : EventPart p q := by
  obtain ⟨h1, h2⟩ := h
  exact ⟨by rw [h1], h2, fun _ => by rw [h1]⟩

theorem EventFrame.refl (d : Device) : EventFrame d d := ⟨rfl, fun _ => .refl _⟩
theorem EventFrame.ofSend {d e : Device} (h : SendFrame d e) : EventFrame d e := ⟨by rw [h.1], fun k => .ofSend (h.2 k)⟩
theorem EventFrame.trans {a b c : Device} (h : EventFrame a b) (k : EventFrame b c) : EventFrame a c :=
  ⟨by rw [k.1, h.1], fun j => (h.2 j).trans (k.2 j)⟩

theorem EventFrame.updMbEvt (f : EvtRing → EvtRing) (d : Device) :
    EventFrame d (d.updMb fun m => { m with evt := f m.evt }) := ⟨rfl, fun _ => .refl _⟩

theorem EventFrame.updPart (k : Nat) (f : Part → Part) (d : Device) (h : EventPart (d.part k) (f (d.part k))) :
    EventFrame d (d.updPart k f) := by
  refine ⟨rfl, fun j => ?_⟩
  by_cases e : j = k
  · subst e; simpa using h
  · simp [e, EventPart.refl]

theorem EventFrame.updPartEvt (k : Nat) (f : EvtRing → EvtRing) (d : Device) :
    EventFrame d (d.updPart k fun p => { p with evt := f p.evt }) :=
  .updPart k _ d ⟨rfl, fun h => ⟨rfl, rfl, h⟩, fun _ => rfl⟩

/-- A shadow's transport counts what it suppresses (R334). -/
theorem EventFrame.suppress (k : Nat) (d : Device) (h : (d.part k).shadow.role = 2) : EventFrame d (d.suppress k) :=
  .updPart k _ d ⟨rfl, fun h => ⟨rfl, rfl, h⟩, fun n => absurd h n⟩

theorem EventFrame.sendRing (k : Nat) (r : EvtRing) (s kd x : Nat) (d : Device) : EventFrame d (d.sendRing k r s kd x) :=
  .ofSend (SendFrame.sendPut _ _ _ _ _ _ _)

theorem EventFrame.eventDevice (s kd x : Nat) (d : Device) : EventFrame d (d.eventDevice s kd x) := by
  unfold Device.eventDevice
  split
  · exact (EventFrame.sendRing _ _ _ _ _ d).trans (EventFrame.updMbEvt (fun e => { e with seq := e.seq + 1 }) _)
  · exact .refl d

/-- All that an event write can change (R422, R334). -/
theorem EventFrame.event (o : Option Nat) (s kd x : Nat) (d : Device) : EventFrame d (d.event o s kd x) := by
  unfold Device.event
  split
  · exact .refl d
  · split
    · exact .eventDevice _ _ _ _
    · split
      · refine EventFrame.trans ?_ (EventFrame.updPartEvt _ (fun e => { e with seq := e.seq + 1 }) _)
        split
        · exact .suppress _ _ ‹_›
        · exact .sendRing _ _ _ _ _ d
      · exact .eventDevice _ _ _ _

/-! ### INT_RAW and the error fields: pages change, and an event may be sent -/

theorem FlagFrame.refl (d : Device) : FlagFrame d d := ⟨rfl, fun _ => .refl _⟩
theorem FlagFrame.ofEvent {d e : Device} (h : EventFrame d e) : FlagFrame d e := ⟨by rw [h.1], h.2⟩
theorem FlagFrame.trans {a b c : Device} (h : FlagFrame a b) (k : FlagFrame b c) : FlagFrame a c :=
  ⟨by rw [k.1, h.1], fun j => (h.2 j).trans (k.2 j)⟩
theorem FlagFrame.updPage (n : Nat) (f : PageHdr → PageHdr) (d : Device) : FlagFrame d (d.updPage n f) := ⟨rfl, fun _ => .refl _⟩

theorem FlagFrame.intCheck (n : Nat) (d : Device) : FlagFrame d (d.intCheck n) := by
  unfold Device.intCheck
  simp only
  split
  · exact .updPage _ _ _
  · split
    · exact .refl d
    · exact (FlagFrame.updPage _ _ _).trans (.ofEvent (EventFrame.event _ _ _ _ _))

theorem FlagFrame.setInt (n : Nat) (b : W32) (d : Device) : FlagFrame d (d.setInt n b) :=
  (FlagFrame.updPage _ _ _).trans (.intCheck _ _)
theorem FlagFrame.setIntBit (n i : Nat) (d : Device) : FlagFrame d (d.setIntBit n i) := .setInt _ _ _
theorem FlagFrame.countErr (n c : Nat) (d : Device) : FlagFrame d (d.countErr n c) :=
  (FlagFrame.updPage _ _ _).trans (.setInt _ _ _)

/-- The page header that an event leaves alone. -/
theorem event_page (o : Option Nat) (s kd x n : Nat) (d : Device) : (d.event o s kd x).page n = d.page n := by
  unfold Device.page; rw [(EventFrame.event o s kd x d).1]

theorem intCheck_page_ne {n m : Nat} (h : m ≠ n) (d : Device) : (d.intCheck n).page m = d.page m := by
  unfold Device.intCheck
  simp only
  split
  · simp [h]
  · split
    · rfl
    · rw [event_page]; simp [h]

/-- INT_RAW, INT_EN and the error fields are as they were; only the note of the sent event changes. -/
theorem intCheck_page (n : Nat) (d : Device) :
    ((d.intCheck n).page n) = { d.page n with intSent := ((d.intCheck n).page n).intSent } := by
  unfold Device.intCheck
  simp only
  split
  · simp
  · split
    · rfl
    · rw [event_page]; simp

theorem setInt_page_ne {n m : Nat} (b : W32) (h : m ≠ n) (d : Device) : (d.setInt n b).page m = d.page m := by
  unfold Device.setInt; rw [intCheck_page_ne h]; simp [h]

theorem setInt_page (n : Nat) (b : W32) (d : Device) :
    (d.setInt n b).page n = { d.page n with intRaw := (d.page n).intRaw ||| b, intSent := ((d.setInt n b).page n).intSent } := by
  unfold Device.setInt; rw [intCheck_page]; simp

theorem setInt_intRaw (n : Nat) (b : W32) (d : Device) : ((d.setInt n b).page n).intRaw = (d.page n).intRaw ||| b := by
  rw [setInt_page]

theorem countErr_page_ne {n m : Nat} (c : Nat) (h : m ≠ n) (d : Device) : (d.countErr n c).page m = d.page m := by
  unfold Device.countErr; simp only; rw [setInt_page_ne _ h]; simp [h]

theorem countErr_page (n c : Nat) (d : Device) :
    (d.countErr n c).page n =
      { d.page n with errCnt := satInc (d.page n).errCnt,
                      errFirst := if (d.page n).errCnt = 0 then BitVec.ofNat 16 c else (d.page n).errFirst,
                      errBib := if (d.page n).errCnt = 0 then d.pageBib n else (d.page n).errBib,
                      intRaw := (d.page n).intRaw ||| 1, intSent := ((d.countErr n c).page n).intSent } := by
  unfold Device.countErr; simp only; rw [setInt_page]; simp

theorem Flagged.refl (n : Nat) (d : Device) : Flagged n d d := ⟨.refl d, fun _ _ => rfl⟩
theorem Flagged.setInt (n : Nat) (b : W32) (d : Device) : Flagged n d (d.setInt n b) :=
  ⟨.setInt _ _ _, fun _ h => setInt_page_ne _ h _⟩
theorem Flagged.setIntBit (n i : Nat) (d : Device) : Flagged n d (d.setIntBit n i) := .setInt _ _ _
theorem Flagged.countErr (n c : Nat) (d : Device) : Flagged n d (d.countErr n c) :=
  ⟨.countErr _ _ _, fun _ h => countErr_page_ne _ h _⟩
theorem Flagged.trans {n : Nat} {a b c : Device} (h : Flagged n a b) (k : Flagged n b c) : Flagged n a c :=
  ⟨h.1.trans k.1, fun m hm => (k.2 m hm).trans (h.2 m hm)⟩
theorem Flagged.event (n : Nat) (o : Option Nat) (s kd x : Nat) (d : Device) : Flagged n d (d.event o s kd x) :=
  ⟨.ofEvent (EventFrame.event _ _ _ _ _), fun _ _ => event_page _ _ _ _ _ _⟩

/-- Setting an INT_RAW bit is `Signals`. -/
theorem Signals.setIntBit (n i : Nat) (d : Device) : Signals n i d (d.setIntBit n i) := ⟨.setIntBit _ _ _, setInt_page _ _ _⟩
/-- Counting an error is `Errs`. -/
theorem Errs.countErr (n c : Nat) (d : Device) : Errs n c d (d.countErr n c) := ⟨.countErr _ _ _, countErr_page _ _ _⟩

/-! ### Field by field -/

@[simp] theorem event_clk (o : Option Nat) (s kd x : Nat) (d : Device) : (d.event o s kd x).clk = d.clk := by rw [(EventFrame.event o s kd x d).1]
@[simp] theorem event_tk (o : Option Nat) (s kd x : Nat) (d : Device) : (d.event o s kd x).tk = d.tk := by rw [(EventFrame.event o s kd x d).1]
@[simp] theorem event_fuses (o : Option Nat) (s kd x : Nat) (d : Device) : (d.event o s kd x).fuses = d.fuses := by rw [(EventFrame.event o s kd x d).1]
@[simp] theorem event_sec (o : Option Nat) (s kd x : Nat) (d : Device) : (d.event o s kd x).sec = d.sec := by rw [(EventFrame.event o s kd x d).1]
@[simp] theorem event_st (o : Option Nat) (s kd x : Nat) (d : Device) : (d.event o s kd x).st = d.st := by rw [(EventFrame.event o s kd x d).1]
@[simp] theorem event_flt (o : Option Nat) (s kd x : Nat) (d : Device) : (d.event o s kd x).flt = d.flt := by rw [(EventFrame.event o s kd x d).1]
@[simp] theorem event_pwr (o : Option Nat) (s kd x : Nat) (d : Device) : (d.event o s kd x).pwr = d.pwr := by rw [(EventFrame.event o s kd x d).1]
@[simp] theorem event_thr (o : Option Nat) (s kd x : Nat) (d : Device) : (d.event o s kd x).thr = d.thr := by rw [(EventFrame.event o s kd x d).1]
@[simp] theorem event_starter (o : Option Nat) (s kd x : Nat) (d : Device) : (d.event o s kd x).starter = d.starter := by rw [(EventFrame.event o s kd x d).1]
@[simp] theorem event_pacers (o : Option Nat) (s kd x : Nat) (d : Device) : (d.event o s kd x).pacers = d.pacers := by rw [(EventFrame.event o s kd x d).1]
@[simp] theorem event_tiles (o : Option Nat) (s kd x : Nat) (d : Device) : (d.event o s kd x).tiles = d.tiles := by rw [(EventFrame.event o s kd x d).1]
@[simp] theorem event_bmes (o : Option Nat) (s kd x : Nat) (d : Device) : (d.event o s kd x).bmes = d.bmes := by rw [(EventFrame.event o s kd x d).1]
@[simp] theorem event_chans (o : Option Nat) (s kd x : Nat) (d : Device) : (d.event o s kd x).chans = d.chans := by rw [(EventFrame.event o s kd x d).1]
@[simp] theorem event_net (o : Option Nat) (s kd x : Nat) (d : Device) : (d.event o s kd x).net = d.net := by rw [(EventFrame.event o s kd x d).1]
@[simp] theorem event_out (o : Option Nat) (s kd x : Nat) (d : Device) : (d.event o s kd x).out = d.out := by rw [(EventFrame.event o s kd x d).1]
@[simp] theorem event_freeCtr (o : Option Nat) (s kd x : Nat) (d : Device) : (d.event o s kd x).freeCtr = d.freeCtr := by rw [(EventFrame.event o s kd x d).1]
@[simp] theorem event_pacer (o : Option Nat) (s kd x : Nat) (j : Nat) (d : Device) : (d.event o s kd x).pacer j = d.pacer j := by unfold Device.pacer; rw [(EventFrame.event o s kd x d).1]
@[simp] theorem event_tile (o : Option Nat) (s kd x : Nat) (j : Nat) (d : Device) : (d.event o s kd x).tile j = d.tile j := by unfold Device.tile; rw [(EventFrame.event o s kd x d).1]
@[simp] theorem event_bme (o : Option Nat) (s kd x : Nat) (j : Nat) (d : Device) : (d.event o s kd x).bme j = d.bme j := by unfold Device.bme; rw [(EventFrame.event o s kd x d).1]
@[simp] theorem event_chan (o : Option Nat) (s kd x : Nat) (j : Nat) (d : Device) : (d.event o s kd x).chan j = d.chan j := by unfold Device.chan; rw [(EventFrame.event o s kd x d).1]
@[simp] theorem event_region (o : Option Nat) (s kd x : Nat) (j : Nat) (d : Device) : (d.event o s kd x).region j = d.region j := by unfold Device.region; rw [(EventFrame.event o s kd x d).1]
@[simp] theorem event_part_image (o : Option Nat) (s kd x : Nat) (k : Nat) (d : Device) : ((d.event o s kd x).part k).image = (d.part k).image := by rw [((EventFrame.event o s kd x d).2 k).1]
@[simp] theorem event_part_run (o : Option Nat) (s kd x : Nat) (k : Nat) (d : Device) : ((d.event o s kd x).part k).run = (d.part k).run := by rw [((EventFrame.event o s kd x d).2 k).1]
@[simp] theorem event_part_regions (o : Option Nat) (s kd x : Nat) (k : Nat) (d : Device) : ((d.event o s kd x).part k).regions = (d.part k).regions := by rw [((EventFrame.event o s kd x d).2 k).1]
@[simp] theorem event_part_groups (o : Option Nat) (s kd x : Nat) (k : Nat) (d : Device) : ((d.event o s kd x).part k).groups = (d.part k).groups := by rw [((EventFrame.event o s kd x d).2 k).1]
@[simp] theorem event_part_key (o : Option Nat) (s kd x : Nat) (k : Nat) (d : Device) : ((d.event o s kd x).part k).key = (d.part k).key := by rw [((EventFrame.event o s kd x d).2 k).1]
@[simp] theorem event_part_gen (o : Option Nat) (s kd x : Nat) (k : Nat) (d : Device) : ((d.event o s kd x).part k).gen = (d.part k).gen := by rw [((EventFrame.event o s kd x d).2 k).1]
@[simp] theorem event_part_epoch (o : Option Nat) (s kd x : Nat) (k : Nat) (d : Device) : ((d.event o s kd x).part k).epoch = (d.part k).epoch := by rw [((EventFrame.event o s kd x d).2 k).1]
@[simp] theorem event_part_serving (o : Option Nat) (s kd x : Nat) (k : Nat) (d : Device) : ((d.event o s kd x).part k).serving = (d.part k).serving := by rw [((EventFrame.event o s kd x d).2 k).1]
@[simp] theorem event_part_role (o : Option Nat) (s kd x : Nat) (k : Nat) (d : Device) : ((d.event o s kd x).part k).shadow.role = (d.part k).shadow.role := by rw [((EventFrame.event o s kd x d).2 k).1]
@[simp] theorem event_part_lent (o : Option Nat) (s kd x : Nat) (k : Nat) (d : Device) : ((d.event o s kd x).part k).lent = (d.part k).lent := by rw [((EventFrame.event o s kd x d).2 k).1]
@[simp] theorem event_part_heatNo (o : Option Nat) (s kd x : Nat) (k : Nat) (d : Device) : ((d.event o s kd x).part k).heatNo = (d.part k).heatNo := by rw [((EventFrame.event o s kd x d).2 k).1]
@[simp] theorem event_part_tH (o : Option Nat) (s kd x : Nat) (k : Nat) (d : Device) : ((d.event o s kd x).part k).tH = (d.part k).tH := by rw [((EventFrame.event o s kd x d).2 k).1]
@[simp] theorem event_mb_queue (o : Option Nat) (s kd x : Nat) (d : Device) : (d.event o s kd x).mb.queue = d.mb.queue := by rw [(EventFrame.event o s kd x d).1]
@[simp] theorem event_mb_placing (o : Option Nat) (s kd x : Nat) (d : Device) : (d.event o s kd x).mb.placing = d.mb.placing := by rw [(EventFrame.event o s kd x d).1]
@[simp] theorem event_mb_plan (o : Option Nat) (s kd x : Nat) (d : Device) : (d.event o s kd x).mb.plan = d.mb.plan := by rw [(EventFrame.event o s kd x d).1]
@[simp] theorem event_mb_results (o : Option Nat) (s kd x : Nat) (d : Device) : (d.event o s kd x).mb.results = d.mb.results := by rw [(EventFrame.event o s kd x d).1]
@[simp] theorem event_mb_devMode (o : Option Nat) (s kd x : Nat) (d : Device) : (d.event o s kd x).mb.devMode = d.mb.devMode := by rw [(EventFrame.event o s kd x d).1]
@[simp] theorem event_mb_partPending (o : Option Nat) (s kd x : Nat) (d : Device) : (d.event o s kd x).mb.partPending = d.mb.partPending := by rw [(EventFrame.event o s kd x d).1]
@[simp] theorem event_mb_drillAuth (o : Option Nat) (s kd x : Nat) (d : Device) : (d.event o s kd x).mb.drillAuth = d.mb.drillAuth := by rw [(EventFrame.event o s kd x d).1]
@[simp] theorem event_mb_lastDseq (o : Option Nat) (s kd x : Nat) (d : Device) : (d.event o s kd x).mb.lastDseq = d.mb.lastDseq := by rw [(EventFrame.event o s kd x d).1]
@[simp] theorem event_mb_partResult (o : Option Nat) (s kd x : Nat) (d : Device) : (d.event o s kd x).mb.partResult = d.mb.partResult := by rw [(EventFrame.event o s kd x d).1]
@[simp] theorem event_mb_partValid (o : Option Nat) (s kd x : Nat) (d : Device) : (d.event o s kd x).mb.partValid = d.mb.partValid := by rw [(EventFrame.event o s kd x d).1]
@[simp] theorem event_mb_drillResult (o : Option Nat) (s kd x : Nat) (d : Device) : (d.event o s kd x).mb.drillResult = d.mb.drillResult := by rw [(EventFrame.event o s kd x d).1]
@[simp] theorem event_mb_drillValid (o : Option Nat) (s kd x : Nat) (d : Device) : (d.event o s kd x).mb.drillValid = d.mb.drillValid := by rw [(EventFrame.event o s kd x d).1]
@[simp] theorem event_mb_jclrResult (o : Option Nat) (s kd x : Nat) (d : Device) : (d.event o s kd x).mb.jclrResult = d.mb.jclrResult := by rw [(EventFrame.event o s kd x d).1]
@[simp] theorem event_mb_jclrValid (o : Option Nat) (s kd x : Nat) (d : Device) : (d.event o s kd x).mb.jclrValid = d.mb.jclrValid := by rw [(EventFrame.event o s kd x d).1]
@[simp] theorem event_pages (o : Option Nat) (s kd x : Nat) (d : Device) : (d.event o s kd x).pages = d.pages := by rw [(EventFrame.event o s kd x d).1]
@[simp] theorem setInt_clk (n : Nat) (b : W32) (d : Device) : (d.setInt n b).clk = d.clk := by rw [(FlagFrame.setInt n b d).1]
@[simp] theorem setInt_tk (n : Nat) (b : W32) (d : Device) : (d.setInt n b).tk = d.tk := by rw [(FlagFrame.setInt n b d).1]
@[simp] theorem setInt_fuses (n : Nat) (b : W32) (d : Device) : (d.setInt n b).fuses = d.fuses := by rw [(FlagFrame.setInt n b d).1]
@[simp] theorem setInt_sec (n : Nat) (b : W32) (d : Device) : (d.setInt n b).sec = d.sec := by rw [(FlagFrame.setInt n b d).1]
@[simp] theorem setInt_st (n : Nat) (b : W32) (d : Device) : (d.setInt n b).st = d.st := by rw [(FlagFrame.setInt n b d).1]
@[simp] theorem setInt_flt (n : Nat) (b : W32) (d : Device) : (d.setInt n b).flt = d.flt := by rw [(FlagFrame.setInt n b d).1]
@[simp] theorem setInt_pwr (n : Nat) (b : W32) (d : Device) : (d.setInt n b).pwr = d.pwr := by rw [(FlagFrame.setInt n b d).1]
@[simp] theorem setInt_thr (n : Nat) (b : W32) (d : Device) : (d.setInt n b).thr = d.thr := by rw [(FlagFrame.setInt n b d).1]
@[simp] theorem setInt_starter (n : Nat) (b : W32) (d : Device) : (d.setInt n b).starter = d.starter := by rw [(FlagFrame.setInt n b d).1]
@[simp] theorem setInt_pacers (n : Nat) (b : W32) (d : Device) : (d.setInt n b).pacers = d.pacers := by rw [(FlagFrame.setInt n b d).1]
@[simp] theorem setInt_tiles (n : Nat) (b : W32) (d : Device) : (d.setInt n b).tiles = d.tiles := by rw [(FlagFrame.setInt n b d).1]
@[simp] theorem setInt_bmes (n : Nat) (b : W32) (d : Device) : (d.setInt n b).bmes = d.bmes := by rw [(FlagFrame.setInt n b d).1]
@[simp] theorem setInt_chans (n : Nat) (b : W32) (d : Device) : (d.setInt n b).chans = d.chans := by rw [(FlagFrame.setInt n b d).1]
@[simp] theorem setInt_net (n : Nat) (b : W32) (d : Device) : (d.setInt n b).net = d.net := by rw [(FlagFrame.setInt n b d).1]
@[simp] theorem setInt_out (n : Nat) (b : W32) (d : Device) : (d.setInt n b).out = d.out := by rw [(FlagFrame.setInt n b d).1]
@[simp] theorem setInt_freeCtr (n : Nat) (b : W32) (d : Device) : (d.setInt n b).freeCtr = d.freeCtr := by rw [(FlagFrame.setInt n b d).1]
@[simp] theorem setInt_pacer (n : Nat) (b : W32) (j : Nat) (d : Device) : (d.setInt n b).pacer j = d.pacer j := by unfold Device.pacer; rw [(FlagFrame.setInt n b d).1]
@[simp] theorem setInt_tile (n : Nat) (b : W32) (j : Nat) (d : Device) : (d.setInt n b).tile j = d.tile j := by unfold Device.tile; rw [(FlagFrame.setInt n b d).1]
@[simp] theorem setInt_bme (n : Nat) (b : W32) (j : Nat) (d : Device) : (d.setInt n b).bme j = d.bme j := by unfold Device.bme; rw [(FlagFrame.setInt n b d).1]
@[simp] theorem setInt_chan (n : Nat) (b : W32) (j : Nat) (d : Device) : (d.setInt n b).chan j = d.chan j := by unfold Device.chan; rw [(FlagFrame.setInt n b d).1]
@[simp] theorem setInt_region (n : Nat) (b : W32) (j : Nat) (d : Device) : (d.setInt n b).region j = d.region j := by unfold Device.region; rw [(FlagFrame.setInt n b d).1]
@[simp] theorem setInt_part_image (n : Nat) (b : W32) (k : Nat) (d : Device) : ((d.setInt n b).part k).image = (d.part k).image := by rw [((FlagFrame.setInt n b d).2 k).1]
@[simp] theorem setInt_part_run (n : Nat) (b : W32) (k : Nat) (d : Device) : ((d.setInt n b).part k).run = (d.part k).run := by rw [((FlagFrame.setInt n b d).2 k).1]
@[simp] theorem setInt_part_regions (n : Nat) (b : W32) (k : Nat) (d : Device) : ((d.setInt n b).part k).regions = (d.part k).regions := by rw [((FlagFrame.setInt n b d).2 k).1]
@[simp] theorem setInt_part_groups (n : Nat) (b : W32) (k : Nat) (d : Device) : ((d.setInt n b).part k).groups = (d.part k).groups := by rw [((FlagFrame.setInt n b d).2 k).1]
@[simp] theorem setInt_part_key (n : Nat) (b : W32) (k : Nat) (d : Device) : ((d.setInt n b).part k).key = (d.part k).key := by rw [((FlagFrame.setInt n b d).2 k).1]
@[simp] theorem setInt_part_gen (n : Nat) (b : W32) (k : Nat) (d : Device) : ((d.setInt n b).part k).gen = (d.part k).gen := by rw [((FlagFrame.setInt n b d).2 k).1]
@[simp] theorem setInt_part_epoch (n : Nat) (b : W32) (k : Nat) (d : Device) : ((d.setInt n b).part k).epoch = (d.part k).epoch := by rw [((FlagFrame.setInt n b d).2 k).1]
@[simp] theorem setInt_part_serving (n : Nat) (b : W32) (k : Nat) (d : Device) : ((d.setInt n b).part k).serving = (d.part k).serving := by rw [((FlagFrame.setInt n b d).2 k).1]
@[simp] theorem setInt_part_role (n : Nat) (b : W32) (k : Nat) (d : Device) : ((d.setInt n b).part k).shadow.role = (d.part k).shadow.role := by rw [((FlagFrame.setInt n b d).2 k).1]
@[simp] theorem setInt_part_lent (n : Nat) (b : W32) (k : Nat) (d : Device) : ((d.setInt n b).part k).lent = (d.part k).lent := by rw [((FlagFrame.setInt n b d).2 k).1]
@[simp] theorem setInt_part_heatNo (n : Nat) (b : W32) (k : Nat) (d : Device) : ((d.setInt n b).part k).heatNo = (d.part k).heatNo := by rw [((FlagFrame.setInt n b d).2 k).1]
@[simp] theorem setInt_part_tH (n : Nat) (b : W32) (k : Nat) (d : Device) : ((d.setInt n b).part k).tH = (d.part k).tH := by rw [((FlagFrame.setInt n b d).2 k).1]
@[simp] theorem setInt_mb_queue (n : Nat) (b : W32) (d : Device) : (d.setInt n b).mb.queue = d.mb.queue := by rw [(FlagFrame.setInt n b d).1]
@[simp] theorem setInt_mb_placing (n : Nat) (b : W32) (d : Device) : (d.setInt n b).mb.placing = d.mb.placing := by rw [(FlagFrame.setInt n b d).1]
@[simp] theorem setInt_mb_plan (n : Nat) (b : W32) (d : Device) : (d.setInt n b).mb.plan = d.mb.plan := by rw [(FlagFrame.setInt n b d).1]
@[simp] theorem setInt_mb_results (n : Nat) (b : W32) (d : Device) : (d.setInt n b).mb.results = d.mb.results := by rw [(FlagFrame.setInt n b d).1]
@[simp] theorem setInt_mb_devMode (n : Nat) (b : W32) (d : Device) : (d.setInt n b).mb.devMode = d.mb.devMode := by rw [(FlagFrame.setInt n b d).1]
@[simp] theorem setInt_mb_partPending (n : Nat) (b : W32) (d : Device) : (d.setInt n b).mb.partPending = d.mb.partPending := by rw [(FlagFrame.setInt n b d).1]
@[simp] theorem setInt_mb_drillAuth (n : Nat) (b : W32) (d : Device) : (d.setInt n b).mb.drillAuth = d.mb.drillAuth := by rw [(FlagFrame.setInt n b d).1]
@[simp] theorem setInt_mb_lastDseq (n : Nat) (b : W32) (d : Device) : (d.setInt n b).mb.lastDseq = d.mb.lastDseq := by rw [(FlagFrame.setInt n b d).1]
@[simp] theorem setInt_mb_partResult (n : Nat) (b : W32) (d : Device) : (d.setInt n b).mb.partResult = d.mb.partResult := by rw [(FlagFrame.setInt n b d).1]
@[simp] theorem setInt_mb_partValid (n : Nat) (b : W32) (d : Device) : (d.setInt n b).mb.partValid = d.mb.partValid := by rw [(FlagFrame.setInt n b d).1]
@[simp] theorem setInt_mb_drillResult (n : Nat) (b : W32) (d : Device) : (d.setInt n b).mb.drillResult = d.mb.drillResult := by rw [(FlagFrame.setInt n b d).1]
@[simp] theorem setInt_mb_drillValid (n : Nat) (b : W32) (d : Device) : (d.setInt n b).mb.drillValid = d.mb.drillValid := by rw [(FlagFrame.setInt n b d).1]
@[simp] theorem setInt_mb_jclrResult (n : Nat) (b : W32) (d : Device) : (d.setInt n b).mb.jclrResult = d.mb.jclrResult := by rw [(FlagFrame.setInt n b d).1]
@[simp] theorem setInt_mb_jclrValid (n : Nat) (b : W32) (d : Device) : (d.setInt n b).mb.jclrValid = d.mb.jclrValid := by rw [(FlagFrame.setInt n b d).1]
@[simp] theorem setIntBit_clk (n i : Nat) (d : Device) : (d.setIntBit n i).clk = d.clk := by rw [(FlagFrame.setIntBit n i d).1]
@[simp] theorem setIntBit_tk (n i : Nat) (d : Device) : (d.setIntBit n i).tk = d.tk := by rw [(FlagFrame.setIntBit n i d).1]
@[simp] theorem setIntBit_fuses (n i : Nat) (d : Device) : (d.setIntBit n i).fuses = d.fuses := by rw [(FlagFrame.setIntBit n i d).1]
@[simp] theorem setIntBit_sec (n i : Nat) (d : Device) : (d.setIntBit n i).sec = d.sec := by rw [(FlagFrame.setIntBit n i d).1]
@[simp] theorem setIntBit_st (n i : Nat) (d : Device) : (d.setIntBit n i).st = d.st := by rw [(FlagFrame.setIntBit n i d).1]
@[simp] theorem setIntBit_flt (n i : Nat) (d : Device) : (d.setIntBit n i).flt = d.flt := by rw [(FlagFrame.setIntBit n i d).1]
@[simp] theorem setIntBit_pwr (n i : Nat) (d : Device) : (d.setIntBit n i).pwr = d.pwr := by rw [(FlagFrame.setIntBit n i d).1]
@[simp] theorem setIntBit_thr (n i : Nat) (d : Device) : (d.setIntBit n i).thr = d.thr := by rw [(FlagFrame.setIntBit n i d).1]
@[simp] theorem setIntBit_starter (n i : Nat) (d : Device) : (d.setIntBit n i).starter = d.starter := by rw [(FlagFrame.setIntBit n i d).1]
@[simp] theorem setIntBit_pacers (n i : Nat) (d : Device) : (d.setIntBit n i).pacers = d.pacers := by rw [(FlagFrame.setIntBit n i d).1]
@[simp] theorem setIntBit_tiles (n i : Nat) (d : Device) : (d.setIntBit n i).tiles = d.tiles := by rw [(FlagFrame.setIntBit n i d).1]
@[simp] theorem setIntBit_bmes (n i : Nat) (d : Device) : (d.setIntBit n i).bmes = d.bmes := by rw [(FlagFrame.setIntBit n i d).1]
@[simp] theorem setIntBit_chans (n i : Nat) (d : Device) : (d.setIntBit n i).chans = d.chans := by rw [(FlagFrame.setIntBit n i d).1]
@[simp] theorem setIntBit_net (n i : Nat) (d : Device) : (d.setIntBit n i).net = d.net := by rw [(FlagFrame.setIntBit n i d).1]
@[simp] theorem setIntBit_out (n i : Nat) (d : Device) : (d.setIntBit n i).out = d.out := by rw [(FlagFrame.setIntBit n i d).1]
@[simp] theorem setIntBit_freeCtr (n i : Nat) (d : Device) : (d.setIntBit n i).freeCtr = d.freeCtr := by rw [(FlagFrame.setIntBit n i d).1]
@[simp] theorem setIntBit_pacer (n i : Nat) (j : Nat) (d : Device) : (d.setIntBit n i).pacer j = d.pacer j := by unfold Device.pacer; rw [(FlagFrame.setIntBit n i d).1]
@[simp] theorem setIntBit_tile (n i : Nat) (j : Nat) (d : Device) : (d.setIntBit n i).tile j = d.tile j := by unfold Device.tile; rw [(FlagFrame.setIntBit n i d).1]
@[simp] theorem setIntBit_bme (n i : Nat) (j : Nat) (d : Device) : (d.setIntBit n i).bme j = d.bme j := by unfold Device.bme; rw [(FlagFrame.setIntBit n i d).1]
@[simp] theorem setIntBit_chan (n i : Nat) (j : Nat) (d : Device) : (d.setIntBit n i).chan j = d.chan j := by unfold Device.chan; rw [(FlagFrame.setIntBit n i d).1]
@[simp] theorem setIntBit_region (n i : Nat) (j : Nat) (d : Device) : (d.setIntBit n i).region j = d.region j := by unfold Device.region; rw [(FlagFrame.setIntBit n i d).1]
@[simp] theorem setIntBit_part_image (n i : Nat) (k : Nat) (d : Device) : ((d.setIntBit n i).part k).image = (d.part k).image := by rw [((FlagFrame.setIntBit n i d).2 k).1]
@[simp] theorem setIntBit_part_run (n i : Nat) (k : Nat) (d : Device) : ((d.setIntBit n i).part k).run = (d.part k).run := by rw [((FlagFrame.setIntBit n i d).2 k).1]
@[simp] theorem setIntBit_part_regions (n i : Nat) (k : Nat) (d : Device) : ((d.setIntBit n i).part k).regions = (d.part k).regions := by rw [((FlagFrame.setIntBit n i d).2 k).1]
@[simp] theorem setIntBit_part_groups (n i : Nat) (k : Nat) (d : Device) : ((d.setIntBit n i).part k).groups = (d.part k).groups := by rw [((FlagFrame.setIntBit n i d).2 k).1]
@[simp] theorem setIntBit_part_key (n i : Nat) (k : Nat) (d : Device) : ((d.setIntBit n i).part k).key = (d.part k).key := by rw [((FlagFrame.setIntBit n i d).2 k).1]
@[simp] theorem setIntBit_part_gen (n i : Nat) (k : Nat) (d : Device) : ((d.setIntBit n i).part k).gen = (d.part k).gen := by rw [((FlagFrame.setIntBit n i d).2 k).1]
@[simp] theorem setIntBit_part_epoch (n i : Nat) (k : Nat) (d : Device) : ((d.setIntBit n i).part k).epoch = (d.part k).epoch := by rw [((FlagFrame.setIntBit n i d).2 k).1]
@[simp] theorem setIntBit_part_serving (n i : Nat) (k : Nat) (d : Device) : ((d.setIntBit n i).part k).serving = (d.part k).serving := by rw [((FlagFrame.setIntBit n i d).2 k).1]
@[simp] theorem setIntBit_part_role (n i : Nat) (k : Nat) (d : Device) : ((d.setIntBit n i).part k).shadow.role = (d.part k).shadow.role := by rw [((FlagFrame.setIntBit n i d).2 k).1]
@[simp] theorem setIntBit_part_lent (n i : Nat) (k : Nat) (d : Device) : ((d.setIntBit n i).part k).lent = (d.part k).lent := by rw [((FlagFrame.setIntBit n i d).2 k).1]
@[simp] theorem setIntBit_part_heatNo (n i : Nat) (k : Nat) (d : Device) : ((d.setIntBit n i).part k).heatNo = (d.part k).heatNo := by rw [((FlagFrame.setIntBit n i d).2 k).1]
@[simp] theorem setIntBit_part_tH (n i : Nat) (k : Nat) (d : Device) : ((d.setIntBit n i).part k).tH = (d.part k).tH := by rw [((FlagFrame.setIntBit n i d).2 k).1]
@[simp] theorem setIntBit_mb_queue (n i : Nat) (d : Device) : (d.setIntBit n i).mb.queue = d.mb.queue := by rw [(FlagFrame.setIntBit n i d).1]
@[simp] theorem setIntBit_mb_placing (n i : Nat) (d : Device) : (d.setIntBit n i).mb.placing = d.mb.placing := by rw [(FlagFrame.setIntBit n i d).1]
@[simp] theorem setIntBit_mb_plan (n i : Nat) (d : Device) : (d.setIntBit n i).mb.plan = d.mb.plan := by rw [(FlagFrame.setIntBit n i d).1]
@[simp] theorem setIntBit_mb_results (n i : Nat) (d : Device) : (d.setIntBit n i).mb.results = d.mb.results := by rw [(FlagFrame.setIntBit n i d).1]
@[simp] theorem setIntBit_mb_devMode (n i : Nat) (d : Device) : (d.setIntBit n i).mb.devMode = d.mb.devMode := by rw [(FlagFrame.setIntBit n i d).1]
@[simp] theorem setIntBit_mb_partPending (n i : Nat) (d : Device) : (d.setIntBit n i).mb.partPending = d.mb.partPending := by rw [(FlagFrame.setIntBit n i d).1]
@[simp] theorem setIntBit_mb_drillAuth (n i : Nat) (d : Device) : (d.setIntBit n i).mb.drillAuth = d.mb.drillAuth := by rw [(FlagFrame.setIntBit n i d).1]
@[simp] theorem setIntBit_mb_lastDseq (n i : Nat) (d : Device) : (d.setIntBit n i).mb.lastDseq = d.mb.lastDseq := by rw [(FlagFrame.setIntBit n i d).1]
@[simp] theorem setIntBit_mb_partResult (n i : Nat) (d : Device) : (d.setIntBit n i).mb.partResult = d.mb.partResult := by rw [(FlagFrame.setIntBit n i d).1]
@[simp] theorem setIntBit_mb_partValid (n i : Nat) (d : Device) : (d.setIntBit n i).mb.partValid = d.mb.partValid := by rw [(FlagFrame.setIntBit n i d).1]
@[simp] theorem setIntBit_mb_drillResult (n i : Nat) (d : Device) : (d.setIntBit n i).mb.drillResult = d.mb.drillResult := by rw [(FlagFrame.setIntBit n i d).1]
@[simp] theorem setIntBit_mb_drillValid (n i : Nat) (d : Device) : (d.setIntBit n i).mb.drillValid = d.mb.drillValid := by rw [(FlagFrame.setIntBit n i d).1]
@[simp] theorem setIntBit_mb_jclrResult (n i : Nat) (d : Device) : (d.setIntBit n i).mb.jclrResult = d.mb.jclrResult := by rw [(FlagFrame.setIntBit n i d).1]
@[simp] theorem setIntBit_mb_jclrValid (n i : Nat) (d : Device) : (d.setIntBit n i).mb.jclrValid = d.mb.jclrValid := by rw [(FlagFrame.setIntBit n i d).1]
@[simp] theorem countErr_clk (n c : Nat) (d : Device) : (d.countErr n c).clk = d.clk := by rw [(FlagFrame.countErr n c d).1]
@[simp] theorem countErr_tk (n c : Nat) (d : Device) : (d.countErr n c).tk = d.tk := by rw [(FlagFrame.countErr n c d).1]
@[simp] theorem countErr_fuses (n c : Nat) (d : Device) : (d.countErr n c).fuses = d.fuses := by rw [(FlagFrame.countErr n c d).1]
@[simp] theorem countErr_sec (n c : Nat) (d : Device) : (d.countErr n c).sec = d.sec := by rw [(FlagFrame.countErr n c d).1]
@[simp] theorem countErr_st (n c : Nat) (d : Device) : (d.countErr n c).st = d.st := by rw [(FlagFrame.countErr n c d).1]
@[simp] theorem countErr_flt (n c : Nat) (d : Device) : (d.countErr n c).flt = d.flt := by rw [(FlagFrame.countErr n c d).1]
@[simp] theorem countErr_pwr (n c : Nat) (d : Device) : (d.countErr n c).pwr = d.pwr := by rw [(FlagFrame.countErr n c d).1]
@[simp] theorem countErr_thr (n c : Nat) (d : Device) : (d.countErr n c).thr = d.thr := by rw [(FlagFrame.countErr n c d).1]
@[simp] theorem countErr_starter (n c : Nat) (d : Device) : (d.countErr n c).starter = d.starter := by rw [(FlagFrame.countErr n c d).1]
@[simp] theorem countErr_pacers (n c : Nat) (d : Device) : (d.countErr n c).pacers = d.pacers := by rw [(FlagFrame.countErr n c d).1]
@[simp] theorem countErr_tiles (n c : Nat) (d : Device) : (d.countErr n c).tiles = d.tiles := by rw [(FlagFrame.countErr n c d).1]
@[simp] theorem countErr_bmes (n c : Nat) (d : Device) : (d.countErr n c).bmes = d.bmes := by rw [(FlagFrame.countErr n c d).1]
@[simp] theorem countErr_chans (n c : Nat) (d : Device) : (d.countErr n c).chans = d.chans := by rw [(FlagFrame.countErr n c d).1]
@[simp] theorem countErr_net (n c : Nat) (d : Device) : (d.countErr n c).net = d.net := by rw [(FlagFrame.countErr n c d).1]
@[simp] theorem countErr_out (n c : Nat) (d : Device) : (d.countErr n c).out = d.out := by rw [(FlagFrame.countErr n c d).1]
@[simp] theorem countErr_freeCtr (n c : Nat) (d : Device) : (d.countErr n c).freeCtr = d.freeCtr := by rw [(FlagFrame.countErr n c d).1]
@[simp] theorem countErr_pacer (n c : Nat) (j : Nat) (d : Device) : (d.countErr n c).pacer j = d.pacer j := by unfold Device.pacer; rw [(FlagFrame.countErr n c d).1]
@[simp] theorem countErr_tile (n c : Nat) (j : Nat) (d : Device) : (d.countErr n c).tile j = d.tile j := by unfold Device.tile; rw [(FlagFrame.countErr n c d).1]
@[simp] theorem countErr_bme (n c : Nat) (j : Nat) (d : Device) : (d.countErr n c).bme j = d.bme j := by unfold Device.bme; rw [(FlagFrame.countErr n c d).1]
@[simp] theorem countErr_chan (n c : Nat) (j : Nat) (d : Device) : (d.countErr n c).chan j = d.chan j := by unfold Device.chan; rw [(FlagFrame.countErr n c d).1]
@[simp] theorem countErr_region (n c : Nat) (j : Nat) (d : Device) : (d.countErr n c).region j = d.region j := by unfold Device.region; rw [(FlagFrame.countErr n c d).1]
@[simp] theorem countErr_part_image (n c : Nat) (k : Nat) (d : Device) : ((d.countErr n c).part k).image = (d.part k).image := by rw [((FlagFrame.countErr n c d).2 k).1]
@[simp] theorem countErr_part_run (n c : Nat) (k : Nat) (d : Device) : ((d.countErr n c).part k).run = (d.part k).run := by rw [((FlagFrame.countErr n c d).2 k).1]
@[simp] theorem countErr_part_regions (n c : Nat) (k : Nat) (d : Device) : ((d.countErr n c).part k).regions = (d.part k).regions := by rw [((FlagFrame.countErr n c d).2 k).1]
@[simp] theorem countErr_part_groups (n c : Nat) (k : Nat) (d : Device) : ((d.countErr n c).part k).groups = (d.part k).groups := by rw [((FlagFrame.countErr n c d).2 k).1]
@[simp] theorem countErr_part_key (n c : Nat) (k : Nat) (d : Device) : ((d.countErr n c).part k).key = (d.part k).key := by rw [((FlagFrame.countErr n c d).2 k).1]
@[simp] theorem countErr_part_gen (n c : Nat) (k : Nat) (d : Device) : ((d.countErr n c).part k).gen = (d.part k).gen := by rw [((FlagFrame.countErr n c d).2 k).1]
@[simp] theorem countErr_part_epoch (n c : Nat) (k : Nat) (d : Device) : ((d.countErr n c).part k).epoch = (d.part k).epoch := by rw [((FlagFrame.countErr n c d).2 k).1]
@[simp] theorem countErr_part_serving (n c : Nat) (k : Nat) (d : Device) : ((d.countErr n c).part k).serving = (d.part k).serving := by rw [((FlagFrame.countErr n c d).2 k).1]
@[simp] theorem countErr_part_role (n c : Nat) (k : Nat) (d : Device) : ((d.countErr n c).part k).shadow.role = (d.part k).shadow.role := by rw [((FlagFrame.countErr n c d).2 k).1]
@[simp] theorem countErr_part_lent (n c : Nat) (k : Nat) (d : Device) : ((d.countErr n c).part k).lent = (d.part k).lent := by rw [((FlagFrame.countErr n c d).2 k).1]
@[simp] theorem countErr_part_heatNo (n c : Nat) (k : Nat) (d : Device) : ((d.countErr n c).part k).heatNo = (d.part k).heatNo := by rw [((FlagFrame.countErr n c d).2 k).1]
@[simp] theorem countErr_part_tH (n c : Nat) (k : Nat) (d : Device) : ((d.countErr n c).part k).tH = (d.part k).tH := by rw [((FlagFrame.countErr n c d).2 k).1]
@[simp] theorem countErr_mb_queue (n c : Nat) (d : Device) : (d.countErr n c).mb.queue = d.mb.queue := by rw [(FlagFrame.countErr n c d).1]
@[simp] theorem countErr_mb_placing (n c : Nat) (d : Device) : (d.countErr n c).mb.placing = d.mb.placing := by rw [(FlagFrame.countErr n c d).1]
@[simp] theorem countErr_mb_plan (n c : Nat) (d : Device) : (d.countErr n c).mb.plan = d.mb.plan := by rw [(FlagFrame.countErr n c d).1]
@[simp] theorem countErr_mb_results (n c : Nat) (d : Device) : (d.countErr n c).mb.results = d.mb.results := by rw [(FlagFrame.countErr n c d).1]
@[simp] theorem countErr_mb_devMode (n c : Nat) (d : Device) : (d.countErr n c).mb.devMode = d.mb.devMode := by rw [(FlagFrame.countErr n c d).1]
@[simp] theorem countErr_mb_partPending (n c : Nat) (d : Device) : (d.countErr n c).mb.partPending = d.mb.partPending := by rw [(FlagFrame.countErr n c d).1]
@[simp] theorem countErr_mb_drillAuth (n c : Nat) (d : Device) : (d.countErr n c).mb.drillAuth = d.mb.drillAuth := by rw [(FlagFrame.countErr n c d).1]
@[simp] theorem countErr_mb_lastDseq (n c : Nat) (d : Device) : (d.countErr n c).mb.lastDseq = d.mb.lastDseq := by rw [(FlagFrame.countErr n c d).1]
@[simp] theorem countErr_mb_partResult (n c : Nat) (d : Device) : (d.countErr n c).mb.partResult = d.mb.partResult := by rw [(FlagFrame.countErr n c d).1]
@[simp] theorem countErr_mb_partValid (n c : Nat) (d : Device) : (d.countErr n c).mb.partValid = d.mb.partValid := by rw [(FlagFrame.countErr n c d).1]
@[simp] theorem countErr_mb_drillResult (n c : Nat) (d : Device) : (d.countErr n c).mb.drillResult = d.mb.drillResult := by rw [(FlagFrame.countErr n c d).1]
@[simp] theorem countErr_mb_drillValid (n c : Nat) (d : Device) : (d.countErr n c).mb.drillValid = d.mb.drillValid := by rw [(FlagFrame.countErr n c d).1]
@[simp] theorem countErr_mb_jclrResult (n c : Nat) (d : Device) : (d.countErr n c).mb.jclrResult = d.mb.jclrResult := by rw [(FlagFrame.countErr n c d).1]
@[simp] theorem countErr_mb_jclrValid (n c : Nat) (d : Device) : (d.countErr n c).mb.jclrValid = d.mb.jclrValid := by rw [(FlagFrame.countErr n c d).1]

end Sys2Proof.Machine
end

