-- ==== Sys2Proof/Laws/Fault.lean ====
section
/-! SUPPORT. What raising a fault record does, said once: its number, where it stands, and its frame. -/

namespace Sys2Proof.Machine

/-- Two devices alike in everything but the fault stores and the count of records that found no ring. -/
def RecordFrame (d e : Device) : Prop := e = { d with flt := e.flt, mb := { d.mb with ringMiss := e.mb.ringMiss } }

theorem storeRecord_flt (r : FaultRec) (d : Device) :
    ∃ ring, (d.storeRecord r).flt = { d.flt with onDie := Map.set {} d.flt.onDie (r.seq.toNat % 256) r, ring := ring } := by
  unfold Device.storeRecord
  simp only
  split <;> exact ⟨_, rfl⟩

theorem RecordFrame.storeRecord (r : FaultRec) (d : Device) : RecordFrame d (d.storeRecord r) := by
  unfold Device.storeRecord RecordFrame
  simp only
  split <;> rfl

/-- The fault store after one new record: the record stands under its number, and it will be signalled. -/
theorem newRecord_flt (f : FaultIn) (k : Option Nat) (a : Nat) (s2 : Bool) (d : Device) :
    ∃ ring, (d.newRecord f k a s2).flt =
      { d.flt with seq := d.flt.seq + 1, ring := ring,
                   onDie := Map.set {} d.flt.onDie (d.flt.seq.toNat % 256) (d.faultRec f a s2),
                   pending := d.flt.pending ++ [(k.getD 8, d.flt.seq, d.clk.now)] } := by
  obtain ⟨ring, h⟩ := storeRecord_flt (d.faultRec f a s2) d
  exact ⟨ring, by simp only [Device.newRecord, Device.updFlt_flt, h]; rfl⟩

theorem RecordFrame.newRecord (f : FaultIn) (k : Option Nat) (a : Nat) (s2 : Bool) (d : Device) :
    RecordFrame d (d.newRecord f k a s2) := by
  have h := RecordFrame.storeRecord (d.faultRec f a s2) d
  unfold RecordFrame at *
  unfold Device.newRecord
  rw [h]
  rfl

theorem ownerPart_zero (d : Device) : d.ownerPart 0 = none := rfl

/-- A fault attributed to no partition is one record (R341). -/
theorem raise_none (f : FaultIn) (h : f.pcid = 0) (d : Device) :
    d.raise f = d.newRecord f none (if f.code / 256 = 5 ∨ f.code / 256 = 6 ∨ f.code = 0x0301 ∨ f.code = 0x0401 then f.action else 0) false := by
  unfold Device.raise
  rw [h, ownerPart_zero]

end Sys2Proof.Machine
end

