-- ==== Sys2Proof/Laws/Memory.lean ====
section
/-! SUPPORT. The addressed memories: every operation that writes one keeps the canonical form, and what a read of clean memory
gives. -/

namespace Sys2Proof.Machine

/-! ### The canonical form of the four memories -/

/-- A property of every entry outlasts a write of an entry that has it. -/
theorem all_set {α : Type} [DecidableEq α] (p : Nat × α → Bool) (z : α) (m : Map α) (k : Nat) (v : α) (h : m.all p = true)
    (hv : p (k, v) = true) : (Map.set z m k v).all p = true := by
  have he : (Map.erase m k).all p = true := by
    simp only [Map.erase, List.all_eq_true] at h ⊢
    exact fun x hx => h x (List.mem_filter.mp hx).1
  unfold Map.set
  split
  · exact he
  · generalize Map.erase m k = n at he
    induction n with
    | nil => simp [Map.insert, hv]
    | cons e t ih =>
      obtain ⟨a, w⟩ := e
      simp only [List.all_cons, Bool.and_eq_true] at he
      simp only [Map.insert]
      split <;> simp_all

/-- An entry read from a map whose entries, and whose unlisted value, have a property has it. -/
theorem get_of_all {α : Type} (q : α → Bool) (z : α) (m : Map α) (k : Nat) (h : m.all (fun e => q e.2) = true) (hz : q z = true) :
    q (Map.get z m k) = true := by
  induction m with
  | nil => exact hz
  | cons e t ih =>
    obtain ⟨a, w⟩ := e
    simp only [List.all_cons, Bool.and_eq_true] at h
    simp only [Map.get]
    split
    · exact h.1
    · exact ih h.2

theorem all_upd {α : Type} [DecidableEq α] (q : α → Bool) (z : α) (m : Map α) (k : Nat) (f : α → α)
    (h : m.all (fun e => q e.2) = true) (hz : q z = true) (hf : ∀ x, q x = true → q (f x) = true) :
    (Map.upd z m k f).all (fun e => q e.2) = true :=
  all_set (fun e => q e.2) z m k _ h (hf _ (get_of_all q z m k h hz))

theorem Memory.wf_iff (d : Device) : Memory.wf d = true ↔
    (d.tiles.all fun t => Map.wf 0 t.2.mem) = true ∧ (d.chans.all fun c => Map.wf none c.2.lines) = true ∧
      (d.bmes.all fun b => Map.wf 0 b.2.queries) = true ∧ Map.wf 0 d.starter.table = true := by
  simp [Memory.wf, and_assoc]

/-- The canonical form reads nothing but the four memories. -/
theorem Memory.wf_congr {d e : Device} (ht : e.tiles = d.tiles) (hc : e.chans = d.chans) (hb : e.bmes = d.bmes)
    (hs : e.starter.table = d.starter.table) : Memory.wf e = Memory.wf d := by
  simp only [Memory.wf, ht, hc, hb, hs]

/-- A change of a tile that keeps its array memory canonical keeps the whole canonical. -/
theorem Memory.wf_updTile (t : Nat) (f : Tile → Tile) (d : Device) (hf : ∀ x, Map.wf 0 x.mem = true → Map.wf 0 (f x).mem = true)
    (h : Memory.wf d = true) : Memory.wf (d.updTile t f) = true := by
  rw [Memory.wf_iff] at h ⊢
  exact ⟨all_upd (fun x : Tile => Map.wf 0 x.mem) {} d.tiles t f h.1 rfl hf, h.2⟩

theorem Memory.wf_updChan (c : Nat) (f : Chan → Chan) (d : Device)
    (hf : ∀ x, Map.wf none x.lines = true → Map.wf none (f x).lines = true) (h : Memory.wf d = true) :
    Memory.wf (d.updChan c f) = true := by
  rw [Memory.wf_iff] at h ⊢
  exact ⟨h.1, all_upd (fun x : Chan => Map.wf none x.lines) {} d.chans c f h.2.1 rfl hf, h.2.2⟩

theorem Memory.wf_updBme (c : Nat) (f : Bme → Bme) (d : Device)
    (hf : ∀ x, Map.wf 0 x.queries = true → Map.wf 0 (f x).queries = true) (h : Memory.wf d = true) :
    Memory.wf (d.updBme c f) = true := by
  rw [Memory.wf_iff] at h ⊢
  exact ⟨h.1, h.2.1, all_upd (fun x : Bme => Map.wf 0 x.queries) {} d.bmes c f h.2.2.1 rfl hf, h.2.2.2⟩

theorem Memory.wf_updStarter (f : Starter → Starter) (d : Device) (hf : ∀ x, Map.wf 0 x.table = true → Map.wf 0 (f x).table = true)
    (h : Memory.wf d = true) : Memory.wf (d.updStarter f) = true := by
  rw [Memory.wf_iff] at h ⊢
  exact ⟨h.1, h.2.1, h.2.2.1, hf _ h.2.2.2⟩

/-- Counting voided drills leaves the memories alone. -/
theorem Memory.wf_countVoid (us : List Upset) (d : Device) : Memory.wf (d.countVoid us) = Memory.wf d := by
  unfold Device.countVoid
  simp only
  split <;> rfl

/-- Clearing the errors of a site leaves the memories alone. -/
theorem Memory.wf_clearUpset (s : Site) (d : Device) : Memory.wf (d.clearUpset s) = Memory.wf d := by
  unfold Device.clearUpset
  split
  · rfl
  · exact Memory.wf_countVoid _ _

/-- A word written to array memory. -/
theorem Memory.wf_setWord (t w : Nat) (v : W64) (d : Device) (h : Memory.wf d = true) :
    Memory.wf (d.updTile t (Tile.setWord w v)) = true :=
  Memory.wf_updTile t _ d (fun _ hx => Map.wf_set w v hx) h

/-- A request entry written. -/
theorem Memory.wf_setReq (r : Nat) (e : ReqEntry) (d : Device) (h : Memory.wf d = true) : Memory.wf (d.setReq r e) = true := by
  have h1 : Memory.wf (d.updStarter fun s => { s with table := Map.set 0 s.table r e }) = true :=
    Memory.wf_updStarter _ d (fun _ hx => Map.wf_set r e hx) h
  simp only [Device.setReq, Device.forAll, List.foldl_cons, List.foldl_nil, Memory.wf_clearUpset, h1]

/-! ### Reads of clean memory -/

/-- A site without inverted bits reads clean. -/
theorem readSite_clean (d : Device) (s : Site) (h : d.flt.upsets = []) : d.readSite s = .clean := by
  unfold Device.readSite Device.upset
  rw [h]
  rfl

/-- A request entry without errors reads as it stands, and the read changes nothing. -/
theorem readReq_clean (d : Device) (r : Nat) (h : d.flt.upsets = []) : d.readReq r = (d.req r, d) := by
  simp [Device.readReq, readSite_clean d _ h]

/-- Bytes of a request table without errors, in ascending order of entries (R191). -/
theorem readReqtab_clean (d : Device) (o n : Nat) (h : d.flt.upsets = []) :
    d.readReqtab o n = ((((reqEntries o n).map fun r => leBytes 32 (d.req r).toNat).flatten.drop (o % 32)).take n, d) := by
  have key : ∀ (l : List Nat) (acc : List Byte),
      l.foldl (fun (acc : List Byte × Device) r =>
        let (e, d) := acc.2.readReq r
        (acc.1 ++ leBytes 32 e.toNat, d)) (acc, d) = (acc ++ (l.map fun r => leBytes 32 (d.req r).toNat).flatten, d) := by
    intro l
    induction l with
    | nil => simp
    | cons r t ih =>
      intro acc
      simp only [List.foldl_cons, readReq_clean d r h, ih, List.map_cons, List.flatten_cons, List.append_assoc]
  unfold Device.readReqtab
  rw [key]
  simp

end Sys2Proof.Machine
end

