-- ==== Sys2Proof/Tests/States.lean ====
section
/-! SUPPORT. Small states for the tests and the witnesses: the state after reset with a few fields changed. -/

namespace Sys2Proof.Machine

/-- The state after reset with its device changed. -/
def dv (f : Device → Device) : State := { dev := f Device.reset }

/-- A device of whose fuse row the lowest `n` steps are burnt. -/
def atStep (n : Nat) (d : Device) : Device := { d with fuses := { d.fuses with row := BitVec.ofNat 32 (4 ^ n - 1) } }

/-- The firmware runs and the pace clocks have started. -/
def up (d : Device) : Device :=
  { d with sec := { d.sec with bootStatus := 2 }, clk := { d.clk with gun := .fired }, tr := { d.tr with myId := 5 } }

/-- A pair with its first part is that part and the rest. -/
theorem pair_eq {α β : Type} {x : α × β} {a : α} (h : x.1 = a) : x = (a, x.2) := by cases x; cases h; rfl

/-- An error whose value passes a test. -/
theorem error_of {ε α : Type} {x : Except ε α} (f : ε → Bool) (h : (match x with | .error e => f e | .ok _ => false) = true) :
    ∃ e, x = .error e ∧ f e = true := by
  cases x with
  | error e => exact ⟨e, rfl, h⟩
  | ok a => cases h

/-- A result that is no error. -/
theorem ok_of {ε α : Type} {x : Except ε α} (h : (match x with | .error _ => false | .ok _ => true) = true) : ∃ a, x = .ok a := by
  cases x with
  | error e => cases h
  | ok a => exact ⟨a, rfl⟩

/-- Partition 0 holds region 0 and DRAM group 0 under key 1, and its channel 0 is filled. -/
def assigned (d : Device) : Device :=
  (d.updPart 0 fun x => { x with regions := 1, groups := 1, key := some 1 }).updChan 0 fun x =>
    { x with state := .available, filled := some 1 }

/-- Line 0 of channel 0 cannot be corrected. -/
def spoilt (d : Device) : Device :=
  (assigned d).updFlt fun f => { f with upsets := [{ site := .dram 0 0, mask := List.replicate 8 (1 + 2 ^ 20 + 2 ^ 45), outer := List.replicate 8 0 }] }

/-- Partition 0 has an image that uses tile 0 and its pacer. -/
def imaged (im : Image) (d : Device) : Device :=
  ((assigned d).updPart 0 fun x => { x with image := some { im with tiles := [(0, 0)], pacers := [(0, 0)] } }).updTile 0 fun t =>
    { t with owner := 1 }

def inPhase (p : RunPhase) (d : Device) : Device := d.updRun 0 fun r => { r with phase := p }

/-- Pacer `p` belongs to partition 0, which runs, and its next stride is due now. -/
def issuing (p op opnd : Nat) (lw : Nat := 0) (cfg : Cfg := 0) (im : Image := {}) (d : Device := Device.reset) : Device :=
  let d := (assigned d).updPart 0 fun x =>
    { x with image := some { im with pacers := [(p, p)] }, run := { x.run with phase := .running } }
  (d.setOwner p 1).updPacer p fun x => { x with state := .running, table := [(0, Stride.mk' 0 op 0 opnd lw)], activeCfg := cfg }

/-- A flit waits at the unit of pacer `p`. -/
def withFlit (p : Nat) (x : BitVec 1024) (d : Device) : Device := { d with net := { d.net with ingress := [(ingressKey p, [x])] } }

/-- The operand, the configuration and the device of an issue. -/
def gotO (d : Device) (p op n : Nat) (ok : Nat → Bool) : Nat := ((d.fetch p op n ok).getD (0, 0, d)).1
def gotC (d : Device) (p op n : Nat) (ok : Nat → Bool) : Cfg := ((d.fetch p op n ok).getD (0, 0, d)).2.1
def gotD (d : Device) (p op n : Nat) (ok : Nat → Bool) : Device := ((d.fetch p op n ok).getD (0, 0, d)).2.2

theorem issued {d : Device} {p op n : Nat} {ok : Nat → Bool} (h : (d.fetch p op n ok).isSome = true) :
    Issues d p op n ok (gotO d p op n ok) (gotC d p op n ok) (gotD d p op n ok) := by
  unfold Issues gotO gotC gotD
  cases hx : d.fetch p op n ok with
  | none => rw [hx] at h; cases h
  | some x => rfl

theorem tileIssued {d : Device} {p op n : Nat} {ok : Nat → Bool} (hp : p < 208) (h : (d.fetch p op n ok).isSome = true) :
    TileIssues d p op n ok (gotO d p op n ok) (gotC d p op n ok) ((gotD d p op n ok).now p)
      ((gotD d p op n ok).settleTile p ((gotD d p op n ok).now p)) :=
  ⟨hp, gotD d p op n ok, issued h, rfl, rfl⟩

/-- With nothing under way every register is free. -/
theorem registerFree_of {d : Device} {t due port r : Nat} (h : (d.tile t).pend = []) : RegisterFree d t due port r := by
  unfold RegisterFree
  rw [h]
  intro q hq
  cases hq

end Sys2Proof.Machine
end

