-- ==== Sys2Proof/Tests/Slice0.lean ====
section
/-! SUPPORT. Smoke tests of the well-formedness check, and small tests whose expected values are the spec's own worked
examples and tables (named in each docstring). -/

namespace Sys2Proof.Machine

set_option Elab.async false

/-! ### Well-formed commands: each check refuses an ill-formed term and accepts the largest value it admits -/

theorem test_wf_rail : Instr.wf (.sagReset 5) = false ∧ Instr.wf (.sagWarn 3 0 0 0) = false ∧ Instr.wf (.sagWarnNRelease 3) = false ∧
    Instr.wf (.sagReset 4) = true := by decide
theorem test_wf_millivolts : Instr.wf (.sagWarn 0 65536 0 0) = false ∧ Instr.wf (.sagWarn 0 0 65536 0) = false ∧
    Instr.wf (.sagWarn 0 0 0 65536) = false ∧ Instr.wf (.sagWarn 2 65535 65535 65535) = true := by decide
theorem test_wf_sensor : Instr.wf (.thermalTrip 32) = false ∧ Instr.wf (.thermalTrip 31) = true := by decide
theorem test_wf_svn : Instr.wf (.svnReq 128 true) = false ∧ Instr.wf (.svnReq 127 true) = true := by decide
theorem test_wf_host : Instr.wf (.hostScopeWrite 23 0 true) = false ∧ Instr.wf (.hostScopeWrite 26 0 true) = false ∧
    Instr.wf (.hostScopeWrite 25 0 true) = true ∧ Instr.wf (.opLapWrite (.host 23) 0) = false ∧
    Instr.wf (.opLapWrite .marshal 0) = true := by decide
theorem test_wf_partition : Instr.wf (.startGo 8) = false ∧ Instr.wf (.partReset 8 true) = false ∧ Instr.wf (.ccClr 8) = false ∧
    Instr.wf (.retestDone 8 true) = false ∧ Instr.wf (.startGo 7) = true := by decide
theorem test_wf_ungate : Instr.wf (.regionUngate 32) = false ∧ Instr.wf (.regionUngate 31) = true := by decide
theorem test_wf_pacer : (([208, 255, 280, 319, 344, 383, 410].all fun p => !Instr.wf (.nop p)) &&
    ([0, 207, 256, 279, 320, 343, 384, 409].all fun p => Instr.wf (.nop p))) = true := by decide
theorem test_wf_issue_number : Instr.wf (.rdb 0 4096) = false ∧ Instr.wf (.psend 208 0) = false ∧ Instr.wf (.rdb 0 4095) = true := by decide
theorem test_wf_channel : Instr.wf (.scrub 24) = false ∧ Instr.wf (.unplannedAccess 24 (.read 0) 0) = false ∧
    Instr.wf (.unplannedAccess 0 (.read (2 ^ 39)) 0) = false ∧ Instr.wf (.unplannedAccess 0 (.write (2 ^ 39) 0) 0) = false ∧
    Instr.wf (.unplannedAccess 23 (.read (2 ^ 39 - 1)) 0) = true := by decide
theorem test_wf_bring_up : Instr.wf (.channelBringUp (List.replicate 23 {})) = false ∧
    Instr.wf (.channelBringUp (List.replicate 24 {})) = true := by decide
theorem test_wf_port : Instr.wf (.kaSend 26) = false ∧ Instr.wf (.plannedPutComplete 31 {}) = false ∧ Instr.wf (.kaSend 25) = true := by decide
theorem test_wf_way : Instr.wf (.put 26 {}) = false ∧ Instr.wf (.put 30 {}) = false ∧ Instr.wf (.put 31 {}) = true := by decide
theorem test_wf_unit : (([{ dstPart := 8 }, { srcPart := 8 }, { addr := 2 ^ 48 }, { raddr := 2 ^ 48 }, { dstCc := 64 }, { ackCc := 64 },
    { wslot := 64 }, { status := 256 }] : List XUnit).all fun u => !Instr.wf (.put 0 u)) = true := by decide
theorem test_wf_node : Instr.wf (.flitDelivery 576) = false ∧ Instr.wf (.flitDelivery 575) = true := by decide
theorem test_wf_relay : Instr.wf (.relaySlip 1023 true) = false ∧ Instr.wf (.relaySlip 2176 true) = false ∧
    Instr.wf (.relaySlip 2175 true) = true := by decide
theorem test_wf_region : Instr.wf (.droopDetect 31) = false ∧ Instr.wf (.idlePathLock 31) = false ∧ Instr.wf (.droopDetect 30) = true := by decide
theorem test_wf_samples : Instr.wf (.powerSample 0 (List.replicate 9 0)) = false ∧ Instr.wf (.thermalSample (List.replicate 31 0)) = false ∧
    Instr.wf (.thermalSample (List.replicate 32 0)) = true := by decide
theorem test_wf_stream : Instr.wf (.rateRecover 16384) = false ∧ Instr.wf (.streamEntryExpiry true 16384) = false ∧
    Instr.wf (.rateRecover 16383) = true := by decide
theorem test_wf_request_entry : Instr.wf (.reqtabWordWrite 0 24 1048576 0 0) = false ∧ Instr.wf (.reqtabWordWrite 0 24 0 4 0) = false ∧
    Instr.wf (.reqtabWordWrite 0 26 0 0 0) = false ∧ Instr.wf (.reqtabWordWrite 0 24 1048575 3 0) = true := by decide
theorem test_wf_frame : Instr.wf (.frameReceive 0 {} [544] [] []) = false ∧ Instr.wf (.frameReceive 0 {} [] [7, 7] []) = false ∧
    Instr.wf (.frameReceive 0 {} [] [] [5]) = false ∧
    Instr.wf (.frameReceive 0 { crSel := 4 } [] [] []) = false ∧
    Instr.wf (.frameReceive 0 { slots := List.replicate 6 .idle } [] [] []) = false ∧
    Instr.wf (.frameReceive 0 { slots := List.replicate 5 .idle } [0] [543] [4, 4]) = true := by decide
theorem test_wf_training : Instr.wf (.equalizeDone 0 0 0 (List.replicate 6 0)) = false ∧
    Instr.wf (.equalizeDone 0 0 0 (List.replicate 5 0)) = true ∧
    Instr.wf (.retrainEqualizeEnd 0 (Adapted.mk 0 0 (List.replicate 6 0))) = false := by decide
theorem test_wf_marker : Instr.wf (.alignmentMarker 0 5 {}) = false ∧ Instr.wf (.alignmentMarker 0 0 { llane := 8 }) = false ∧
    Instr.wf (.alignmentMarker 0 0 { width := 8 }) = false ∧ Instr.wf (.alignmentMarker 0 4 {}) = true := by decide
theorem test_wf_control : Instr.wf (.chgReq 0 (.chgReq 0 4 0 0 0 0)) = false ∧ Instr.wf (.chgReq 0 (.chgReq 0 0 0 8 0 0)) = false ∧
    Instr.wf (.chgReq 0 (.chgReq 0 0 0 0 0 16)) = false ∧ Instr.wf (.chgRefuse 0 (.chgRefuse 0 256)) = false ∧
    Instr.wf (.chgAbort 0 (.chgAbort 0 0 16)) = false ∧ Instr.wf (.chgReq 0 (.chgReq 0 3 0 7 0 15)) = true := by decide
theorem test_wf_tile : Instr.wf (.tileResetReq 208) = false ∧ Instr.wf (.tileResetReq 207) = true := by decide
theorem test_wf_page : (([9, 0x19, 0x29, 0x37, 0x5F, 0x98, 0xB8, 0xDA, 0x400 + 208, 0x10D0].all fun n => !Instr.wf (.cntClr n)) &&
    ([8, 0x18, 0x28, 0x36, 0x5E, 0x97, 0xB7, 0xD9, 0x400 + 409, 0x10CF].all fun n => Instr.wf (.cntClr n))) = true := by decide
theorem test_wf_register_write : Instr.wf (.registerWrite (.host 23) 0x0F0000000000 0) = false ∧
    Instr.wf (.registerWrite .jtag 0x0EFFFFFFFFFC 0) = false ∧ Instr.wf (.registerWrite .jtag 0x0F0010000000 0) = false ∧
    Instr.wf (.registerWrite .jtag 0x0F0000000002 0) = false ∧ Instr.wf (.registerWrite (.host 24) 0x0F000FFFFFFC 0) = true := by decide
theorem test_wf_drill : Instr.wf (.eccSingle 65536) = false ∧ Instr.wf (.linkAck 65536 true) = false ∧ Instr.wf (.kaHold 65535) = true := by decide

/-! ### Numbers (chapter 2's worked examples) -/

/-- 2^24 + 1 is a tie that RNE rounds to the even 2^24; 2^24 + 2 is exact (the Tamsin-9 table). -/
theorem test_fp32_tie : fpAdd 0x4B800000 0x3F800000 = 0x4B800000 ∧ fpAdd 0x4B800000 0x40000000 = 0x4B800001 := by decide +kernel

/-- The Ostrelle-T table: block pair 1, d = -4, adds 3 × 2^27 counts with no flag. -/
theorem test_block_pair_1 : (Acc.contribute (-4) { b := 3 * 2 ^ 31 } {}).a = 402653184 ∧
    (Acc.contribute (-4) { b := 3 * 2 ^ 31 } {}).loss = false := by decide +kernel

/-- Block pair 2, d = -251, adds 0 counts and sets the loss flag; for a block sum of -1.0 it adds -1. -/
theorem test_block_pair_2 : (Acc.contribute (-251) { b := 2 ^ 32 } {}).a = 0 ∧ (Acc.contribute (-251) { b := 2 ^ 32 } {}).loss = true ∧
    (Acc.contribute (-251) { b := -(2 ^ 32) } {}).a = -1 := by decide +kernel

/-- With the anchor at -220, pair 2 gives 2 counts (d = -31) and pair 1 clamps to 2^64 - 1 (d = 216). -/
theorem test_block_pair_anchor : (Acc.contribute (-31) { b := 2 ^ 32 } {}).a = 2 ∧ (Acc.contribute (-31) { b := 2 ^ 32 } {}).loss = false ∧
    (Acc.contribute 216 { b := 3 * 2 ^ 31 } {}).a = 2 ^ 64 - 1 ∧ (Acc.contribute 216 { b := 3 * 2 ^ 31 } {}).clamp = true := by decide +kernel

/-- A = 402,653,184 reads out as 0.09375, and so does 402,653,183, which FP32 rounds back. -/
theorem test_readout : ({ a := 402653184 } : Acc).toFp 0 = 0x3DC00000 ∧ ({ a := 402653183 } : Acc).toFp 0 = 0x3DC00000 := by decide +kernel

/-! ### Addresses (chapters 3, 6 and 19) -/

/-- Region E2 position 4 is tile 126; local address 0x0D00_3F1A_B4C0 is its offset 0x1A_B4C0, in bank 3. -/
theorem test_tile_address : tileAt 14 4 = 126 ∧ Device.reset.place 0x0D003F1AB4C0 = .tile 126 0x1AB4C0 ∧
    lineBank (0x1AB4C0 / 64) = 3 ∧ lineHole (0x1AB4C0 / 64) = false := by decide +kernel

/-- 0x06A1_2345_6780 lies in channel 13 at offset 0x21_2345_6780, with 256 GB modules. -/
theorem test_dram_address : (Device.reset.updChan 13 fun x => { x with cap := 2 }).place 0x06A123456780 = .dram 13 0x2123456780 := by
  decide +kernel

/-- The tile at E5 position 3 is tile 152, and its spare at position 8 is tile 157 (chapter 14). -/
theorem test_spare_index : tileAt 17 3 = 152 ∧ tileAt 17 8 = 157 ∧ tileRegion 157 = 17 := by decide +kernel

/-- PCID 0x6029 is partition 3 in generation 41 (chapter 14). -/
theorem test_pcid : (Device.reset.updPart 3 fun x => { x with gen := 41 }).pcid 3 = 0x6029 ∧ pcidPart 0x6029 = 3 := by decide +kernel

/-! ### Attention (chapter 5's worked example, element 0) -/

/-- The rescale factor and the two updates of page 2: exp2(-2) = 0.25, 1.5 × 0.25 + 1.25 = 1.625, 6 × 0.25 + 2.5 = 4. -/
theorem test_attention_updates : sfuExp2 0xC0000000 = 0x3E800000 ∧ sfuExp2 0xFF800000 = 0 ∧
    fpFma 0x3FC00000 0x3E800000 0x3FA00000 = 0x3FD00000 ∧ fpFma 0x40C00000 0x3E800000 0x40200000 = 0x40800000 := by decide +kernel

/-! ### Register pages (chapter 18's worked example) -/

/-- PG_ID of port F4's page, slot 0xC4, reads 0x0000_040E and PG_VER 0x0001_0100. -/
theorem test_port_page : pgPort 4 = 0xC4 ∧ Device.reset.reg 0xC4 0 = 0x040E ∧ Device.reset.reg 0xC4 4 = 0x00010100 := by decide +kernel

/-- A write of 8 to INT_RAW in the cycle in which the port sets bit 3 leaves it set. -/
theorem test_int_raw_w1c : ((Device.reset.updPage 0xC4 fun h => { h with intRaw := 8 }).opIntW1c 0xC4 8 8).reg 0xC4 0x14 = 8 ∧
    ((Device.reset.updPage 0xC4 fun h => { h with intRaw := 8 }).opIntW1c 0xC4 8 0).reg 0xC4 0x14 = 0 := by decide +kernel

/-- An abort at a pacer that is no commit pacer is refused with NOT_COMMIT: ERR_FIRST reads 0x0102 (chapter 19). -/
theorem test_not_commit : pgPacer 126 = 0x47E ∧ pageSlot 0x0F000047E0A8 = 0x47E ∧
    (Device.reset.writePacer 126 0xA8 1).reg 0x47E 0x28 = 0x0102 := by decide +kernel

/-! ### Commands through the step -/

/-- RATE_ADJ takes 8,589,934 and refuses 8,589,935 (R234). -/
theorem test_rate_limit : ((Device.reset.opRateAdj 8589934).tk.rateAdj, (Device.reset.opRateAdj 8589935).tk.rateAdj) = (8589934, 0) := by
  decide +kernel

/-- The SHA3-512 digest of the empty message (FIPS 202), as a little-endian number. -/
theorem test_sha3_empty : sha3_512 [] =
    0x26cd1d2886857501e3d3b6959d1900f558c53a2c40e9e3114cf9f5f13a12b215a6805c47c1dcd1e05958e24f1682c9976e755a18dc67b5c8c59a3aa2cc739fa6#512 := by
  decide +kernel

/-- The AES-256 example of FIPS 197, appendix C.3: key 00 to 1F, block 00 11 22 to FF, encrypted and decrypted again. -/
theorem test_aes256 :
    aesEncrypt (aesKeys (List.range 32)) ((List.range 16).map (· * 17)) =
      [0x8e, 0xa2, 0xb7, 0xca, 0x51, 0x67, 0x45, 0xbf, 0xea, 0xfc, 0x49, 0x90, 0x4b, 0x49, 0x60, 0x89] ∧
    aesDecrypt (aesKeys (List.range 32)) [0x8e, 0xa2, 0xb7, 0xca, 0x51, 0x67, 0x45, 0xbf, 0xea, 0xfc, 0x49, 0x90, 0x4b, 0x49, 0x60, 0x89] =
      (List.range 16).map (· * 17) := by decide +kernel

/-- The command at the front of the queue runs and leaves the rest waiting. -/
theorem test_step_takes_front :
    (match step { State.reset with pending := [.sidebandSerial true, .refLoss] } with
     | .next t => t.pending
     | _ => []) = [.refLoss] := by decide +kernel

end Sys2Proof.Machine
end

