-- ==== Sys2Proof/Tests/Witness1.lean ====
section
/-! SUPPORT. The statements on the block, resets, time and security speak of states that there are: for each clause a state and operands that meet its hypotheses. -/

open Sys2Proof Sys2Proof.Machine

set_option Elab.async false

theorem witness_StepRunsFrontCommand :
    (∃ (s : State) (c : Instr) (rest : List Instr), s.pending = c :: rest) :=
  ⟨{ State.reset with pending := [.aonPowerUp] }, .aonPowerUp, [], rfl⟩

theorem witness_IdleStepGrowsTime :
    (∃ (s : State), s.pending = [] ∧ s.dev.clk.gun ≠ Gun.fired) :=
  ⟨State.reset, by decide +kernel⟩

theorem witness_IdleStepCountsCycles :
    (∃ (s : State), s.pending = [] ∧ s.dev.clk.gun = Gun.fired ∧ s.dev.pacers = [] ∧ s.dev.bmes = [] ∧ s.dev.chans = [] ∧ s.dev.parts = [] ∧ s.dev.clk.regions = [] ∧ s.dev.pwr.govLevel = 0 ∧ s.dev.clk.lapCyc < 65535 ∧ s.dev.clk.lapCyc ≠ 65503) :=
  ⟨dv fun d => { d with clk := { d.clk with gun := .fired, lapCyc := 65534 } }, by decide +kernel⟩

theorem witness_MemoryStaysCanonical :
    (∃ (s : State) (t : State), SafeState s ∧ step s = Host.Outcome.next t) :=
  ⟨State.reset, (dv fun d => { d with clk := { d.clk with now := 1 }, tk := { d.tk with time := 10 } }), ⟨by unfold SafeState; decide +kernel, by rfl⟩⟩

theorem witness_BurntFusesStayBurnt :
    (∃ (s : State) (t : State), step s = Host.Outcome.next t) :=
  ⟨State.reset, (dv fun d => { d with clk := { d.clk with now := 1 }, tk := { d.tk with time := 10 } }), by rfl⟩

theorem witness_DeviceResetAndRelease :
    (∃ (s : State), s.dev.flt.crashBusy = none) ∧
    (∃ (s : State), s.dev.flt.crashBusy ≠ none) ∧
    (∃ (s : State) (ns : Nat), s.dev.flt.inReset = false ∧ 10000 ≤ ns) ∧
    (∃ (s : State) (ns : Nat), s.dev.flt.inReset = false ∧ 10000 ≤ ns ∧ s.dev.flt.crashBusy = none) ∧
    (∃ (s : State) (ns : Nat), (ns < 100 ∨ s.dev.flt.inReset = true)) ∧
    (∃ (s : State), s.dev.flt.inReset = true) ∧
    (∃ (s : State), s.dev.flt.inReset = false) :=
  ⟨⟨State.reset, by decide +kernel⟩,
   ⟨dv fun d => { d with flt := { d.flt with crashBusy := some {} } }, by decide +kernel⟩,
   ⟨State.reset, 10000, by decide +kernel⟩,
   ⟨State.reset, 10000, by decide +kernel⟩,
   ⟨State.reset, 99, by decide +kernel⟩,
   ⟨dv (fun d => { d with flt := { d.flt with inReset := true } }), by decide +kernel⟩,
   ⟨State.reset, by decide +kernel⟩⟩

theorem witness_AlwaysOnRailEdges :
    (∃ (c : Instr), (c = Instr.aonPowerUp ∨ c = Instr.aonRailLoss)) :=
  ⟨.aonRailLoss, by decide +kernel⟩

theorem witness_StartingGunFires :
    (∃ (s : State), (s.dev.clk.gun = Gun.lockWait ∨ s.dev.clk.gun = Gun.relock)) ∧
    (∃ (s : State), s.dev.clk.gun = Gun.armed) ∧
    (∃ (s : State), s.dev.clk.gun ≠ Gun.armed) :=
  ⟨⟨State.reset, by decide +kernel⟩,
   ⟨dv fun d => { d with clk := { d.clk with gun := .armed } }, by decide +kernel⟩,
   ⟨State.reset, by decide +kernel⟩⟩

theorem witness_SagTripAndWatchdog :
    (∃ (s : State) (r : Nat), isRail r = true ∧ s.dev.flt.sagEpisode = false) ∧
    (∃ (s : State) (r : Nat), isRail r = true ∧ s.dev.flt.sagEpisode = true) ∧
    (∃ (r : Nat), isSupply r = true) ∧
    (∃ (n : Nat), n < 32) ∧
    (∃ (s : State), s.dev.flt.crashBusy = none) ∧
    (∃ (s : State) (r : Nat), isRail r = true ∧ s.dev.flt.sagAt + 1600 ≤ s.dev.clk.now) ∧
    (∃ (s : State), s.dev.clk.now < s.dev.flt.sagAt + 1600) ∧
    (∃ (s : State), s.dev.flt.sagPin = false ∧ s.dev.flt.sagAt + 1600000 ≤ s.dev.clk.now) ∧
    (∃ (s : State), (s.dev.flt.sagPin = true ∨ s.dev.clk.now < s.dev.flt.sagAt + 1600000)) ∧
    (∃ (s : State) (c : CrashRec), s.dev.flt.crashBusy = some c ∧ s.dev.flt.resetDeferred = false) :=
  ⟨⟨State.reset, 2, by decide +kernel⟩,
   ⟨dv (fun d => { d with flt := { d.flt with sagEpisode := true } }), 0, by decide +kernel⟩,
   ⟨4, by decide +kernel⟩,
   ⟨31, by decide +kernel⟩,
   ⟨State.reset, by decide +kernel⟩,
   ⟨dv (fun d => d.updClk fun c => { c with now := 1600 }), 2, by decide +kernel⟩,
   ⟨State.reset, by decide +kernel⟩,
   ⟨dv (fun d => d.updClk fun c => { c with now := 1600000 }), by decide +kernel⟩,
   ⟨State.reset, by decide +kernel⟩,
   ⟨dv (fun d => { d with flt := { d.flt with crashBusy := some { valid := true } } }), { valid := true }, by decide +kernel⟩⟩

theorem witness_TimeSetOnlyWhenQuiet :
    (∃ (s : State), (∀ (e : Nat × Pacer), e ∈ s.dev.pacers → ¬e.snd.state ∈ [PState.running, PState.waiting, PState.hold, PState.sleep, PState.draining])) ∧
    (∃ (s : State), (∃ e, e ∈ s.dev.pacers ∧ e.snd.state ∈ [PState.running, PState.waiting, PState.hold, PState.sleep, PState.draining])) :=
  ⟨⟨State.reset, by decide +kernel⟩,
   ⟨dv (fun d => d.updPacer 0 fun x => { x with state := .running }), by decide +kernel⟩⟩

theorem witness_RateAndTimePins :
    (∃ (v : W32), (BitVec.toInt v).natAbs ≤ 8589934) ∧
    (∃ (v : W32), 8589934 < (BitVec.toInt v).natAbs) ∧
    (∃ (s : State), (s.dev.tk.tinDisc = false ∨ s.dev.tk.parent ≠ 31)) ∧
    (∃ (s : State), s.dev.tk.tinDisc = true ∧ s.dev.tk.parent = 31) ∧
    (∃ (s : State) (k : Nat), 3200 ≤ BitVec.toNat s.dev.tk.toutPeriod ∧ BitVec.toNat s.dev.tk.outDone < BitVec.toNat s.dev.tk.toutPhase + k * BitVec.toNat s.dev.tk.toutPeriod ∧ BitVec.toNat s.dev.tk.toutPhase + k * BitVec.toNat s.dev.tk.toutPeriod ≤ BitVec.toNat s.dev.tk.time ∧ BitVec.toNat s.dev.tk.time < BitVec.toNat s.dev.tk.toutPhase + (k + 1) * BitVec.toNat s.dev.tk.toutPeriod ∧ (k = 0 ∨ BitVec.toNat s.dev.tk.toutPhase + (k - 1) * BitVec.toNat s.dev.tk.toutPeriod ≤ BitVec.toNat s.dev.tk.outDone)) ∧
    (∃ (s : State), (BitVec.toNat s.dev.tk.toutPeriod < 3200 ∨ BitVec.toNat s.dev.tk.time < BitVec.toNat s.dev.tk.toutPhase ∨ BitVec.toNat s.dev.tk.time ≤ BitVec.toNat s.dev.tk.outDone)) :=
  ⟨⟨8589934, by decide +kernel⟩,
   ⟨8589935, by decide +kernel⟩,
   ⟨State.reset, by decide +kernel⟩,
   ⟨dv fun d => { d with tk := { d.tk with tinDisc := true } }, by decide +kernel⟩,
   ⟨dv (fun d => { d with tk := { d.tk with toutPeriod := 3200, time := 3200 } }), 1, by decide +kernel⟩,
   ⟨State.reset, by decide +kernel⟩⟩

theorem witness_TimeRequestAndAnswer :
    (∃ (s : State), s.dev.tk.onAlt = false ∧ s.dev.tk.parent ≠ 31 ∧ (s.dev.port s.dev.tk.parent).active = true ∧ s.dev.tk.lastExch + s.dev.tk.period ≤ s.dev.clk.now ∧ s.dev.tk.exchs.length < 16) ∧
    (∃ (s : State) (i : Nat) (u : XUnit) (x : W32), isPort i = true ∧ (s.dev.port i).active = true ∧ u.kind = UKind.cell ∧ u.loc = true ∧ u.body = Cell.timeReq x ∧ s.dev.flt.upsets = [] ∧ s.dev.stale u = false ∧ u.mir = false) ∧
    (∃ (s : State) (i : Nat) (u : XUnit) (x : W32) (d1 : Device), isPort i = true ∧ (s.dev.port i).active = true ∧ u.kind = UKind.cell ∧ u.loc = true ∧ s.dev.flt.upsets = [] ∧ s.dev.stale u = true ∧ d1 = Device.takeRx i u s.dev ∧ u.body = Cell.timeReq x) ∧
    (∃ (s : State) (i : Nat) (u : XUnit) (x : W32) (t2 : W64) (t3 : W64) (d1 : Device), isPort i = true ∧ (s.dev.port i).active = true ∧ u.kind = UKind.cell ∧ u.loc = true ∧ s.dev.flt.upsets = [] ∧ s.dev.stale u = true ∧ d1 = Device.takeRx i u s.dev ∧ u.body = Cell.timeRsp x t2 t3) :=
  ⟨⟨dv fun d => { d.updLink 3 (fun l => { l with state := .active }) with tk := { d.tk with parent := 3 }, clk := { d.clk with now := 100000000 } }, by decide +kernel⟩,
   ⟨dv (fun d => d.updLink 3 fun l => { l with state := .active }), 3, { kind := .cell, loc := true, body := .timeReq 7 }, 7, by decide +kernel⟩,
   ⟨dv (fun d => { d.updLink 3 (fun l => { l with state := .active }) with tk := { d.tk with time := 0x7F00000000 } }), 3, { kind := .cell, loc := true, body := .timeReq 7 }, 7, _, ⟨by decide, by decide +kernel, rfl, rfl, by decide +kernel, by decide +kernel, rfl, rfl⟩⟩,
   ⟨dv (fun d => { d.updLink 3 (fun l => { l with state := .active }) with tk := { d.tk with time := 0x7F00000000 } }), 3, { kind := .cell, loc := true, body := .timeRsp 7 0 0 }, 7, 0, 0, _, ⟨by decide, by decide +kernel, rfl, rfl, by decide +kernel, by decide +kernel, rfl, rfl⟩⟩⟩

theorem witness_TimeResponseSteers :
    (∃ (s : State) (i : Nat) (u : XUnit) (x : W32) (t2 : W64) (t3 : W64) (ex : Exchange), isPort i = true ∧ (s.dev.port i).active = true ∧ u.kind = UKind.cell ∧ u.loc = true ∧ u.body = Cell.timeRsp x t2 t3 ∧ i = s.dev.tk.source ∧ s.dev.tk.exchs = [ex] ∧ ex.xid = x ∧ ex.port = i ∧ ex.replayed = false ∧ ex.missed = false ∧ s.dev.stale u = false ∧ u.mir = false ∧ s.dev.clk.now ≤ ex.sentNow + 2 * s.dev.tk.period ∧ s.dev.flt.upsets = []) :=
  ⟨dv (fun d => { d.updLink 3 (fun l => { l with state := .active }) with tk := { d.tk with parent := 3, exchs := [{ xid := 7, port := 3, t1 := 100 }] } }), 3, { kind := .cell, loc := true, body := .timeRsp 7 150 160 }, 7, 150, 160, { xid := 7, port := 3, t1 := 100 }, by decide +kernel⟩

theorem witness_UnansweredExchangeIsVoid :
    (∃ (s : State) (ex : Exchange) (before : List Exchange) (rest : List Exchange), s.dev.tk.exchs = before ++ ex :: rest ∧ (∀ (y : Exchange), y ∈ before → y.missed = true ∨ s.dev.clk.now ≤ y.sentNow + 2 * s.dev.tk.period) ∧ ex.missed = false ∧ ex.sentNow + 2 * s.dev.tk.period < s.dev.clk.now) ∧
    (∃ (s : State), (∀ (y : Exchange), y ∈ s.dev.tk.exchs → y.missed = true ∨ s.dev.clk.now ≤ y.sentNow + 2 * s.dev.tk.period)) ∧
    (∃ (s : State) (i : Nat) (u : XUnit) (x : W32) (t2 : W64) (t3 : W64) (ex : Exchange) (d1 : Device), isPort i = true ∧ (s.dev.port i).active = true ∧ u.kind = UKind.cell ∧ u.loc = true ∧ u.body = Cell.timeRsp x t2 t3 ∧ s.dev.tk.exchs = [ex] ∧ ex.xid = x ∧ ex.port = i ∧ ex.missed = true ∧ s.dev.stale u = false ∧ u.mir = false ∧ s.dev.flt.upsets = [] ∧ d1 = Device.takeRx i u s.dev) :=
  ⟨⟨dv (fun d => { d with tk := { d.tk with parent := 3, exchs := [{ xid := 6, port := 3, missed := true }, { xid := 7, port := 3 }] }, clk := { d.clk with now := 10000000 } }), { xid := 7, port := 3 }, [{ xid := 6, port := 3, missed := true }], [], by decide +kernel⟩,
   ⟨dv (fun d => { d with tk := { d.tk with exchs := [{ xid := 7, port := 3 }] } }), by decide +kernel⟩,
   ⟨dv (fun d => { d.updLink 3 (fun l => { l with state := .active }) with tk := { d.tk with parent := 3, exchs := [{ xid := 7, port := 3, missed := true }] } }), 3, { kind := .cell, loc := true, body := .timeRsp 7 150 160 }, 7, 150, 160, { xid := 7, port := 3, missed := true }, _, by
    refine ⟨by decide, ?_⟩
    repeat refine And.intro (by decide +kernel) ?_
    rfl⟩⟩

theorem witness_ReferenceLoss :
    (∃ (s : State), s.dev.tk.refLoss = false) ∧
    (∃ (s : State), s.dev.tk.refLoss = true) :=
  ⟨⟨State.reset, by decide +kernel⟩,
   ⟨dv fun d => { d with tk := { d.tk with refLoss := true } }, by decide +kernel⟩⟩

theorem witness_BootRomVerifiesThenRuns :
    (∃ (s : State), s.dev.clk.gun ≠ Gun.fired) ∧
    (∃ (s : State), s.dev.clk.gun = Gun.fired ∧ s.dev.sec.bootStatus ≠ 1 ∧ s.dev.sec.bootStatus ≠ 2) ∧
    (∃ (s : State), s.dev.clk.gun = Gun.fired ∧ (s.dev.sec.bootStatus = 1 ∨ s.dev.sec.bootStatus = 2)) ∧
    (∃ (s : State) (c : Nat), s.dev.clk.gun = Gun.fired ∧ s.dev.sec.bootStatus = 1 ∧ s.dev.sec.entropyOk = true ∧ s.dev.fwCheck = some c) ∧
    (∃ (s : State), s.dev.sec.bootStatus = 1 ∧ s.dev.sec.entropyOk = false) :=
  ⟨⟨State.reset, by decide +kernel⟩,
   ⟨dv (fun d => d.updClk fun c => { c with gun := .fired }), by decide +kernel⟩,
   ⟨dv up, by decide +kernel⟩,
   ⟨dv (fun d => { up d with sec := { d.sec with bootStatus := 1 } }), 16, by decide +kernel⟩,
   ⟨dv fun d => { d with sec := { d.sec with bootStatus := 1, entropyOk := false } }, by decide +kernel⟩⟩

theorem witness_BootChecksInOrder :
    (∃ (d : Device), (d.fwField 0 4 ≠ 1297565268 ∨ d.fwField 4 2 ≠ 1 ∨ d.fwBodyLen % 64 ≠ 0 ∨ 8388608 < d.fwBodyLen ∨ BitVec.toNat d.sec.fwLenGo ≠ 8192 + d.fwBodyLen)) ∧
    (∃ (d : Device), (d.fuses.lc = 0 ∨ d.fuses.lc = 5)) :=
  ⟨⟨Device.reset, by decide +kernel⟩,
   ⟨Device.reset, by decide +kernel⟩⟩

theorem witness_EntropySource :
    (∃ (s : State), s.dev.sec.keyWait = []) ∧
    (∃ (s : State) (k : Nat), s.dev.sec.keyWait = [KeyWait.partition k] ∧ (s.dev.part k).key = none) :=
  ⟨⟨State.reset, by decide +kernel⟩,
   ⟨dv (fun d => { d with sec := { d.sec with keyWait := [.partition 7] } }), 7, by decide +kernel⟩⟩

theorem witness_LifeCycleForward :
    (∃ (s : State), s.dev.fuses.lc = 0) ∧
    (∃ (s : State), s.dev.fuses.lc ≠ 0) ∧
    (∃ (s : State), LcFree s.dev ∧ s.dev.fuses.lc = 1 ∧ s.dev.sec.entropyOk = true) ∧
    (∃ (s : State), LcFree s.dev ∧ s.dev.fuses.lc ≠ 1) ∧
    (∃ (s : State), LcFree s.dev ∧ (s.dev.fuses.lc = 2 ∨ s.dev.fuses.lc = 4) ∧ s.dev.fuses.steps < 8) ∧
    (∃ (s : State), LcFree s.dev ∧ (s.dev.fuses.lc = 2 ∨ s.dev.fuses.lc = 4) ∧ 8 ≤ s.dev.fuses.steps) ∧
    (∃ (s : State), LcFree s.dev ∧ s.dev.fuses.lc ≠ 2 ∧ s.dev.fuses.lc ≠ 4) ∧
    (∃ (s : State) (c : Instr) (b : Bool) (h : BitVec 512) (g : BitVec 512), s.dev.lcBusy = true ∧ c ∈ [Instr.lcReqProvisioned h g b, Instr.lcReqDeployed b, Instr.lcReqReturned b, Instr.lcReqScrapped b, Instr.lcReqRevoke b]) :=
  ⟨⟨State.reset, by decide +kernel⟩,
   ⟨dv (atStep 1), by decide +kernel⟩,
   ⟨dv (atStep 1), by unfold LcFree; decide +kernel⟩,
   ⟨dv (atStep 3), by unfold LcFree; decide +kernel⟩,
   ⟨dv (atStep 6), by unfold LcFree; decide +kernel⟩,
   ⟨dv (atStep 8), by unfold LcFree; decide +kernel⟩,
   ⟨dv (atStep 1), by unfold LcFree; decide +kernel⟩,
   ⟨dv (fun d => { d with sec := { d.sec with bootStatus := 1 } }), .lcReqRevoke true, true, 0, 0, by decide +kernel⟩⟩

theorem witness_LifeCycleTokens :
    (∃ (s : State) (b : List Byte) (d2 : Device), LcFree s.dev ∧ s.dev.fuses.lc = 3 ∧ Device.tokenAt s.dev.sec.lcToken (lcAsked s.dev) = (b, d2) ∧ Device.lcTokenOk 1414680146 b d2 = false) ∧
    (∃ (s : State) (b : List Byte) (d2 : Device), LcFree s.dev ∧ s.dev.fuses.lc = 3 ∧ Device.tokenAt s.dev.sec.lcToken (lcAsked s.dev) = (b, d2) ∧ Device.lcTokenOk 1346458195 b d2 = false) ∧
    (∃ (s : State), LcFree s.dev ∧ s.dev.fuses.lc ≠ 3 ∧ s.dev.fuses.lc ≠ 5 ∧ s.dev.allReleased = true ∧ s.dev.flt.crashBusy = none) ∧
    (∃ (s : State), s.dev.fuses.lc ≠ 3 ∧ s.dev.fuses.lc ≠ 5 ∧ s.dev.sec.lcWait = none ∧ s.dev.allReleased = true ∧ s.dev.flt.crashBusy = none) ∧
    (∃ (s : State), s.dev.fuses.lc = 5) ∧
    (∃ (s : State), s.dev.sec.lcWait = some LcWait.returned ∧ s.dev.sec.lcFuseOk = true ∧ s.dev.allReleased = true) ∧
    (∃ (s : State), s.dev.allReleased = false) :=
  ⟨⟨dv (atStep 3), _, _, ⟨by unfold LcFree; decide +kernel, by decide +kernel, rfl, by decide +kernel⟩⟩,
   ⟨dv (atStep 3), _, _, ⟨by unfold LcFree; decide +kernel, by decide +kernel, rfl, by decide +kernel⟩⟩,
   ⟨dv (atStep 2), by unfold LcFree; decide +kernel⟩,
   ⟨dv (atStep 2), by decide +kernel⟩,
   ⟨dv (fun d => { d with fuses := { d.fuses with scrapPair := 1 } }), by decide +kernel⟩,
   ⟨dv fun d => { atStep 3 d with sec := { d.sec with lcWait := some .returned } }, by decide +kernel⟩,
   ⟨dv fun d => d.updPart 0 fun x => { x with regions := 1 }, by decide +kernel⟩⟩

theorem witness_SvnThermometer :
    (∃ (s : State) (n : Nat), LcFree s.dev ∧ s.dev.sec.bootStatus = 2 ∧ n ≤ s.dev.sec.fwSvn ∧ s.dev.fuses.fwSvn < n) ∧
    (∃ (s : State) (n : Nat), LcFree s.dev ∧ s.dev.sec.bootStatus = 2 ∧ n ≤ s.dev.sec.fwSvn ∧ n ≤ s.dev.fuses.fwSvn) ∧
    (∃ (s : State) (n : Nat), LcFree s.dev ∧ s.dev.sec.fwSvn < n) :=
  ⟨⟨dv (fun d => { d with sec := { d.sec with bootStatus := 2, fwSvn := 127 } }), 127, by unfold LcFree; decide +kernel⟩,
   ⟨dv (fun d => { d with sec := { d.sec with bootStatus := 2, fwSvn := 127 }, fuses := { d.fuses with svnBits := 31 } }), 5, by unfold LcFree; decide +kernel⟩,
   ⟨State.reset, 1, by unfold LcFree; decide +kernel⟩⟩

theorem witness_DebugUnlock :
    (∃ (s : State), s.dev.fuses.lc = 5) ∧
    (∃ (s : State) (t : List Byte), LcFree s.dev ∧ s.dev.fuses.lc ≠ 5 ∧ Device.tokenOk 1263288917 s.dev.sec.dbgNonce s.dev.fuses.debugHash t s.dev = false) :=
  ⟨⟨dv (fun d => { d with fuses := { d.fuses with scrapPair := 1 } }), by decide +kernel⟩,
   ⟨dv (atStep 3), [], by unfold LcFree; decide +kernel⟩⟩

theorem witness_AttestationAndHostScope :
    (∃ (s : State), s.dev.sec.attQueue.length < 4) ∧
    (∃ (s : State), 4 ≤ s.dev.sec.attQueue.length) ∧
    (∃ (s : State) (q : AttReq) (rest : List AttReq), s.dev.sec.bootStatus = 2 ∧ s.dev.mb.placing = none ∧ s.dev.sec.attQueue = q :: rest ∧ (s.dev.tr.myId = 65535 ∨ BitVec.toNat (q.dest + 4096) / 2 ^ 48 ≠ BitVec.toNat s.dev.tr.myId)) ∧
    (∃ (s : State) (q : AttReq) (rest : List AttReq), s.dev.sec.bootStatus = 2 ∧ s.dev.mb.placing = none ∧ s.dev.sec.attQueue = q :: rest ∧ s.dev.tr.myId ≠ 65535 ∧ BitVec.toNat (q.dest + 4096) / 2 ^ 48 = BitVec.toNat s.dev.tr.myId) ∧
    (∃ (s : State), (s.dev.sec.scopeH0.getLsbD 8 || s.dev.sec.scopeH1.getLsbD 8) = true) ∧
    (∃ (s : State), s.dev.sec.scopeH0.getLsbD 8 = false ∧ s.dev.sec.scopeH1.getLsbD 8 = false) :=
  ⟨⟨State.reset, by decide +kernel⟩,
   ⟨dv fun d => { d with sec := { d.sec with attQueue := [{}, {}, {}, {}] } }, by decide +kernel⟩,
   ⟨dv (fun d => { d with sec := { d.sec with bootStatus := 2, attQueue := [{}] } }), {}, [], by decide +kernel⟩,
   ⟨dv (fun d => { d with sec := { d.sec with bootStatus := 2, attQueue := [{ dest := 0x0005000000000000 }] }, tr := { d.tr with myId := 5 } }), { dest := 0x0005000000000000 }, [], by decide +kernel⟩,
   ⟨State.reset, by decide +kernel⟩,
   ⟨dv (fun d => { d with sec := { d.sec with scopeH0 := 1, scopeH1 := 0 } }), by decide +kernel⟩⟩

/-- A request for a test waits on a device in MANUFACTURE. -/
def tested (j : Nat) : State :=
  dv fun d => { atStep 1 d with st := { d.st with queue := [{ test := j }] }
                                clk := { d.clk with regions := (List.range 31).map fun g => (g, { locked := true }) } }

theorem witness_SelfTestOfAFreeDevice :
    (∃ (s : State) (c : StCond) (r : StReq) (rest : List StReq), s.dev.st.running = none ∧ s.dev.st.queue = r :: rest ∧ NothingAssigned s.dev ∧ TestPermitted r.test s.dev ∧ ConditionsMet r c s.dev ∧ r.test = 0) ∧
    (∃ (s : State) (c : StCond) (r : StReq) (rest : List StReq), s.dev.st.running = none ∧ s.dev.st.queue = r :: rest ∧ NothingAssigned s.dev ∧ TestPermitted r.test s.dev ∧ ConditionsMet r c s.dev ∧ r.test = 1 ∧ (s.dev.tile (BitVec.toNat r.target)).owner = 0) ∧
    (∃ (s : State) (c : StCond) (r : StReq) (rest : List StReq), s.dev.st.running = none ∧ s.dev.st.queue = r :: rest ∧ NothingAssigned s.dev ∧ TestPermitted r.test s.dev ∧ ConditionsMet r c s.dev ∧ r.test = 2 ∧ (s.dev.tile (BitVec.toNat r.target)).owner = 0) ∧
    (∃ (s : State) (c : StCond) (r : StReq) (rest : List StReq), s.dev.st.running = none ∧ s.dev.st.queue = r :: rest ∧ NothingAssigned s.dev ∧ TestPermitted r.test s.dev ∧ ConditionsMet r c s.dev ∧ r.test = 3) ∧
    (∃ (s : State) (c : StCond) (r : StReq) (rest : List StReq), s.dev.st.running = none ∧ s.dev.st.queue = r :: rest ∧ NothingAssigned s.dev ∧ TestPermitted r.test s.dev ∧ ConditionsMet r c s.dev ∧ r.test = 4) ∧
    (∃ (s : State) (c : StCond) (r : StReq) (rest : List StReq), s.dev.st.running = none ∧ s.dev.st.queue = r :: rest ∧ NothingAssigned s.dev ∧ TestPermitted r.test s.dev ∧ ConditionsMet r c s.dev ∧ r.test = 5 ∧ (s.dev.port (BitVec.toNat r.target)).link.state = LinkState.disabled) ∧
    (∃ (s : State) (c : StCond) (r : StReq) (rest : List StReq), s.dev.st.running = none ∧ s.dev.st.queue = r :: rest ∧ NothingAssigned s.dev ∧ TestPermitted r.test s.dev ∧ ConditionsMet r c s.dev ∧ r.test = 6 ∧ (s.dev.port (BitVec.toNat r.target % 256)).link.state = LinkState.disabled) ∧
    (∃ (s : State) (c : StCond) (r : StReq) (rest : List StReq), s.dev.st.running = none ∧ s.dev.st.queue = r :: rest ∧ NothingAssigned s.dev ∧ TestPermitted r.test s.dev ∧ ConditionsMet r c s.dev ∧ r.test = 7 ∧ (s.dev.port (BitVec.toNat r.target)).link.state = LinkState.disabled) ∧
    (∃ (s : State) (c : StCond) (r : StReq) (rest : List StReq), s.dev.st.running = none ∧ s.dev.st.queue = r :: rest ∧ NothingAssigned s.dev ∧ TestPermitted r.test s.dev ∧ ConditionsMet r c s.dev ∧ r.test = 8) ∧
    (∃ (s : State) (c : StCond) (r : StReq) (rest : List StReq), s.dev.st.running = none ∧ s.dev.st.queue = r :: rest ∧ NothingAssigned s.dev ∧ TestPermitted r.test s.dev ∧ ConditionsMet r c s.dev ∧ r.test = 9) ∧
    (∃ (s : State) (c : StCond) (r : StReq) (rest : List StReq), s.dev.st.running = none ∧ s.dev.st.queue = r :: rest ∧ NothingAssigned s.dev ∧ TestPermitted r.test s.dev ∧ ConditionsMet r c s.dev ∧ r.test = 10 ∧ s.dev.clk.opPend = false) ∧
    (∃ (s : State) (c : StCond) (r : StReq) (rest : List StReq), s.dev.st.running = none ∧ s.dev.st.queue = r :: rest ∧ NothingAssigned s.dev ∧ TestPermitted r.test s.dev ∧ ConditionsMet r c s.dev ∧ r.test = 11) ∧
    (∃ (s : State) (c : StCond) (r : StReq) (rest : List StReq), s.dev.st.running = none ∧ s.dev.st.queue = r :: rest ∧ NothingAssigned s.dev ∧ TestPermitted r.test s.dev ∧ ConditionsMet r c s.dev ∧ r.test = 12) ∧
    (∃ (s : State) (c : StCond) (r : StReq) (rest : List StReq), s.dev.st.running = none ∧ s.dev.st.queue = r :: rest ∧ NothingAssigned s.dev ∧ TestPermitted r.test s.dev ∧ ConditionsMet r c s.dev ∧ r.test = 13) :=
  ⟨⟨tested 0, {}, { test := 0 }, [], ⟨rfl, rfl, by unfold NothingAssigned; decide +kernel, .inl (by decide +kernel), ⟨rfl, rfl, rfl, rfl, by decide +kernel, by decide +kernel⟩, rfl⟩⟩,
   ⟨tested 1, {}, { test := 1 }, [], ⟨rfl, rfl, by unfold NothingAssigned; decide +kernel, .inl (by decide +kernel), ⟨rfl, rfl, rfl, rfl, by decide +kernel, by decide +kernel⟩, rfl, by decide +kernel⟩⟩,
   ⟨tested 2, {}, { test := 2 }, [], ⟨rfl, rfl, by unfold NothingAssigned; decide +kernel, .inl (by decide +kernel), ⟨rfl, rfl, rfl, rfl, by decide +kernel, by decide +kernel⟩, rfl, by decide +kernel⟩⟩,
   ⟨tested 3, {}, { test := 3 }, [], ⟨rfl, rfl, by unfold NothingAssigned; decide +kernel, .inl (by decide +kernel), ⟨rfl, rfl, rfl, rfl, by decide +kernel, by decide +kernel⟩, rfl⟩⟩,
   ⟨tested 4, {}, { test := 4 }, [], ⟨rfl, rfl, by unfold NothingAssigned; decide +kernel, .inl (by decide +kernel), ⟨rfl, rfl, rfl, rfl, by decide +kernel, by decide +kernel⟩, rfl⟩⟩,
   ⟨tested 5, {}, { test := 5 }, [], ⟨rfl, rfl, by unfold NothingAssigned; decide +kernel, .inl (by decide +kernel), ⟨rfl, rfl, rfl, rfl, by decide +kernel, by decide +kernel⟩, rfl, by decide +kernel⟩⟩,
   ⟨tested 6, {}, { test := 6 }, [], ⟨rfl, rfl, by unfold NothingAssigned; decide +kernel, .inl (by decide +kernel), ⟨rfl, rfl, rfl, rfl, by decide +kernel, by decide +kernel⟩, rfl, by decide +kernel⟩⟩,
   ⟨tested 7, {}, { test := 7 }, [], ⟨rfl, rfl, by unfold NothingAssigned; decide +kernel, .inl (by decide +kernel), ⟨rfl, rfl, rfl, rfl, by decide +kernel, by decide +kernel⟩, rfl, by decide +kernel⟩⟩,
   ⟨tested 8, {}, { test := 8 }, [], ⟨rfl, rfl, by unfold NothingAssigned; decide +kernel, .inl (by decide +kernel), ⟨rfl, rfl, rfl, rfl, by decide +kernel, by decide +kernel⟩, rfl⟩⟩,
   ⟨tested 9, {}, { test := 9 }, [], ⟨rfl, rfl, by unfold NothingAssigned; decide +kernel, .inl (by decide +kernel), ⟨rfl, rfl, rfl, rfl, by decide +kernel, by decide +kernel⟩, rfl⟩⟩,
   ⟨tested 10, {}, { test := 10 }, [], ⟨rfl, rfl, by unfold NothingAssigned; decide +kernel, .inl (by decide +kernel), ⟨rfl, rfl, rfl, rfl, by decide +kernel, by decide +kernel⟩, rfl, by decide +kernel⟩⟩,
   ⟨tested 11, {}, { test := 11 }, [], ⟨rfl, rfl, by unfold NothingAssigned; decide +kernel, .inl (by decide +kernel), ⟨rfl, rfl, rfl, rfl, by decide +kernel, by decide +kernel⟩, rfl⟩⟩,
   ⟨tested 12, {}, { test := 12 }, [], ⟨rfl, rfl, by unfold NothingAssigned; decide +kernel, .inl (by decide +kernel), ⟨rfl, rfl, rfl, rfl, by decide +kernel, by decide +kernel⟩, rfl⟩⟩,
   ⟨tested 13, {}, { test := 13 }, [], ⟨rfl, rfl, by unfold NothingAssigned; decide +kernel, .inl (by decide +kernel), ⟨rfl, rfl, rfl, rfl, by decide +kernel, by decide +kernel⟩, rfl⟩⟩⟩

theorem witness_SelfTestStarts :
    (∃ (s : State) (j : Nat) (c : StCond) (r : StReq) (rest : List StReq), j < 14 ∧ s.dev.st.running = none ∧ s.dev.st.queue = r :: rest ∧ r.test = j ∧ s.dev.stState j = true ∧ s.dev.stFree j (BitVec.toNat r.target) = true ∧ condOk (Device.stCond j (BitVec.toNat r.target) c s.dev) = true) ∧
    (∃ (s : State) (j : Nat) (r : StReq) (rest : List StReq), j < 14 ∧ s.dev.st.running = none ∧ s.dev.st.queue = r :: rest ∧ r.test = j ∧ s.dev.stState j = false) ∧
    (∃ (s : State) (j : Nat) (r : StReq) (rest : List StReq), j < 14 ∧ s.dev.st.running = none ∧ s.dev.st.queue = r :: rest ∧ r.test = j ∧ s.dev.stState j = true ∧ s.dev.stFree j (BitVec.toNat r.target) = false) ∧
    (∃ (s : State) (j : Nat) (c : StCond) (r : StReq) (rest : List StReq), j < 14 ∧ s.dev.st.running = none ∧ s.dev.st.queue = r :: rest ∧ r.test = j ∧ s.dev.stState j = true ∧ s.dev.stFree j (BitVec.toNat r.target) = true ∧ condOk (Device.stCond j (BitVec.toNat r.target) c s.dev) = false) :=
  ⟨⟨dv (fun d => { atStep 1 d with st := { d.st with queue := [{ test := 13 }] } }), 13, {}, { test := 13 }, [], by decide +kernel⟩,
   ⟨dv (fun d => { d with st := { d.st with queue := [{ test := 13 }] } }), 13, { test := 13 }, [], by decide +kernel⟩,
   ⟨dv (fun d => { atStep 1 d with st := { d.st with queue := [{ test := 10 }] }, clk := { d.clk with opPend := true } }), 10, { test := 10 }, [], by decide +kernel⟩,
   ⟨dv (fun d => { atStep 1 d with st := { d.st with queue := [{ test := 1 }] } }), 1, { tempOk := false }, { test := 1 }, [], by decide +kernel⟩⟩

theorem witness_SelfTestRequests :
    (∃ (s : State), s.dev.st.queue.length < 8 ∧ s.dev.stState s.dev.st.test = true ∧ stTarget s.dev.st.test (BitVec.toNat s.dev.st.target) = true) ∧
    (∃ (s : State), 8 ≤ s.dev.st.queue.length) ∧
    (∃ (s : State), s.dev.st.queue.length < 8 ∧ s.dev.stState s.dev.st.test = false) ∧
    (∃ (s : State), s.dev.st.queue.length < 8 ∧ s.dev.stState s.dev.st.test = true ∧ stTarget s.dev.st.test (BitVec.toNat s.dev.st.target) = false) ∧
    (∃ (s : State) (hi : W32) (b : List Byte) (d2 : Device), Device.tokenAt (presented hi s.dev).st.tokenAddr (presented hi s.dev) = (b, d2)) :=
  ⟨⟨dv (fun d => { atStep 1 d with st := { d.st with test := 1, target := 207 } }), by decide +kernel⟩,
   ⟨dv (fun d => { d with st := { d.st with queue := List.replicate 8 {} } }), by decide +kernel⟩,
   ⟨dv (fun d => { d with st := { d.st with test := 13 } }), by decide +kernel⟩,
   ⟨dv (fun d => { atStep 1 d with st := { d.st with test := 1, target := 208 } }), by decide +kernel⟩,
   ⟨State.reset, 0x0E00, _, _, pair_eq rfl⟩⟩

theorem witness_SelfTestEnds :
    (∃ (s : State) (r : StReq), s.dev.st.running = some r ∧ s.dev.st.waits = []) ∧
    (∃ (o : StOutcome), o.pass = false) ∧
    (∃ (j : Nat) (tg : Nat) (o : StOutcome), stVerdict j tg o = true ∧ j ≠ 6 ∧ j ≠ 7 ∧ j ≠ 9) ∧
    (∃ (j : Nat) (tg : Nat) (o : StOutcome), stVerdict j tg o = true ∧ j ≠ 6 ∧ j ≠ 7 ∧ j ≠ 9 ∧ (j = 0 ∨ j = 1)) ∧
    (∃ (s : State) (r : StReq) (c : StCond), s.dev.st.running = some r ∧ s.dev.st.checkedAt + 32000 ≤ s.dev.clk.now ∧ ConditionsMet r c s.dev) ∧
    (∃ (s : State) (r : StReq) (c : StCond), s.dev.st.running = some r ∧ s.dev.st.waits = [] ∧ s.dev.st.checkedAt + 32000 ≤ s.dev.clk.now ∧ ¬ConditionsMet r c s.dev) ∧
    (∃ (s : State), (s.dev.st.running = none ∨ s.dev.clk.now < s.dev.st.checkedAt + 32000)) ∧
    (∃ (s : State) (r : StReq), s.dev.st.running = some r ∧ s.dev.st.waits = [] ∧ r.test ≠ 0 ∧ r.test ≠ 4) ∧
    (∃ (s : State), s.dev.deepTest = true) :=
  ⟨⟨dv (fun d => { d with st := { d.st with running := some { test := 1 } } }), { test := 1 }, by decide +kernel⟩,
   ⟨{ pass := false }, by decide +kernel⟩,
   ⟨4, 0, {}, by decide +kernel⟩,
   ⟨1, 0, { coverage := 9500 }, by decide +kernel⟩,
   ⟨dv (fun d => { d.updClk (fun c => { c with now := 32000, regions := (List.range 31).map fun g => (g, { locked := true }) }) with st := { d.st with running := some { test := 1 } } }), { test := 1 }, {}, by unfold ConditionsMet; decide +kernel⟩,
   ⟨dv (fun d => { d.updClk (fun c => { c with now := 32000, regions := (List.range 31).map fun g => (g, { locked := true }) }) with st := { d.st with running := some { test := 1 } } }), { test := 1 }, { vddOk := false }, by unfold ConditionsMet; decide +kernel⟩,
   ⟨State.reset, by decide +kernel⟩,
   ⟨dv (fun d => { d with st := { d.st with running := some { test := 1 } } }), { test := 1 }, by decide +kernel⟩,
   ⟨dv (fun d => { d with st := { d.st with running := some { test := 4 } } }), by decide +kernel⟩⟩

/-! Some clauses speak of a signature that verifies, which the model leaves open (log entry 11): their witnesses are concrete
but for that one answer. -/

/-- A token of 7,283 bytes that carries a magic number, version 1 and a SCOPE field, and nothing else. -/
def tokenOf (magic scope : Nat) : List Byte :=
  leBytes 4 magic ++ leBytes 2 1 ++ leBytes 2 scope ++ List.replicate 7275 0

/-- A public key of zeros. -/
def zeroKey : List Byte := List.replicate 2592 0

/-- A device that holds the same token at the start of its request table. -/
def tokenState (steps magic scope : Nat) : State :=
  dv fun d => { d with
    fuses := { (atStep steps d).fuses with vendorHash := [(0, sha3_512 zeroKey)], debugHash := sha3_512 zeroKey }
    sec := { d.sec with lcToken := 0x0E0000000000 }
    starter := { d.starter with table := [(0, BitVec.ofNat 256 (magic + 2 ^ 32 + scope * 2 ^ 48))] } }

/-- The bytes the security island reads there. -/
def tokenRead (magic scope : Nat) : List Byte :=
  ((((List.range 228).map fun r => leBytes 32 ((tokenState 3 magic scope).dev.req r).toNat).flatten).drop 0).take 7283

theorem table_no_hole (d : Device) {a : Nat} (h1 : 0x0E0000000000 ≤ a) (h2 : a < 0x0E0002000000) : d.holePage a = none := by
  have h : d.place a = .reqtab (a - 0x0E0000000000) := by
    unfold Device.place
    rw [if_neg (by omega), if_neg (by omega), if_neg (by omega), if_neg (by omega), if_pos h2]
  unfold Device.holePage
  rw [h]

/-- A read inside the request table meets no hole. -/
theorem table_counts_nothing (d : Device) (a n : Nat)
    (h : (rangePoints a n).all (fun x => decide (0x0E0000000000 ≤ x) && decide (x < 0x0E0002000000)) = true) :
    d.countReadHoles a n = d := by
  unfold Device.countReadHoles
  refine (congrArg (fun l : List Nat => l.eraseDups.foldl (fun d p => d.countErr p errAccess) d)
    (List.filterMap_eq_nil_iff.2 fun x hx => ?_)).trans rfl
  have := List.all_eq_true.1 h x (List.mem_filter.1 hx).1
  simp only [Bool.and_eq_true, decide_eq_true_eq] at this
  exact table_no_hole d this.1 this.2

theorem tokenAt_state (magic scope : Nat) :
    Device.tokenAt (tokenState 3 magic scope).dev.sec.lcToken (lcAsked (tokenState 3 magic scope).dev) =
      (tokenRead magic scope, lcAsked (tokenState 3 magic scope).dev) := by
  have ha : (tokenState 3 magic scope).dev.sec.lcToken.toNat % 2 ^ 48 = 0x0E0000000000 := by
    show (0x0E0000000000 : W64).toNat % 2 ^ 48 = _
    decide +kernel
  have hp : (lcAsked (tokenState 3 magic scope).dev).place 0x0E0000000000 = .reqtab 0 := by simp [Device.place]
  have hr : reqEntries 0 7283 = List.range 228 := by simp [reqEntries]
  unfold Device.tokenAt Device.localRead
  rw [ha, hp]
  simp only []
  rw [table_counts_nothing _ _ _ (by decide +kernel), readReqtab_clean _ _ _ rfl, hr]
  rfl

/-- The fields of a token that every check looks at. -/
def Plain (magic : Nat) (t : List Byte) : Prop :=
  tokenField t 0 4 = magic ∧ tokenField t 4 2 = 1 ∧ tokenField t 8 8 = 0 ∧ tokenField t 0x10 16 = 0 ∧ tokenKey t = zeroKey

/-- A verification that answers yes for the token and the zero key. -/
def Verifies (t : List Byte) : Prop := Config.mldsaVerify zeroKey (t.take 64) ((t.drop 0x40).take 4627) = true

theorem token_is_accepted {magic : Nat} {t : List Byte} {n : BitVec 128} {d : Device} (h : Verifies t) (p : Plain magic t)
    (hs : d.fuses.serial.toNat = 0) (hn : n.toNat = 0) : d.tokenOk magic n (sha3_512 zeroKey) t = true := by
  obtain ⟨h1, h2, h3, h4, h5⟩ := p
  unfold Device.tokenOk
  rw [h1, h2, h3, h4, h5, hs, hn, h]
  simp

theorem witness_DebugUnlock_accepted (h : Verifies (tokenOf 1263288917 1)) :
    ∃ (s : State) (t : List Byte), LcFree s.dev ∧ s.dev.fuses.lc = 3 ∧ s.dev.sec.debug = false ∧ s.dev.allReleased = true ∧
      Device.tokenOk 1263288917 s.dev.sec.dbgNonce s.dev.fuses.debugHash t s.dev = true :=
  ⟨tokenState 3 0 0, tokenOf 1263288917 1, ⟨rfl, by decide +kernel, rfl⟩, by decide +kernel, by decide +kernel, by decide +kernel,
   token_is_accepted h (by unfold Plain; decide +kernel) rfl rfl⟩

theorem witness_DebugUnlock_elsewhere (h : Verifies (tokenOf 1263288917 1)) :
    ∃ (s : State) (t : List Byte), LcFree s.dev ∧ s.dev.fuses.lc ≠ 3 ∧ s.dev.fuses.lc ≠ 5 ∧
      Device.tokenOk 1263288917 s.dev.sec.dbgNonce s.dev.fuses.debugHash t s.dev = true :=
  ⟨tokenState 2 0 0, tokenOf 1263288917 1, ⟨rfl, by decide +kernel, rfl⟩, by decide +kernel, by decide +kernel,
   token_is_accepted h (by unfold Plain; decide +kernel) rfl rfl⟩

theorem witness_LifeCycleTokens_returned (h : Verifies (tokenRead 1414680146 0)) :
    ∃ (s : State) (b : List Byte) (d2 : Device), LcFree s.dev ∧ s.dev.fuses.lc = 3 ∧
      Device.tokenAt s.dev.sec.lcToken (lcAsked s.dev) = (b, d2) ∧ Device.lcTokenOk 1414680146 b d2 = true ∧
      d2.allReleased = true := by
  refine ⟨tokenState 3 1414680146 0, _, _, ⟨rfl, by decide +kernel, rfl⟩, by decide +kernel, tokenAt_state _ _, ?_,
    by decide +kernel⟩
  unfold Device.lcTokenOk
  rw [show Map.get 0 (lcAsked (tokenState 3 1414680146 0).dev).fuses.vendorHash 0 = sha3_512 zeroKey from rfl,
    token_is_accepted h (by unfold Plain; decide +kernel) rfl rfl]
  decide +kernel

theorem witness_LifeCycleTokens_revoked (h : Verifies (tokenRead 1447773522 1)) :
    ∃ (s : State) (b : List Byte) (d2 : Device) (j k : Nat), LcFree s.dev ∧ s.dev.fuses.lc ≠ 5 ∧
      Device.tokenAt s.dev.sec.lcToken (lcAsked s.dev) = (b, d2) ∧ tokenField b 6 2 % 16 = j ∧ tokenField b 6 2 / 16 % 4 = k ∧
      k ≠ j ∧ 0 < j ∧ j < 4 ∧ s.dev.fuses.revoke.getLsbD k = false ∧
      Device.tokenOk 1447773522 s.dev.sec.lcNonce (Map.get 0 s.dev.fuses.vendorHash k) b d2 = true := by
  refine ⟨tokenState 3 1447773522 1, _, _, 1, 0, ⟨rfl, by decide +kernel, rfl⟩, by decide +kernel, tokenAt_state _ _,
    by decide +kernel, by decide +kernel, by decide +kernel, by decide +kernel, by decide +kernel, by decide +kernel, ?_⟩
  exact token_is_accepted h (by unfold Plain; decide +kernel) rfl rfl

/-- A staged firmware image whose body is 64 zero bytes, on a device in MANUFACTURE. -/
def stagedImage : State :=
  dv fun d => { d with
    fuses := { (atStep 1 d).fuses with vendorHash := [(0, sha3_512 zeroKey)] }
    sec := { d.sec with bootStatus := 1, verifying := true, fwLenGo := 8256 }
    clk := { d.clk with gun := .fired }
    starter := { d.starter with table :=
      [(0, BitVec.ofNat 256 (0x4D574654 + 2 ^ 32 + 1 * 2 ^ 56 + 2 * 2 ^ 72 + 64 * 2 ^ 128)),
       (1, (sha3_512 (List.replicate 64 0)).setWidth 256), (2, (sha3_512 (List.replicate 64 0) >>> 256).setWidth 256)] } }

theorem staged_image_passes
    (h : Config.mldsaVerify (stagedImage.dev.staged 0x80 2592) (stagedImage.dev.staged 0 0xAA0)
      (stagedImage.dev.staged 0xAA0 4627) = true) : stagedImage.dev.fwCheck = none := by
  have hk : stagedImage.dev.staged 0x80 2592 = zeroKey := by decide +kernel
  have h0 : Map.get 0 stagedImage.dev.fuses.vendorHash (stagedImage.dev.fwField 0x0C 1) = sha3_512 zeroKey := by
    rw [show stagedImage.dev.fwField 0x0C 1 = 0 by decide +kernel]; rfl
  unfold Device.fwCheck
  simp only []
  rw [if_neg (by decide +kernel), if_neg (by decide +kernel), if_neg (by decide +kernel), if_neg, if_neg, if_neg (by decide +kernel),
    if_neg (by decide +kernel)]
  · simp [h]
  · rw [h0, hk]
    exact fun h => h.elim (fun h => h rfl) (by decide +kernel)

theorem witness_BootRomVerifiesThenRuns_runs
    (h : Config.mldsaVerify (stagedImage.dev.staged 0x80 2592) (stagedImage.dev.staged 0 0xAA0)
      (stagedImage.dev.staged 0xAA0 4627) = true) :
    ∃ s : State, s.dev.clk.gun = .fired ∧ s.dev.sec.bootStatus = 1 ∧ s.dev.sec.entropyOk = true ∧ s.dev.fwCheck = none :=
  ⟨stagedImage, rfl, rfl, rfl, staged_image_passes h⟩

theorem witness_BootChecksInOrder_passes
    (h : Config.mldsaVerify (stagedImage.dev.staged 0x80 2592) (stagedImage.dev.staged 0 0xAA0)
      (stagedImage.dev.staged 0xAA0 4627) = true) : ∃ d : Device, d.fwCheck = none :=
  ⟨stagedImage.dev, staged_image_passes h⟩
end

