-- ==== Sys2Proof/Tests/Witness2.lean ====
section
/-! SUPPORT. The statements on loads, placement, partitions and starts speak of states that there are. -/

open Sys2Proof Sys2Proof.Machine

set_option Elab.async false

/-- The header of an image of five lines, at the start of channel 0. -/
def staged5 (d : Device) : Device :=
  (assigned d).updChan 0 fun x => { x with lines :=
    [(0, some { key := 1, data := BitVec.ofNat 512 (0x314C5854 + 0x100 * 2 ^ 32 + 320 * 2 ^ 128 + 3 * (2 ^ 132 * 2 ^ 132) + 2 * (2 ^ 152 * 2 ^ 152)) }),
     (1, some { key := 1, data := BitVec.ofNat 512 (256 + 2 ^ 64) })] }

/-- The load gate is free and one request waits. -/
def requested (r : LoadReq) (d : Device) : State :=
  { dev := { up d with mb := { d.mb with queue := [r] } } }

theorem witness_LoadRequests :
    (∃ (s : State), s.dev.deepTest = false ∧ s.dev.loadCheck (registersRequest s.dev) = none) ∧
    (∃ (s : State), s.dev.deepTest = true) ∧
    (∃ (s : State) (c : Nat), s.dev.deepTest = false ∧ s.dev.loadCheck (registersRequest s.dev) = some c) ∧
    (∃ (d : Device), d.ioFailed = true) ∧
    (∃ (d : Device) (r : LoadReq), d.ioFailed = false ∧ (8 ≤ d.mb.queue.length ∨ d.loading r.part = true)) ∧
    (∃ (d : Device) (r : LoadReq), d.mb.queue.length < 8 ∧ d.loading r.part = false ∧ ((d.part r.part).regions = 0 ∨ (d.part r.part).groups = 0 ∨ (d.part r.part).run.reset.isSome = true ∨ r.addr % 64 ≠ 0 ∨ d.pacersIdle r.part = false ∨ d.inPartDram r.part r.addr = false)) ∧
    (∃ (d : Device) (r : LoadReq), d.mb.devMode = some !r.cadence) :=
  ⟨⟨dv fun d => assigned d, by decide +kernel⟩,
   ⟨dv fun d => { d with st := { d.st with running := some { test := 4 } } }, by decide +kernel⟩,
   ⟨State.reset, 0x21, by decide +kernel⟩,
   ⟨Device.reset.updRegion 24 (fun r => { r with failed := true }), by decide +kernel⟩,
   ⟨{ Device.reset with mb := { queue := List.replicate 8 {} } }, {}, by decide +kernel⟩,
   ⟨Device.reset, {}, by decide +kernel⟩,
   ⟨{ Device.reset with mb := { devMode := some true } }, {}, by decide +kernel⟩⟩

theorem witness_LoadGateServes :
    (∃ (s : State), (s.dev.sec.bootStatus ≠ 2 ∨ s.dev.mb.queue = [] ∨ s.dev.mb.placing.isSome = true)) ∧
    (∃ (s : State) (r : LoadReq) (rest : List LoadReq) (c : Nat) (ph : Nat) (d2 : Device), GateFree r.part s.dev ∧ s.dev.mb.queue = r :: rest ∧ Device.readImage r (gateTaken rest s.dev) = (Except.error (c, ph), d2) ∧ c ≠ 0) :=
  ⟨⟨State.reset, by decide +kernel⟩,
   ⟨requested {} { assigned Device.reset with mb := { devMode := some true } }, {}, [], 0x22, 0, _, ⟨by unfold GateFree; decide +kernel, by decide +kernel, rfl, by decide +kernel⟩⟩⟩

theorem witness_LoadGateServes_rejected :
    ∃ (s : State) (r : LoadReq) (rest : List LoadReq) (bs : List Byte) (v : Verdict) (d2 : Device),
      GateFree r.part s.dev ∧ s.dev.mb.queue = r :: rest ∧ Device.readImage r (gateTaken rest s.dev) = (Except.ok bs, d2) ∧
      Device.judge r (readOf bs) { d2 with freeCtr := d2.freeCtr + 1 } = Except.error v ∧ v.code ≠ 0 := by
  obtain ⟨bs, hb⟩ := ok_of (x := (Device.readImage { reload := true } (gateTaken [] (requested { reload := true }
    (staged5 Device.reset)).dev)).1) (by decide +kernel)
  obtain ⟨v, hv, hc⟩ := error_of (x := Device.judge { reload := true } (readOf bs)
    { (Device.readImage { reload := true } (gateTaken [] (requested { reload := true } (staged5 Device.reset)).dev)).2 with freeCtr :=
      (Device.readImage { reload := true } (gateTaken [] (requested { reload := true } (staged5 Device.reset)).dev)).2.freeCtr + 1 })
    (fun v => v.code != 0) (by
      have : bs = (match (Device.readImage { reload := true } (gateTaken [] (requested { reload := true }
          (staged5 Device.reset)).dev)).1 with | .ok b => b | .error _ => []) := by rw [hb]
      rw [this]
      decide +kernel)
  exact ⟨requested { reload := true } (staged5 Device.reset), { reload := true }, [], bs, v, _, by unfold GateFree; decide +kernel, rfl,
    pair_eq hb, hv, by simpa using hc⟩

theorem readImage_five (r : LoadReq) (hr : r = { reload := true } ∨ r = { reload := true, mapOnly := true }) :
    ∃ (s : State) (bs : List Byte) (im : Image) (d2 : Device),
      GateFree r.part s.dev ∧ s.dev.mb.queue = r :: [] ∧ Device.readImage r (gateTaken [] s.dev) = (Except.ok bs, d2) ∧
      Device.judge r (readOf bs) { d2 with freeCtr := d2.freeCtr + 1 } = Except.ok im := by
  let d0 := (staged5 Device.reset).updPart 0 fun x => { x with image := some {}, altReady := true }
  have hb : ∃ bs, (Device.readImage r (gateTaken [] (requested r d0).dev)).1 = .ok bs := by
    rcases hr with rfl | rfl <;> exact ok_of (by decide +kernel)
  obtain ⟨bs, hb⟩ := hb
  refine ⟨requested r d0, bs, {}, _, ?_, rfl, pair_eq hb, ?_⟩
  · rcases hr with rfl | rfl <;> (unfold GateFree; decide +kernel)
  · have hs : Device.storedMap r { (Device.readImage r (gateTaken [] (requested r d0).dev)).2 with freeCtr :=
        (Device.readImage r (gateTaken [] (requested r d0).dev)).2.freeCtr + 1 } = some {} := by
      rcases hr with rfl | rfl <;> decide +kernel
    have hl : r.reload = true := by rcases hr with rfl | rfl <;> rfl
    unfold Device.judge
    rw [hl, hs]
    rfl

theorem witness_LoadGateServes_accepted :
    (∃ (s : State) (r : LoadReq) (rest : List LoadReq) (bs : List Byte) (im : Image) (d2 : Device),
      GateFree r.part s.dev ∧ s.dev.mb.queue = r :: rest ∧ Device.readImage r (gateTaken rest s.dev) = (Except.ok bs, d2) ∧
      Device.judge r (readOf bs) { d2 with freeCtr := d2.freeCtr + 1 } = Except.ok im ∧ r.mapOnly = false) ∧
    (∃ (s : State) (r : LoadReq) (rest : List LoadReq) (bs : List Byte) (im : Image) (d2 : Device),
      GateFree r.part s.dev ∧ s.dev.mb.queue = r :: rest ∧ Device.readImage r (gateTaken rest s.dev) = (Except.ok bs, d2) ∧
      Device.judge r (readOf bs) { d2 with freeCtr := d2.freeCtr + 1 } = Except.ok im ∧ r.mapOnly = true) := by
  obtain ⟨s, bs, im, d2, h1, h2, h3, h4⟩ := readImage_five { reload := true } (.inl rfl)
  obtain ⟨s', bs', im', d2', k1, k2, k3, k4⟩ := readImage_five { reload := true, mapOnly := true } (.inr rfl)
  exact ⟨⟨s, _, _, bs, im, d2, h1, h2, h3, h4, rfl⟩, ⟨s', _, _, bs', im', d2', k1, k2, k3, k4, rfl⟩⟩

theorem witness_PlacementEnds :
    (∃ (s : State) (k : Nat) (r : LoadReq) (im : Image) (d2 : Device), k < 8 ∧ s.dev.mb.placing = some r ∧ s.dev.mb.plan = some im ∧ r.part = k ∧ (s.dev.part k).run.reset = none ∧ s.dev.testOnTile im = false ∧ Device.place_ r im s.dev = (true, d2) ∧ (d2.part k).qlists = [] ∧ r.autoStart = false) ∧
    (∃ (s : State) (k : Nat) (r : LoadReq) (im : Image) (d2 : Device), k < 8 ∧ s.dev.mb.placing = some r ∧ s.dev.mb.plan = some im ∧ r.part = k ∧ (s.dev.part k).run.reset = none ∧ s.dev.testOnTile im = false ∧ Device.place_ r im s.dev = (false, d2)) :=
  ⟨⟨{ dev := { assigned Device.reset with mb := { placing := some {}, plan := some {} } } }, 0, {}, {}, _, ⟨by decide, rfl, rfl, rfl, rfl, by decide +kernel, pair_eq (by decide +kernel), by decide +kernel, rfl⟩⟩,
   ⟨{ dev := { spoilt Device.reset with mb := { placing := some {}, plan := some { tiles := [(0, 0)], pacers := [(0, 0)], pairs := [(0, [{ descSize := 64 }])] } } } }, 0, {}, { tiles := [(0, 0)], pacers := [(0, 0)], pairs := [(0, [{ descSize := 64 }])] }, _, ⟨by decide, rfl, rfl, rfl, rfl, rfl, pair_eq (by decide +kernel)⟩⟩⟩

theorem witness_AlternativeMaps :
    (∃ (s : State) (k : Nat) (im : Image) (bs : List Byte) (d2 : Device), k < 8 ∧ (s.dev.part k).image = some im ∧ (s.dev.part k).altReady = false ∧ s.dev.loading k = false ∧ Device.strictBytes k im.addr im.size s.dev = (some bs, d2)) ∧
    (∃ (s : State) (k : Nat) (im : Image) (d2 : Device), k < 8 ∧ (s.dev.part k).image = some im ∧ (s.dev.part k).altReady = false ∧ s.dev.loading k = false ∧ Device.strictBytes k im.addr im.size s.dev = (none, d2)) :=
  ⟨⟨{ dev := imaged { size := 64 } Device.reset }, 0, { size := 64, tiles := [(0, 0)], pacers := [(0, 0)] }, List.replicate 64 0, _, ⟨by decide, rfl, rfl, rfl, pair_eq (by decide +kernel)⟩⟩,
   ⟨{ dev := imaged { size := 64 } (spoilt Device.reset) }, 0, { size := 64, tiles := [(0, 0)], pacers := [(0, 0)] }, _, ⟨by decide, rfl, rfl, rfl, pair_eq (by decide +kernel)⟩⟩⟩

theorem witness_BankRefills :
    (∃ (s : State) (k : Nat) (p : Nat) (c : Nat) (v : Nat) (rest : List (Nat × Nat)) (im : Image) (q : Pair) (n : Nat) (d2 : Device), k < 8 ∧ (s.dev.part k).run.refilling = none ∧ (s.dev.part k).run.refills = (p, c) :: rest ∧ (s.dev.part k).image = some im ∧ List.find? (fun e => e.snd == p) im.pacers = some (v, p) ∧ s.dev.nextSeq k p (s.dev.pacer p).seqPos = some n ∧ List.find? (fun x => x.seq == n) (Map.get [] im.pairs p) = some q ∧ (s.dev.pacer p).state.active = true ∧ im.phys v = p ∧ q.tabSize ≤ 32768 ∧ q.descSize ≤ 16384 ∧ Device.writeBank k im v (!(s.dev.pacer p).bank) q (Device.updRun k (fun r => { r with refills := rest }) s.dev) = (true, d2)) ∧
    (∃ (s : State) (k : Nat) (p : Nat) (c : Nat), k < 8 ∧ (s.dev.part k).run.refilling = some (p, c)) :=
  ⟨⟨{ dev := ((imaged { pairs := [(0, [{}, { seq := 1, last := true }])] } Device.reset).updRun 0 fun r => { r with refills := [(0, 5)] }).updPacer 0 fun x => { x with state := .running } }, 0, 0, 5, 0, [], { pairs := [(0, [{}, { seq := 1, last := true }])], tiles := [(0, 0)], pacers := [(0, 0)] }, { seq := 1, last := true }, 1, _, by
    refine ⟨by decide, ?_⟩
    repeat refine And.intro (by decide +kernel) ?_
    exact pair_eq (by decide +kernel)⟩,
   ⟨dv (fun d => d.updRun 7 fun r => { r with refilling := some (3, 9) }), 7, 3, 9, by decide +kernel⟩⟩

theorem witness_PartitionAssignment :
    (∃ (s : State), s.dev.mb.partPending.isSome = true) ∧
    (∃ (s : State) (c : Nat), s.dev.mb.partPending = none ∧ s.dev.st.waits = [] ∧ s.dev.deepTest = false ∧ s.dev.partCode s.dev.mb.paPart s.dev.mb.paRegions s.dev.mb.paGroups = some c) ∧
    (∃ (s : State), s.dev.mb.partPending = none ∧ s.dev.st.waits = [] ∧ s.dev.deepTest = false ∧ s.dev.partCode s.dev.mb.paPart s.dev.mb.paRegions s.dev.mb.paGroups = none ∧ s.dev.mb.paRegions ≠ 0 ∧ s.dev.joining s.dev.mb.paPart s.dev.mb.paGroups = []) ∧
    (∃ (s : State), s.dev.mb.partPending = none ∧ s.dev.st.waits = [] ∧ s.dev.deepTest = false ∧ s.dev.partCode s.dev.mb.paPart s.dev.mb.paRegions s.dev.mb.paGroups = none ∧ s.dev.mb.paRegions ≠ 0 ∧ s.dev.joining s.dev.mb.paPart s.dev.mb.paGroups ≠ [] ∧ (s.dev.part s.dev.mb.paPart).key = none ∧ s.dev.sec.entropyOk = true) ∧
    (∃ (s : State), s.dev.mb.partPending = none ∧ s.dev.st.waits = [] ∧ s.dev.deepTest = false ∧ s.dev.partCode s.dev.mb.paPart s.dev.mb.paRegions s.dev.mb.paGroups = none ∧ s.dev.mb.paRegions = 0 ∧ (s.dev.part s.dev.mb.paPart).run.reset = none) ∧
    (∃ (d : Device), (d.fuses.lc = 0 ∨ d.fuses.lc = 5)) ∧
    (∃ (d : Device) (k : Nat), d.fuses.lc ≠ 0 ∧ d.fuses.lc ≠ 5 ∧ (d.sec.lcWait.isSome = true ∨ d.pacersIdle k = false)) ∧
    (∃ (d : Device) (k : Nat) (j : Nat) (rs : BitVec 24) (gs : Byte), d.fuses.lc ≠ 0 ∧ d.fuses.lc ≠ 5 ∧ j < 8 ∧ j ≠ k ∧ ((d.part j).regions &&& rs ≠ 0 ∨ (d.part j).groups &&& gs ≠ 0)) :=
  ⟨⟨dv fun d => { d with mb := { d.mb with partPending := some (0, 0, 0) } }, by decide +kernel⟩,
   ⟨dv (fun d => { d with mb := { d.mb with paRegions := 1 } }), 3, by decide +kernel⟩,
   ⟨{ dev := { atStep 1 (assigned Device.reset) with mb := { paRegions := 3, paGroups := 1 } } }, by decide +kernel⟩,
   ⟨dv fun d => { atStep 1 d with mb := { d.mb with paRegions := 1, paGroups := 1 } }, by decide +kernel⟩,
   ⟨{ dev := atStep 1 (assigned Device.reset) }, by decide +kernel⟩,
   ⟨Device.reset, by decide +kernel⟩,
   ⟨{ atStep 3 Device.reset with sec := { lcWait := some .returned } }, 0, by decide +kernel⟩,
   ⟨atStep 1 (assigned Device.reset), 1, 0, 1, 1, by decide +kernel⟩⟩

theorem witness_JoiningGroupsAreZeroed :
    (∃ (s : State) (k : Nat) (key : Nat) (rs : BitVec 24) (gs : Byte), k < 8 ∧ s.dev.mb.partPending = some (k, rs, gs) ∧ rs ≠ 0 ∧ (s.dev.part k).key = some key ∧ (∀ (c : Nat), c < 24 → c / 3 ∈ s.dev.joining k gs → (s.dev.chan c).state ≠ ChState.failed ∧ (s.dev.chan c).state ≠ ChState.training)) ∧
    (∃ (s : State) (k : Nat) (key : Nat) (c : Nat) (rs : BitVec 24) (gs : Byte), k < 8 ∧ s.dev.mb.partPending = some (k, rs, gs) ∧ rs ≠ 0 ∧ (s.dev.part k).key = some key ∧ c / 3 ∈ s.dev.joining k gs ∧ (s.dev.chan c).state = ChState.failed) ∧
    (∃ (s : State) (k : Nat) (key : Nat) (c : Nat) (rs : BitVec 24) (gs : Byte), k < 8 ∧ s.dev.mb.partPending = some (k, rs, gs) ∧ rs ≠ 0 ∧ (s.dev.part k).key = some key ∧ (∀ (c : Nat), c < 24 → c / 3 ∈ s.dev.joining k gs → (s.dev.chan c).state ≠ ChState.failed) ∧ c / 3 ∈ s.dev.joining k gs ∧ (s.dev.chan c).state = ChState.training) :=
  ⟨⟨{ dev := { [3, 4, 5].foldl (fun d c => d.updChan c fun x => { x with state := .available }) (assigned Device.reset) with mb := { partPending := some (0, 1, 3) } } }, 0, 1, 1, 3, by decide +kernel⟩,
   ⟨{ dev := { [3, 4, 5].foldl (fun d c => d.updChan c fun x => { x with state := .failed }) (assigned Device.reset) with mb := { partPending := some (0, 1, 3) } } }, 0, 1, 5, 1, 3, by decide +kernel⟩,
   ⟨{ dev := { [3, 4, 5].foldl (fun d c => d.updChan c fun x => { x with state := .training }) (assigned Device.reset) with mb := { partPending := some (0, 1, 3) } } }, 0, 1, 5, 1, 3, by decide +kernel⟩⟩

theorem witness_TeardownLeavesNothing :
    (∃ (s : State) (k : Nat), k < 8 ∧ (s.dev.part k).run.teardown = true ∧ s.dev.sec.lcWait = none) ∧
    (∃ (s : State) (k : Nat), (s.dev.part k).run.teardown = false ∧ s.dev.sec.lcWait = none) :=
  ⟨⟨dv (fun d => d.updRun 7 fun r => { r with teardown := true }), 7, by decide +kernel⟩,
   ⟨State.reset, 7, by decide +kernel⟩⟩

theorem witness_StartRequests :
    (∃ (s : State) (k : Nat) (c : Nat) (h : Bool), k < 8 ∧ s.dev.deepTest = false ∧ s.dev.startCode k h = some c) ∧
    (∃ (s : State) (k : Nat) (h : Bool), k < 8 ∧ s.dev.deepTest = false ∧ s.dev.startCode k h = none ∧ s.dev.regionsIn k RegPower.gated ≠ []) ∧
    (∃ (s : State) (k : Nat) (h : Bool), k < 8 ∧ s.dev.deepTest = false ∧ s.dev.startCode k h = none ∧ s.dev.regionsIn k RegPower.gated = []) ∧
    (∃ (s : State) (k : Nat), k < 8 ∧ s.dev.deepTest = true) ∧
    (∃ (d : Device) (k : Nat), ((d.part k).image = none ∨ (d.part k).run.phase ≠ RunPhase.loaded)) ∧
    (∃ (d : Device) (k : Nat) (im : Image), (d.part k).image = some im ∧ (d.part k).run.phase = RunPhase.loaded ∧ (d.clk.opCur < im.opDecl ∨ im.opMin < d.clk.opCur)) ∧
    (∃ (d : Device), 1050 ≤ d.thr.hotT) :=
  ⟨⟨State.reset, 7, 8, true, by decide +kernel⟩,
   ⟨{ dev := inPhase .loaded (imaged { opMin := 4 } Device.reset) }, 0, false, by decide +kernel⟩,
   ⟨{ dev := (inPhase .loaded (imaged { opMin := 4 } Device.reset)).updRegion 0 fun r => { r with power := .fill } }, 0, false, by decide +kernel⟩,
   ⟨dv (fun d => { d with st := { d.st with running := some { test := 4 } } }), 0, by decide +kernel⟩,
   ⟨Device.reset, 0, by decide +kernel⟩,
   ⟨inPhase .loaded (imaged {} Device.reset), 0, { tiles := [(0, 0)], pacers := [(0, 0)] }, by decide +kernel⟩,
   ⟨{ Device.reset with thr := { hotT := 1050 } }, by decide +kernel⟩⟩

theorem witness_StaggeredUngating :
    (∃ (s : State) (g : Nat) (q : Stagger), q ∈ s.dev.clk.staggers ∧ g ∈ q.left ∧ q.lastAt ≤ s.dev.clk.now ∧ (∀ (x : Stagger), x ∈ s.dev.clk.staggers → q.joins x = true → ∀ (y : Nat), y ∈ x.left → g ≤ y) ∧ (∀ (x : Stagger), x ∈ s.dev.clk.staggers → g ∈ x.left → q.joins x = true)) ∧
    (∃ (s : State) (g : Nat), (∀ (q : Stagger), q ∈ s.dev.clk.staggers → g ∈ q.left → q.lastAt ≤ s.dev.clk.now → ∃ x, x ∈ s.dev.clk.staggers ∧ q.joins x = true ∧ ∃ y, y ∈ x.left ∧ y < g)) :=
  ⟨⟨dv (fun d => { d with clk := { d.clk with staggers := [{ left := [22, 23] }] } }), 22, { left := [22, 23] }, by decide +kernel⟩,
   ⟨dv (fun d => { d with clk := { d.clk with staggers := [{ left := [22, 23] }] } }), 23, by decide +kernel⟩⟩

theorem witness_PartitionStarts :
    (∃ (s : State) (k : Nat), k < 8 ∧ (s.dev.part k).run.phase = RunPhase.starting ∧ s.dev.clk.lapCyc = 0 ∧ s.dev.clk.gun = Gun.fired ∧ s.dev.prepared k = true ∧ (s.dev.part k).run.heat = true ∧ BitVec.toNat (s.dev.part k).run.heatAt ≤ BitVec.toNat s.dev.tk.time) ∧
    (∃ (s : State) (k : Nat), k < 8 ∧ (s.dev.part k).run.phase = RunPhase.starting ∧ s.dev.clk.lapCyc = 0 ∧ s.dev.clk.gun = Gun.fired ∧ s.dev.prepared k = true ∧ (s.dev.part k).run.heat = false) ∧
    (∃ (s : State), s.dev.clk.lapCyc ≠ 0) :=
  ⟨⟨{ dev := (inPhase .starting (up (imaged {} Device.reset))).updRun 0 (fun r => { r with heat := true }) |>.updRegion 0 fun r => { r with power := .run } }, 0, by decide +kernel⟩,
   ⟨{ dev := (inPhase .starting (up (imaged {} Device.reset))).updRegion 0 fun r => { r with power := .run } }, 0, by decide +kernel⟩,
   ⟨dv (fun d => { d with clk := { d.clk with lapCyc := 1 } }), by decide +kernel⟩⟩

theorem witness_GatedRegions :
    (∃ (s : State) (k : Nat) (im : Image), k < 8 ∧ (s.dev.part k).image = some im ∧ im.frame = true ∧ s.dev.running k = true ∧ (s.dev.part k).run.nextFrame = none ∧ s.dev.regionsIn k RegPower.gated ≠ [] ∧ s.dev.frameMark k ≤ BitVec.toNat s.dev.tk.time + 184000 + 4000 * ((s.dev.regionsIn k RegPower.gated).length - 1)) ∧
    (∃ (s : State) (k : Nat), (s.dev.running k = false ∨ BitVec.toNat s.dev.tk.time + 184000 + 4000 * ((s.dev.regionsIn k RegPower.gated).length - 1) < s.dev.frameMark k)) ∧
    (∃ (s : State) (k : Nat) (t : Nat), k < 8 ∧ (s.dev.part k).run.resetEnd = some t ∧ t + ms 1 ≤ s.dev.clk.now ∧ (s.dev.part k).run.phase ≠ RunPhase.starting ∧ (s.dev.part k).run.phase ≠ RunPhase.running) ∧
    (∃ (s : State) (k : Nat) (t : Nat), (s.dev.part k).run.resetEnd = some t ∧ s.dev.clk.now < t + ms 1) :=
  ⟨⟨{ dev := ((inPhase .running (imaged { frame := true } Device.reset)).updRegion 0 fun r => { r with power := .gated }).updClk fun c => { c with lapCyc := 65000 } }, 0, { frame := true, tiles := [(0, 0)], pacers := [(0, 0)] }, by decide +kernel⟩,
   ⟨State.reset, 0, by decide +kernel⟩,
   ⟨dv (fun d => { d.updRun 7 (fun r => { r with resetEnd := some 5 }) with clk := { d.clk with now := 5 + ms 1 } }), 7, 5, by decide +kernel⟩,
   ⟨dv (fun d => d.updRun 7 fun r => { r with resetEnd := some 5 }), 7, 5, by decide +kernel⟩⟩
end

