-- ==== Sys2Proof/Tests/Witness3.lean ====
section
/-! SUPPORT. The statements on pacers, tiles, engines, DRAM and ports speak of states that there are. -/

open Sys2Proof Sys2Proof.Machine

set_option Elab.async false

/-- A pacer that nothing has stopped. -/
theorem not_stopped {x : Option (Nat × PState)} {c : Nat} (h : x.isSome = false) : ∀ st, x ≠ some (c, st) := by
  intro st e
  rw [e] at h
  cases h

theorem witness_StridesIssue :
    (∃ (d : Device) (p : Nat) (op : Nat) (c : Nat) (ok : Nat → Bool), d.flt.upsets = [] ∧ d.pacerCyc p = some c ∧ (d.pacer p).canIssue c = true ∧ (d.pacer p).nextStride.op = op ∧ ok (d.pacer p).nextStride.opnd = true) ∧
    (∃ (d : Device) (p : Nat) (op : Nat) (n : Nat) (c : Nat) (ok : Nat → Bool) (o : Outst), n ≠ 0 ∧ d.pacerCyc p = some c ∧ (d.pacer p).outst = [o] ∧ o.op = op ∧ o.next = n ∧ ok (BitVec.toNat o.opnd) = true ∧ o.issued + n * gapOf op (BitVec.toNat o.opnd) = c) ∧
    (∃ (s : State) (p : Nat) (n : Nat) (c : Instr), s.dev.pacerCyc p = none ∧ c ∈ pacerCommands p n) ∧
    (∃ (s : State) (p : Nat), (Device.asMet p s.dev).pacerCyc p = none) :=
  ⟨⟨issuing 0 0 0, 0, 0, 0, anyOpnd, by decide +kernel⟩,
   ⟨((issuing 0 0 0).updPacer 0 fun x => { x with outst := [{ op := 0x10, opnd := BitVec.ofNat 64 (2 ^ 26), next := 1 }] }).updClk fun c => { c with lapCyc := 1 }, 0, 0x10, 1, 1, anyOpnd, { op := 0x10, opnd := BitVec.ofNat 64 (2 ^ 26), next := 1 }, by decide +kernel⟩,
   ⟨{ dev := ((issuing 0 0 0).updRun 0 fun r => { r with hold := some {} }).updClk fun c => { c with lapCyc := 1000 } }, 0, 5, .halt 0, by decide +kernel⟩,
   ⟨{ dev := ((issuing 0 0 0).updRun 0 fun r => { r with hold := some {} }).updClk fun c => { c with lapCyc := 1000 } }, 0, by decide +kernel⟩⟩

theorem witness_PacerSetup :
    (∃ (s : State) (p : Nat) (o : Nat) (cfg : Cfg) (d1 : Device), Issues s.dev p 0 0 anyOpnd o cfg d1) ∧
    (∃ (s : State) (p : Nat) (o : Nat) (c : Nat) (cfg : Cfg) (d1 : Device), s.dev.flt.upsets = [] ∧ Issues s.dev p 1 0 anyOpnd o cfg d1 ∧ d1.pacerCyc p = some c) ∧
    (∃ (s : State) (p : Nat) (o : Nat) (c : Nat) (cfg : Cfg) (d1 : Device), Issues s.dev p 2 0 anyOpnd o cfg d1 ∧ d1.pacerCyc p = some c) ∧
    (∃ (s : State) (p : Nat) (o : Nat) (cfg : Cfg) (d1 : Device), Issues s.dev p 3 0 anyOpnd o cfg d1) ∧
    (∃ (s : State) (p : Nat) (o : Nat) (cfg : Cfg) (d1 : Device), Issues s.dev p 4 0 anyOpnd o cfg d1) ∧
    (∃ (s : State) (p : Nat) (o : Nat) (cfg : Cfg) (d1 : Device), Issues s.dev p 6 0 anyOpnd o cfg d1) :=
  ⟨⟨{ dev := issuing 0 0 0 }, 0, _, _, _, issued (by decide +kernel)⟩,
   ⟨{ dev := issuing 207 1 0 }, 207, _, 0, _, _, ⟨by decide +kernel, issued (by decide +kernel), by decide +kernel⟩⟩,
   ⟨{ dev := issuing 0 2 0 }, 0, _, 0, _, _, ⟨issued (by decide +kernel), by decide +kernel⟩⟩,
   ⟨{ dev := issuing 0 3 0 }, 0, _, _, _, issued (by decide +kernel)⟩,
   ⟨{ dev := issuing 0 4 0 }, 0, _, _, _, issued (by decide +kernel)⟩,
   ⟨{ dev := issuing 409 6 0 }, 409, _, _, _, issued (by decide +kernel)⟩⟩

theorem witness_PacerFlow :
    (∃ (s : State) (p : Nat) (o : Nat) (cfg : Cfg) (d1 : Device), (s.dev.pacer p).ready = true ∧ (s.dev.pacer p).readyCyc < s.dev.cyc ∧ Issues s.dev p 5 0 anyOpnd o cfg d1) ∧
    (∃ (s : State) (p : Nat), ((s.dev.pacer p).ready = false ∨ s.dev.cyc ≤ (s.dev.pacer p).readyCyc)) ∧
    (∃ (s : State) (p : Nat) (k : Nat) (o : Nat) (cfg : Cfg) (d1 : Device), Issues s.dev p 7 0 anyOpnd o cfg d1 ∧ d1.pacerPart p = some k) ∧
    (∃ (s : State) (p : Nat) (k : Nat) (o : Nat) (cfg : Cfg) (d1 : Device), s.dev.commitOf p = some k ∧ Issues s.dev p 8 0 anyOpnd o cfg d1) ∧
    (∃ (s : State) (p : Nat) (o : Nat) (cfg : Cfg) (d1 : Device), Issues s.dev p 9 0 anyOpnd o cfg d1) ∧
    (∃ (s : State) (p : Nat) (o : Nat) (c : Nat) (cfg : Cfg) (d1 : Device), (s.dev.commitOf p).isSome = true ∧ Issues s.dev p 10 0 anyOpnd o cfg d1 ∧ d1.pacerCyc p = some c) ∧
    (∃ (s : State) (p : Nat) (c : Nat) (ctr : Nat) (e0 : Nat), s.dev.pacerCyc p = some c ∧ lwDecode (s.dev.pacer p).nextStride.lw = Lw.loopBegin ctr false e0 ∧ (s.dev.pacer p).atStride = true ∧ (s.dev.pacer p).entered = false ∧ (s.dev.pacer p).dueAt = c) ∧
    (∃ (s : State) (p : Nat) (c : Nat) (i : Nat) (ctr : Nat) (b : Nat), s.dev.pacerCyc p = some c ∧ (s.dev.pacer p).pendingEnd = some i ∧ (s.dev.pacer p).loopOf i = some (ctr, false, b)) ∧
    (∃ (s : State) (p : Nat) (c : Nat) (cmp : Nat) (w : Nat), s.dev.pacerCyc p = some c ∧ lwDecode (s.dev.pacer p).nextStride.lw = Lw.wait cmp w ∧ (s.dev.pacer p).atStride = true ∧ (s.dev.pacer p).waitOk = none ∧ (s.dev.pacer p).dueAt ≤ c ∧ c ≤ (s.dev.pacer p).dueAt + w ∧ s.dev.waitTrue p c = true) ∧
    (∃ (s : State) (p : Nat) (c : Nat) (cmp : Nat) (w : Nat), s.dev.pacerCyc p = some c ∧ lwDecode (s.dev.pacer p).nextStride.lw = Lw.wait cmp w ∧ s.dev.waitTrue p c = false) :=
  ⟨⟨{ dev := (((issuing 0 0 0).updPacer 0 fun x => { x with ready := true, table := [(0, Stride.mk' 1 5 0 0 0)] }).updClk fun c => { c with lapCyc := 1 }) }, 0, _, _, _, ⟨by decide +kernel, by decide +kernel, issued (by decide +kernel)⟩⟩,
   ⟨State.reset, 0, by decide +kernel⟩,
   ⟨{ dev := issuing 0 7 0 }, 0, 0, _, _, _, ⟨issued (by decide +kernel), by decide +kernel⟩⟩,
   ⟨{ dev := issuing 0 8 0 }, 0, 0, _, _, _, ⟨by decide +kernel, issued (by decide +kernel)⟩⟩,
   ⟨{ dev := issuing 0 9 0 }, 0, _, _, _, issued (by decide +kernel)⟩,
   ⟨{ dev := issuing 0 10 0 }, 0, _, 0, _, _, ⟨by decide +kernel, issued (by decide +kernel), by decide +kernel⟩⟩,
   ⟨{ dev := issuing 0 0 0 (lw := 1) }, 0, 0, 0, 0, by decide +kernel⟩,
   ⟨{ dev := (issuing 0 0 0 (lw := 2)).updPacer 0 fun x => { x with pendingEnd := some 1, table := [(0, Stride.mk' 0 0 0 0 1), (1, Stride.mk' 1 0 0 0 2)] } }, 0, 0, 1, 0, 0, by decide +kernel⟩,
   ⟨{ dev := (issuing 0 0 0 (lw := 3)).updPacer 0 fun x => { x with cmps := [(0, { enable := true })] } }, 0, 0, 0, 0, by decide +kernel⟩,
   ⟨{ dev := issuing 0 0 0 (lw := 3) }, 0, 0, 0, 0, by decide +kernel⟩⟩

theorem witness_RunsEnd :
    (∃ (s : State) (p : Nat) (k : Nat) (c : Nat) (cause : Nat), s.dev.pacerCyc p = some c ∧ s.dev.windowMissed p c = some cause ∧ s.dev.pacerPart p = some k ∧ s.dev.running k = true ∧ s.dev.lockstep = false ∧ (s.dev.part k).run.hold = none ∧ (∀ (st : PState), (s.dev.pacer p).stopped ≠ some (s.dev.cyc, st))) ∧
    (∃ (s : State) (p : Nat) (k : Nat) (c : Nat) (cause : Nat) (h : Hold), s.dev.pacerPart p = some k ∧ s.dev.running k = true ∧ s.dev.lockstep = false ∧ (s.dev.part k).run.hold = some h ∧ Map.get 0 h.own (pacerRegion p) = s.dev.cyc ∧ s.dev.cyc ≠ 0 ∧ (Device.asMet p s.dev).pacerCyc p = some c ∧ (Device.asMet p s.dev).windowMissed p c = some cause) ∧
    (∃ (s : State) (p : Nat) (k : Nat) (c : Nat) (cause : Nat), s.dev.pacerCyc p = some c ∧ s.dev.windowMissed p c = some cause ∧ s.dev.pacerPart p = some k ∧ s.dev.lockstep = true ∧ (s.dev.part k).run.action = none ∧ (s.dev.part k).run.phase = RunPhase.running ∧ (s.dev.part k).run.hold = none ∧ (∀ (st : PState), (s.dev.pacer p).stopped ≠ some (s.dev.cyc, st))) ∧
    (∃ (s : State) (k : Nat) (tc : Nat) (im : Image), (s.dev.part k).image = some im ∧ s.dev.running k = true ∧ (s.dev.pacer im.commitPacer).commitCyc = some tc ∧ s.dev.pacerCyc im.commitPacer = some tc ∧ (s.dev.pacer im.commitPacer).state = PState.draining ∧ s.dev.othersDone k = true) ∧
    (∃ (d : Device) (k : Nat) (at_ : Nat) (sp : W64) (b : W32) (im : Image), (d.part k).image = some im ∧ (d.part k).run.commit = some (at_, sp, b) ∧ (d.part k).shadow.role = 0 ∧ im.serving = false ∧ d.flt.upsets = []) ∧
    (∃ (s : State) (p : Nat) (k : Nat), isPacer p = true ∧ s.dev.commitOf p = some k ∧ (s.dev.part k).run.phase = RunPhase.running) ∧
    (∃ (s : State) (p : Nat) (k : Nat), isPacer p = true ∧ s.dev.commitOf p = some k ∧ (s.dev.part k).run.phase ≠ RunPhase.running ∧ (s.dev.part k).run.phase ≠ RunPhase.aborted) ∧
    (∃ (s : State) (p : Nat), isPacer p = true ∧ s.dev.commitOf p = none) ∧
    (∃ (s : State) (k : Nat) (a : AbortReq), (s.dev.part k).run.phase = RunPhase.aborted ∧ (s.dev.part k).run.abort = some a ∧ a.written = false ∧ s.dev.flt.upsets = [] ∧ (s.dev.part k).run.heat = false ∧ (∀ (im : Image), (s.dev.part k).image = some im → im.serving = false)) ∧
    (∃ (s : State) (k : Nat) (a : AbortReq), (s.dev.part k).run.abort = some a ∧ a.written = true) :=
  ⟨⟨{ dev := ((issuing 0 0 0 (lw := 3)).updPacer 0 fun x => { x with lapsed := true }).updClk fun c => { c with lapCyc := 1 } }, 0, 0, 1, 1, ⟨by decide +kernel, by decide +kernel, by decide +kernel, by decide +kernel, by decide +kernel, by decide +kernel, not_stopped (by decide +kernel)⟩⟩,
   ⟨{ dev := (((issuing 0 0 0 (lw := 3)).updPacer 0 fun x => { x with lapsed := true }).updClk fun c => { c with lapCyc := 1 }).updRun 0 fun r => { r with hold := some { fMin := 1, own := [(0, 1)] } } }, 0, 0, 1, 1, { fMin := 1, own := [(0, 1)] }, by decide +kernel⟩,
   ⟨{ dev := (((issuing 0 0 0 (lw := 3)).updPacer 0 fun x => { x with lapsed := true }).updClk fun c => { c with lapCyc := 1 }).updMb fun m => { m with devMode := some false } }, 0, 0, 1, 1, ⟨by decide +kernel, by decide +kernel, by decide +kernel, by decide +kernel, by decide +kernel, by decide +kernel, by decide +kernel, not_stopped (by decide +kernel)⟩⟩,
   ⟨{ dev := (issuing 0 0 0).updPacer 0 fun x => { x with state := .draining, commitCyc := some 0 } }, 0, 0, { pacers := [(0, 0)] }, by decide +kernel⟩,
   ⟨(imaged {} Device.reset).updRun 0 (fun r => { r with commit := some (0, 0, 0) }), 0, 0, 0, 0, { tiles := [(0, 0)], pacers := [(0, 0)] }, by decide +kernel⟩,
   ⟨{ dev := issuing 0 0 0 }, 0, 0, by decide +kernel⟩,
   ⟨{ dev := (issuing 0 0 0).updRun 0 fun r => { r with phase := .loaded } }, 0, 0, by decide +kernel⟩,
   ⟨State.reset, 409, by decide +kernel⟩,
   ⟨dv (fun d => d.updRun 7 fun r => { r with phase := .aborted, abort := some {} }), 7, {}, ⟨by decide +kernel, by decide +kernel, by decide +kernel, by decide +kernel, by decide +kernel, fun im h => by simp [dv, Device.reset, Device.part, Device.updRun, Device.updPart] at h⟩⟩,
   ⟨dv (fun d => d.updRun 7 fun r => { r with abort := some { written := true } }), 7, { written := true }, by decide +kernel⟩⟩

theorem witness_VectorOperations :
    (∃ (p : Nat) (s : State) (o : Nat) (c : Nat) (cfg : Cfg) (d2 : Device), TileIssues s.dev p 22 0 (fun o => (vopFields o).subop == 9) o cfg c d2 ∧ PortFree d2 p 34 c ∧ RegisterFree d2 p (c + 3) 0 (vopFields o).vd) ∧
    (∃ (p : Nat) (s : State) (o : Nat) (c : Nat) (cfg : Cfg) (d2 : Device), TileIssues s.dev p 22 0 (fun o => (vopFields o).subop == 10) o cfg c d2 ∧ PortFree d2 p 34 c ∧ RegisterFree d2 p (c + 6) 0 (vopFields o).vd ∧ RegisterFree d2 p (c + 6) 0 (vopFields o).vd2) ∧
    (∃ (p : Nat) (s : State) (fn : Nat) (o : Nat) (c : Nat) (cfg : Cfg) (d2 : Device), fn < 4 ∧ TileIssues s.dev p 23 0 (fun o => (vsfuFields o).fn == fn) o cfg c d2 ∧ PortFree d2 p 35 c ∧ (RegisterFree d2 p (c + ((if d2.fuses.stepB0 = true then 12 else 14) + (d2.tile p).sfuPad)) 1 (vsfuFields o).vd)) ∧
    (∃ (p : Nat) (s : State) (o : Nat) (c : Nat) (cfg : Cfg) (d2 : Device), TileIssues s.dev p 22 0 (fun o => (vopFields o).subop == 0) o cfg c d2 ∧ List.find? (fun u => u.fst == 34) ((d2.tile p).used c) = some (34, 0) ∧ (d2.tile p).owner = 0) :=
  ⟨⟨0, { dev := issuing 0 22 9 }, _, _, _, _, ⟨tileIssued (by decide) (by decide +kernel), by unfold PortFree; decide +kernel, registerFree_of (by decide +kernel)⟩⟩,
   ⟨207, { dev := issuing 207 22 (10 + 2 ^ 24) }, _, _, _, _, ⟨tileIssued (by decide) (by decide +kernel), by unfold PortFree; decide +kernel, registerFree_of (by decide +kernel), registerFree_of (by decide +kernel)⟩⟩,
   ⟨0, { dev := issuing 0 23 3 }, 3, _, _, _, _, ⟨by decide, tileIssued (by decide) (by decide +kernel), by unfold PortFree; decide +kernel, registerFree_of (by decide +kernel)⟩⟩,
   ⟨0, { dev := ((issuing 0 22 0).setOwner 0 0).updTile 0 fun t => { t with uses := [(34, 0)] } }, _, _, _, _, ⟨tileIssued (by decide) (by decide +kernel), by decide +kernel, by decide +kernel⟩⟩⟩

theorem witness_ResultsLandOnTime :
    (∃ (d : Device) (t : Nat) (c : Nat) (r : Nat) (fmt : Nat) (m : Nat) (w : TPend) (ls : List (Nat × Line)) (xs : List Line) (sc : List Nat), (d.tile t).pend = [w] ∧ w.w = TWrite.load r fmt m ls sc ∧ r < 32 ∧ w.due ≤ c ∧ expectLines (fmtLines fmt) m ls = List.map some xs) ∧
    (∃ (d : Device) (t : Nat) (c : Nat) (r : Nat) (fmt : Nat) (m : Nat) (w : TPend) (ls : List (Nat × Line)) (xs : List Line) (sc : List Nat) (q : Nat), (d.tile t).pend = [w] ∧ w.w = TWrite.load r fmt m ls sc ∧ r < 32 ∧ w.due ≤ c ∧ expectLines (fmtLines fmt) m ls = List.map some xs ∧ q < 32 ∧ q ≠ r) ∧
    (∃ (d : Device) (t : Nat) (c : Nat) (r : Nat) (w : TPend) (xs : List W32), (d.tile t).pend = [w] ∧ w.w = TWrite.vreg r xs ∧ r < 32 ∧ xs.length = 128 ∧ w.due ≤ c) ∧
    (∃ (d : Device) (t : Nat) (c : Nat) (r : Nat) (w : TPend) (xs : List W32) (q : Nat), (d.tile t).pend = [w] ∧ w.w = TWrite.vreg r xs ∧ r < 32 ∧ xs.length = 128 ∧ w.due ≤ c ∧ q < 32 ∧ q ≠ r) ∧
    (∃ (d : Device) (t : Nat) (c : Nat) (r : Nat) (w : TPend) (xs : List W32), (d.tile t).pend = [w] ∧ w.w = TWrite.vreg r xs ∧ r < 32 ∧ xs.length = 128 ∧ c < w.due) :=
  ⟨⟨Device.reset.updTile 207 (fun t => { t with pend := [{ due := 3, w := .load 31 1 0x55 [(0, 1), (2, 5), (4, 7 * 2 ^ 500), (6, 9)] [] }] }), 207, 3, 31, 1, 0x55, { due := 3, w := .load 31 1 0x55 [(0, 1), (2, 5), (4, 7 * 2 ^ 500), (6, 9)] [] }, [(0, 1), (2, 5), (4, 7 * 2 ^ 500), (6, 9)], [1, 5, 7 * 2 ^ 500, 9], [], by decide +kernel⟩,
   ⟨Device.reset.updTile 207 (fun t => { t with pend := [{ due := 3, w := .load 31 1 0x55 [(0, 1), (2, 5), (4, 7 * 2 ^ 500), (6, 9)] [] }] }), 207, 3, 31, 1, 0x55, { due := 3, w := .load 31 1 0x55 [(0, 1), (2, 5), (4, 7 * 2 ^ 500), (6, 9)] [] }, [(0, 1), (2, 5), (4, 7 * 2 ^ 500), (6, 9)], [1, 5, 7 * 2 ^ 500, 9], [], 30, by decide +kernel⟩,
   ⟨Device.reset.updTile 207 (fun t => { t with pend := [{ due := 3, w := .vreg 31 (List.replicate 128 1) }] }), 207, 3, 31, { due := 3, w := .vreg 31 (List.replicate 128 1) }, List.replicate 128 1, by decide +kernel⟩,
   ⟨Device.reset.updTile 207 (fun t => { t with pend := [{ due := 3, w := .vreg 31 (List.replicate 128 1) }] }), 207, 3, 31, { due := 3, w := .vreg 31 (List.replicate 128 1) }, List.replicate 128 1, 30, by decide +kernel⟩,
   ⟨Device.reset.updTile 207 (fun t => { t with pend := [{ due := 3, w := .vreg 31 (List.replicate 128 1) }] }), 207, 2, 31, { due := 3, w := .vreg 31 (List.replicate 128 1) }, List.replicate 128 1, by decide +kernel⟩⟩

theorem witness_ArrayOperations_1 :
    (∃ (s : State) (p : Nat) (n : Nat) (o : Nat) (c : Nat) (cfg : Cfg) (d2 : Device) (d3 : Device) (ls : List (Nat × Line)), TileIssues s.dev p 16 n anyOpnd o cfg c d2 ∧ Device.readBeats p c cfg (maskList 8 (rdbFields o).chmask) d2 = (ls, d3) ∧ ((rdbFields o).dest = 0 ∨ (rdbFields o).dest = 3)) :=
  ⟨{ dev := issuing 0 16 1 }, 0, 0, _, _, _, _, _, _, ⟨tileIssued (by decide) (by decide +kernel), pair_eq rfl, by decide +kernel⟩⟩

theorem witness_ArrayOperations_2 :
    (∃ (s : State) (p : Nat) (n : Nat) (o : Nat) (c : Nat) (cfg : Cfg) (d2 : Device) (d3 : Device) (ls : List (Nat × Line)) (x : Nat × Line), TileIssues s.dev p 16 n anyOpnd o cfg c d2 ∧ Device.readBeats p c cfg (maskList 8 (rdbFields o).chmask) d2 = (ls, d3) ∧ (rdbFields o).dest = 1 ∧ ls = [x]) :=
  ⟨{ dev := issuing 0 16 (1 + 1 * 2 ^ 8) }, 0, 0, _, _, _, _, _, [(0, 0)], (0, 0), ⟨tileIssued (by decide) (by decide +kernel), pair_eq (by decide +kernel), by decide +kernel, rfl⟩⟩

theorem witness_ArrayOperations_3 :
    (∃ (s : State) (p : Nat) (n : Nat) (o : Nat) (c : Nat) (cfg : Cfg) (d2 : Device) (d3 : Device) (ls : List (Nat × Line)), TileIssues s.dev p 16 n anyOpnd o cfg c d2 ∧ Device.readBeats p c cfg (maskList 8 (rdbFields o).chmask) d2 = (ls, d3) ∧ (rdbFields o).dest = 2 ∧ ls = [] ∧ fmtMx (rdbFields o).fmt = false) :=
  ⟨{ dev := issuing 0 16 (2 * 2 ^ 8) }, 0, 0, _, _, _, _, _, _, ⟨tileIssued (by decide) (by decide +kernel), pair_eq rfl, by decide +kernel, by decide +kernel, by decide +kernel⟩⟩

theorem witness_ArrayOperations_4 :
    (∃ (s : State) (p : Nat) (n : Nat) (o : Nat) (c : Nat) (cfg : Cfg) (d2 : Device) (d3 : Device) (ls : List (Nat × Line)), TileIssues s.dev p 16 n anyOpnd o cfg c d2 ∧ Device.readBeats p c cfg (maskList 8 (rdbFields o).chmask) d2 = (ls, d3) ∧ (rdbFields o).dest = 2 ∧ ls ≠ [] ∧ fmtMx (rdbFields o).fmt = false ∧ RegisterFree d3 p (c + 7) 2 (((rdbFields o).vreg + n) % 32)) :=
  ⟨{ dev := issuing 0 16 (3 + 2 * 2 ^ 8) }, 0, 0, _, _, _, _, _, _, ⟨tileIssued (by decide) (by decide +kernel), pair_eq rfl, by decide +kernel, by decide +kernel, by decide +kernel, registerFree_of (by decide +kernel)⟩⟩

theorem witness_ArrayOperations_5 :
    (∃ (s : State) (p : Nat) (n : Nat) (o : Nat) (c : Nat) (cfg : Cfg) (d2 : Device), TileIssues s.dev p 17 n anyOpnd o cfg c d2 ∧ (wrbFields o).src = 1) :=
  ⟨{ dev := issuing 0 17 4 }, 0, 0, _, _, _, _, ⟨tileIssued (by decide) (by decide +kernel), by decide +kernel⟩⟩

theorem witness_ArrayOperations_6 :
    (∃ (s : State) (p : Nat) (n : Nat) (o : Nat) (c : Nat) (cfg : Cfg) (d2 : Device), TileIssues s.dev p 18 n anyOpnd o cfg c d2 ∧ PortFree d2 p 32 c ∧ PortFree d2 p (64 + (passPlace (passFields o) n).snd.snd) c ∧ (d2.tile p).computeBank (passFields o).bank c = true ∧ d2.flt.upsets = []) :=
  ⟨{ dev := (issuing 0 18 0).updTile 0 fun t => { t with compute := 1 } }, 0, 0, _, _, _, _, ⟨tileIssued (by decide) (by decide +kernel), by unfold PortFree; decide +kernel, by unfold PortFree; decide +kernel, by decide +kernel, by decide +kernel⟩⟩

theorem witness_ArrayOperations_7 :
    (∃ (s : State) (p : Nat) (o : Nat) (c : Nat) (cfg : Cfg) (d2 : Device), TileIssues s.dev p 19 0 anyOpnd o cfg c d2) :=
  ⟨{ dev := issuing 0 19 0 }, 0, _, _, _, _, tileIssued (by decide) (by decide +kernel)⟩

theorem witness_ArrayOperations_8 :
    (∃ (s : State) (p : Nat) (o : Nat) (c : Nat) (cfg : Cfg) (d2 : Device), TileIssues s.dev p 20 0 anyOpnd o cfg c d2 ∧ PortFree d2 p 33 c ∧ PortFree d2 p (64 + (readoutFields o).row) c ∧ (readoutFields o).toCh = false ∧ (∀ (a : Acc), a ∈ (d2.tile p).rowAccs (readoutFields o).row → a.bf = true ∨ a.n ≤ 32768 ∧ (cfg.sfmt = 1 → (readoutFields o).fmt = 0 → a.n = 0)) ∧ (∀ (q : TPend), q ∈ (d2.tile p).pend → q.due ≠ c + 4)) :=
  ⟨{ dev := issuing 0 20 0 }, 0, _, _, _, _, ⟨tileIssued (by decide) (by decide +kernel), by unfold PortFree; decide +kernel, by unfold PortFree; decide +kernel, by decide +kernel, by decide +kernel, by decide +kernel⟩⟩

theorem witness_ArrayOperations_9 :
    (∃ (s : State) (p : Nat) (o : Nat) (c : Nat) (cfg : Cfg) (d2 : Device) (ls : List Line), TileIssues s.dev p 21 0 anyOpnd o cfg c d2 ∧ ls = List.filterMap (fun ch => Option.map (fun x => x.data) (List.find? (fun a => a.due == c - 1 && a.ch == ch && a.ladd) (d2.tile p).arr)) (List.range 8) ++ List.filterMap (fun ch => Option.map (fun x => x.data) (List.find? (fun a => a.due == c && a.ch == ch && a.ladd) (d2.tile p).arr)) (List.range 8) ∧ ls.length = 10 ∧ d2.openSum p = false) :=
  ⟨{ dev := ((issuing 0 0 0).updPacer 0 fun x => { x with table := [(0, Stride.mk' 1 21 0 0 0)] }).updClk (fun c => { c with lapCyc := 1 }) |>.updTile 0 fun t => { t with arr := (List.range 8).map (fun i => { due := 0, ch := i, ladd := true, data := 1 }) ++ [{ due := 1, ch := 0, ladd := true, data := 2 }, { due := 1, ch := 1, ladd := true, data := 2 }] } }, 0, _, _, _, _, _, ⟨tileIssued (by decide) (by decide +kernel), rfl, by decide +kernel, by decide +kernel⟩⟩

theorem witness_ArrayOperations_pass_value :
    ∃ (s : State) (p n o c : Nat) (cfg : Cfg) (d2 : Device) (xs : List Line) (blk col : Nat),
      TileIssues s.dev p 18 n anyOpnd o cfg c d2 ∧ PortFree d2 p 32 c ∧
      PortFree d2 p (64 + (passPlace (passFields o) n).2.2) c ∧ (d2.tile p).computeBank (passFields o).bank c = true ∧
      d2.flt.upsets = [] ∧
      expectLines (passLines cfg) (passFields o).chmask ((d2.tile p).streamed (passFields o).chmask c) = xs.map some ∧ xs ≠ [] ∧
      fmtMx cfg.sfmt = false ∧
      fmtMx cfg.rfmt = false ∧ cfg.sfmt ≠ 1 ∧ col < 64 ∧
      wordsNat (d2.readTileWords p (Cfg.bib cfg) (blockWords (passFields o) cfg n)).1 = blk :=
  ⟨{ dev := (issuing 0 18 (3 * 2 ^ 47) 0 (BitVec.ofNat 2048 (0x77 * 2 ^ 128))).updTile 0 fun t =>
      { t with compute := 1, arr := [{ due := 0, ch := 0, data := 1 }, { due := 0, ch := 1, data := 9 }] } }, 0, 0, _, _, _, _, [1, 9], _, 0,
    tileIssued (by decide) (by decide +kernel), by unfold PortFree; decide +kernel, by unfold PortFree; decide +kernel,
    by decide +kernel, by decide +kernel, by decide +kernel, by decide, by decide +kernel, by decide +kernel,
    by decide +kernel, by decide, rfl⟩

theorem witness_AccumulationIsExact :
    (∃ (xs : List (Int × Contrib)) (ys : List (Int × Contrib)), xs.Perm ys) ∧
    (∃ (cfg : Cfg) (ws : List Nat) (ss : List Nat), cfg.sfmt = 7 ∧ cfg.rfmt = 7 ∧ ws.length = ss.length ∧ (∀ (w : Nat), w ∈ ws → w < 256) ∧ (∀ (x : Nat), x ∈ ss → x < 256)) ∧
    (∃ (cfg : Cfg), fmtMx cfg.sfmt = false ∧ fmtMx cfg.rfmt = false) ∧
    (∃ (cfg : Cfg) (ws : List FV) (ss : List FV), fmtMx cfg.sfmt = false ∧ fmtMx cfg.rfmt = false ∧ ws.length = ss.length) ∧
    (∃ (cfg : Cfg) (ws : List FV) (vs : List FV) (ss : List FV) (k : Nat), (fmtMx cfg.sfmt = true ∨ fmtMx cfg.rfmt = true) ∧ ws.length = 32 * k ∧ ss.length = 32 * k ∧ vs.length + 32 * k ≤ 256) :=
  ⟨⟨[(1, { b := 3 }), (2, { b := 5 })], [(2, { b := 5 }), (1, { b := 3 })], List.Perm.swap _ _ _⟩,
   ⟨BitVec.ofNat 2048 (0x77 * 2 ^ 128), [255], [0], by decide +kernel⟩,
   ⟨0, by decide +kernel⟩,
   ⟨0, [.nan], [.nan], by decide +kernel⟩,
   ⟨BitVec.ofNat 2048 (0x99 * 2 ^ 128), List.replicate 32 .nan, [.nan], List.replicate 32 .nan, 1, by decide +kernel⟩⟩

theorem witness_MissingInputHolds :
    (∃ (s : State) (p : Nat) (k : Nat) (n : Nat) (op : Nat) (o : Nat) (ok : Nat → Bool) (cfg : Cfg) (d1 : Device) (c : Instr), (c = Instr.qload p n ∧ op = 32 ∧ 256 ≤ p ∧ p < 280 ∧ ok = anyOpnd ∨ (c = Instr.dwrPattern p n ∧ op = 41 ∧ 320 ≤ p ∧ p < 344 ∧ ok = fun o => (dramFields o).asrc == 0) ∨ c = Instr.dwrAppend p n ∧ op = 41 ∧ 320 ≤ p ∧ p < 344 ∧ ok = fun o => (dramFields o).asrc == 1) ∧ Issues s.dev p op n ok o cfg d1 ∧ Device.ingressHead p s.dev = none ∧ s.dev.pacerPart p = some k ∧ s.dev.running k = true ∧ s.dev.lockstep = false ∧ (s.dev.part k).run.hold = none) ∧
    (∃ (s : State) (p : Nat) (k : Nat) (o : Nat) (cfg : Cfg) (d1 : Device) (sc : Scan), 256 ≤ p ∧ p < 280 ∧ Issues s.dev p 34 0 anyOpnd o cfg d1 ∧ (s.dev.bme (p - 256)).scan = some sc ∧ sc.page = none ∧ sc.fetched = false ∧ s.dev.pacerPart p = some k ∧ s.dev.running k = true ∧ s.dev.lockstep = false ∧ (s.dev.part k).run.hold = none) :=
  ⟨⟨{ dev := issuing 279 32 0 }, 279, 0, 0, 32, _, anyOpnd, _, _, .qload 279 0, ⟨.inl ⟨rfl, rfl, by decide, by decide, rfl⟩, issued (by decide +kernel), by decide +kernel, by decide +kernel, by decide +kernel, by decide +kernel, by decide +kernel⟩⟩,
   ⟨{ dev := (issuing 256 34 0).updBme 0 fun b => { b with scan := some {} } }, 256, 0, _, _, _, {}, ⟨by decide, by decide, issued (by decide +kernel), by decide +kernel, rfl, rfl, by decide +kernel, by decide +kernel, by decide +kernel, by decide +kernel⟩⟩⟩

theorem witness_EngineOperations :
    (∃ (s : State) (p : Nat) (n : Nat) (o : Nat) (cfg : Cfg) (d1 : Device) (x : BitVec 1024), 256 ≤ p ∧ p < 280 ∧ Issues s.dev p 32 n anyOpnd o cfg d1 ∧ Device.ingressHead p s.dev = some x) ∧
    (∃ (s : State) (p : Nat) (o : Nat) (cfg : Cfg) (d1 : Device), 256 ≤ p ∧ p < 280 ∧ Issues s.dev p 33 0 anyOpnd o cfg d1 ∧ s.dev.flt.upsets = []) ∧
    (∃ (s : State) (p : Nat) (o : Nat) (cfg : Cfg) (d1 : Device) (sc : Scan) (x : PageEntry), 256 ≤ p ∧ p < 280 ∧ Issues s.dev p 34 0 anyOpnd o cfg d1 ∧ s.dev.flt.upsets = [] ∧ (s.dev.bme (p - 256)).scan = some sc ∧ sc.page = none ∧ sc.fetched = true ∧ sc.entries[sc.cursor]? = some x ∧ sc.live x = true ∧ (∀ (l : Nat), ((Scan.keyLines { sc with cfg := cfg }) x).head? = some l → ((s.dev.bme (p - 256)).line s.dev.cyc l).isSome = true)) ∧
    (∃ (s : State) (p : Nat) (o : Nat) (cfg : Cfg) (d1 : Device) (sc : Scan) (x : PageEntry), 256 ≤ p ∧ p < 280 ∧ Issues s.dev p 34 0 anyOpnd o cfg d1 ∧ s.dev.flt.upsets = [] ∧ (s.dev.bme (p - 256)).scan = some sc ∧ sc.page = none ∧ sc.fetched = true ∧ sc.entries[sc.cursor]? = some x ∧ x.bad = true) ∧
    (∃ (s : State) (p : Nat) (o : Nat) (cfg : Cfg) (d1 : Device), 256 ≤ p ∧ p < 280 ∧ Issues s.dev p 35 0 anyOpnd o cfg d1 ∧ s.dev.flt.upsets = [] ∧ ((s.dev.bme (p - 256)).scanOf (emitFields o).ts).overrun = false ∧ (routeFields (cfg.route p (emitFields o).route)).valid = true ∧ (nodeUnit (routeFields (cfg.route p (emitFields o).route)).x (routeFields (cfg.route p (emitFields o).route)).y).isSome = true) ∧
    (∃ (limit : Nat) (pos : Nat) (scores : List W32), scores.length ≤ 256 ∧ (∀ (t : Nat), t < scores.length → limit < 256 * pos + t)) :=
  ⟨⟨{ dev := withFlit 256 7 (issuing 256 32 0) }, 256, 0, _, _, _, 7, ⟨by decide, by decide, issued (by decide +kernel), by decide +kernel⟩⟩,
   ⟨{ dev := issuing 279 33 0 }, 279, _, _, _, ⟨by decide, by decide, issued (by decide +kernel), by decide +kernel⟩⟩,
   ⟨{ dev := ((issuing 256 0 0).updPacer 256 fun x => { x with table := [(0, Stride.mk' 1 34 0 0 0)] }).updClk (fun c => { c with lapCyc := 1 }) |>.updBme 0 fun b => { b with lines := [{}], scan := some { fetched := true, entry := { empty := false }, entries := [{ valid := 256 }] } } }, 256, _, _, _, { fetched := true, entry := { empty := false }, entries := [{ valid := 256 }] }, { valid := 256 }, ⟨by decide, by decide, issued (by decide +kernel), by decide +kernel, by decide +kernel, rfl, rfl, rfl, by decide +kernel, fun l hl => by
   rw [show (List.head? _ : Option Nat) = some 0 from by decide +kernel] at hl
   cases hl
   decide +kernel⟩⟩,
   ⟨{ dev := (issuing 256 34 0).updBme 0 fun b => { b with scan := some { fetched := true, entries := [{ bad := true }] } } }, 256, _, _, _, { fetched := true, entries := [{ bad := true }] }, { bad := true }, ⟨by decide, by decide, issued (by decide +kernel), by decide +kernel, by decide +kernel, rfl, rfl, rfl, rfl⟩⟩,
   ⟨{ dev := issuing 256 35 0 (cfg := BitVec.ofNat 2048 (2 ^ 200 * 2 ^ 200 * 2 ^ 200 * 2 ^ 200)) }, 256, _, _, _, ⟨by decide, by decide, issued (by decide +kernel), by decide +kernel, by decide +kernel, by decide +kernel, by decide +kernel⟩⟩,
   ⟨5, 1, [0, 0], by decide +kernel⟩⟩

theorem witness_PlannedAccesses :
    (∃ (s : State) (p : Nat) (n : Nat) (o : Nat) (cfg : Cfg) (d1 : Device) (l : Line), 320 ≤ p ∧ p < 344 ∧ Issues s.dev p 40 n (fun o => (dramFields o).asrc == 0) o cfg d1 ∧ (dramFields o).dest = 0 ∧ ReadsAs p (cfg.patBeat (dramFields o).pat (Map.get 0 (d1.chan (p - 320)).beats (dramFields o).pat)) l d1) ∧
    (∃ (s : State) (p : Nat) (n : Nat) (o : Nat) (i : Nat) (j : Nat) (cfg : Cfg) (d1 : Device) (l : Line) (m : Line), 320 ≤ p ∧ p < 344 ∧ Issues s.dev p 40 n (fun o => (dramFields o).asrc == 0) o cfg d1 ∧ (dramFields o).dest = 1 ∧ i = cfg.patBeat (dramFields o).pat (Map.get 0 (d1.chan (p - 320)).beats (dramFields o).pat) ∧ ReadsAs p i l d1 ∧ j = cfg.patBeat (dramFields o).pat (Map.get 0 (d1.chan (p - 320)).beats (dramFields o).pat + 1) ∧ ReadsAs p j m d1) ∧
    (∃ (s : State) (p : Nat) (n : Nat) (o : Nat) (i : Nat) (cfg : Cfg) (d1 : Device) (l : Line) (sc : Scan) (rest : List Nat), 320 ≤ p ∧ p < 344 ∧ Issues s.dev p 40 n (fun o => (dramFields o).asrc == 1) o cfg d1 ∧ (d1.bme (p - 320)).scan = some sc ∧ sc.wanted = i :: rest ∧ i ≠ noLine ∧ ReadsAs p i l d1) ∧
    (∃ (s : State) (p : Nat) (n : Nat) (o : Nat) (i : Nat) (cfg : Cfg) (d1 : Device) (sc : Scan) (rest : List Nat), 320 ≤ p ∧ p < 344 ∧ Issues s.dev p 40 n (fun o => (dramFields o).asrc == 1) o cfg d1 ∧ (d1.bme (p - 320)).scan = some sc ∧ sc.wanted = i :: rest ∧ i = noLine) ∧
    (∃ (s : State) (p : Nat) (n : Nat) (o : Nat) (i : Nat) (j : Nat) (k : Nat) (key : Nat) (cfg : Cfg) (d1 : Device) (x : BitVec 1024), 320 ≤ p ∧ p < 344 ∧ Issues s.dev p 41 n (fun o => (dramFields o).asrc == 0) o cfg d1 ∧ Device.ingressHead p s.dev = some x ∧ s.dev.flt.upsets = [] ∧ d1.pacerPart p = some k ∧ (d1.part k).key = some key ∧ i = cfg.patBeat (dramFields o).pat (Map.get 0 (d1.chan (p - 320)).beats (dramFields o).pat) ∧ j = cfg.patBeat (dramFields o).pat (Map.get 0 (d1.chan (p - 320)).beats (dramFields o).pat + 1) ∧ i ≠ j ∧ 64 * i < (d1.chan (p - 320)).area ∧ 64 * j < (d1.chan (p - 320)).area ∧ d1.imageLine (p - 320) i = false ∧ d1.imageLine (p - 320) j = false) ∧
    (∃ (s : State) (p : Nat) (o : Nat) (k : Nat) (s0 : Nat) (im : Image) (cfg : Cfg) (d1 : Device) (x : BitVec 1024), 320 ≤ p ∧ p < 344 ∧ Issues s.dev p 41 0 (fun o => (dramFields o).asrc == 1) o cfg d1 ∧ Device.ingressHead p s.dev = some x ∧ d1.pacerPart p = some k ∧ (d1.part k).image = some im ∧ (d1.part k).shadow.role ≠ 2 ∧ s0 = (List.find? (fun i => im.chans.getD i 99 == p - 320) (List.range im.chans.length)).getD 0 + (d1.part k).serving.nch * (Map.get 0 (d1.chan (p - 320)).cursors (dramFields o).pat / max (d1.part k).serving.npos 1) ∧ (im.slots ≤ s0 ∨ (Map.get { } (d1.bme (p - 320)).slots s0).empty = true)) ∧
    (∃ (s : State) (p : Nat) (o : Nat) (cfg : Cfg) (d1 : Device), 320 ≤ p ∧ p < 344 ∧ Issues s.dev p 42 0 anyOpnd o cfg d1) ∧
    (∃ (s : State) (c : Nat) (f : InFlight) (rest : List InFlight), c < 24 ∧ (s.dev.chan c).inFlight = f :: rest ∧ s.dev.deliverable c f = true ∧ f.bad = false ∧ f.bad2 = false ∧ f.toBme = true) ∧
    (∃ (s : State) (c : Nat) (f : InFlight) (rest : List InFlight), c < 24 ∧ (s.dev.chan c).inFlight = f :: rest ∧ s.dev.deliverable c f = true ∧ f.bad = false ∧ f.bad2 = false ∧ f.toBme = false ∧ (routeFields f.route).valid = true ∧ (nodeUnit (routeFields f.route).x (routeFields f.route).y).isSome = true) ∧
    (∃ (d : Device) (c : Nat) (n : Nat) (f : InFlight), (f.toBme = true ∧ n = d.cyc ∨ f.toBme = false ∧ d.pacerCyc (320 + c) = some n) ∧ f.late = false) ∧
    (∃ (d : Device) (c : Nat) (n : Nat) (f : InFlight), (f.toBme = true ∧ n = d.cyc ∨ f.toBme = false ∧ d.pacerCyc (320 + c) = some n) ∧ f.late = true) ∧
    (∃ (s : State) (c : Nat), (∀ (f : InFlight), f ∈ (s.dev.chan c).inFlight → s.dev.deliverable c f = false)) :=
  ⟨⟨{ dev := (issuing 320 40 0).updChan 0 fun c => { c with lines := [(0, some { key := 1, data := 9 })] } }, 320, 0, _, _, _, 9, ⟨by decide, by decide, issued (by decide +kernel), by decide +kernel, ⟨0, 1, by decide +kernel, by decide +kernel, by decide +kernel, by decide +kernel, by decide +kernel⟩⟩⟩,
   ⟨{ dev := (issuing 320 40 (2 ^ 5)).updChan 0 fun c => { c with lines := [(0, some { key := 1, data := 9 })] } }, 320, 0, _, 0, 0, _, _, 9, 9, ⟨by decide, by decide, issued (by decide +kernel), by decide +kernel, by decide +kernel, ⟨0, 1, by decide +kernel, by decide +kernel, by decide +kernel, by decide +kernel, by decide +kernel⟩, by decide +kernel, ⟨0, 1, by decide +kernel, by decide +kernel, by decide +kernel, by decide +kernel, by decide +kernel⟩⟩⟩,
   ⟨{ dev := ((issuing 320 40 8).updChan 0 fun c => { c with lines := [(0, some { key := 1, data := 9 })] }).updBme 0 fun b => { b with scan := some { wanted := [0] } } }, 320, 0, _, 0, _, _, 9, { wanted := [0] }, [], ⟨by decide, by decide, issued (by decide +kernel), by decide +kernel, rfl, by decide +kernel, ⟨0, 1, by decide +kernel, by decide +kernel, by decide +kernel, by decide +kernel, by decide +kernel⟩⟩⟩,
   ⟨{ dev := (issuing 343 40 8).updBme 23 fun b => { b with scan := some { wanted := [noLine] } } }, 343, 0, _, noLine, _, _, { wanted := [noLine] }, [], ⟨by decide, by decide, issued (by decide +kernel), by decide +kernel, rfl, rfl⟩⟩,
   ⟨{ dev := withFlit 320 7 (issuing 320 41 0 (cfg := BitVec.ofNat 2048 (2 ^ 192 + 2 ^ 224))) }, 320, 0, _, _, _, 0, 1, _, _, 7, ⟨by decide, by decide, issued (by decide +kernel), by decide +kernel, by decide +kernel, by decide +kernel, by decide +kernel, rfl, rfl, by decide +kernel, by decide +kernel, by decide +kernel, by decide +kernel, by decide +kernel⟩⟩,
   ⟨{ dev := withFlit 320 7 (issuing 320 41 8 (im := { chans := [0] })) }, 320, _, 0, 0, { chans := [0], pacers := [(320, 320)] }, _, _, 7, ⟨by decide, by decide, issued (by decide +kernel), by decide +kernel, by decide +kernel, by decide +kernel, by decide +kernel, by decide +kernel, by decide +kernel⟩⟩,
   ⟨{ dev := issuing 343 42 0 }, 343, _, _, _, ⟨by decide, by decide, issued (by decide +kernel)⟩⟩,
   ⟨dv (fun d => d.updChan 23 fun c => { c with inFlight := [{ toBme := true }] }), 23, { toBme := true }, [], by decide +kernel⟩,
   ⟨dv (fun d => d.updChan 23 fun c => { c with inFlight := [{ toBme := false, route := 1 }] }), 23, { toBme := false, route := 1 }, [], by decide +kernel⟩,
   ⟨Device.reset, 23, 0, { toBme := true, due := 5 }, by decide +kernel⟩,
   ⟨Device.reset, 23, 0, { toBme := true, due := 5, late := true }, by decide +kernel⟩,
   ⟨dv (fun d => d.updChan 0 fun c => { c with inFlight := [{ due := 1 }] }), 0, by decide +kernel⟩⟩

theorem witness_ChannelCare :
    (∃ (s : State) (c : Nat) (off : Nat) (key : Nat), c < 24 ∧ off < capBytes (s.dev.chan c).cap ∧ s.dev.chanKey c (off / 64) = some key ∧ s.dev.admitsLine c (off / 64) true = true ∧ s.dev.imageLine c (off / 64) = false ∧ (∀ (i : Nat), i < 8 → s.dev.upset (Site.arriving c (16 + i)) = none)) ∧
    (∃ (s : State) (c : Nat) (off : Nat), c < 24 ∧ capBytes (s.dev.chan c).cap ≤ off) ∧
    (∃ (s : State) (c : Nat) (off : Nat), capBytes (s.dev.chan c).cap ≤ off) ∧
    (∃ (s : State) (c : Nat) (off : Nat), off < capBytes (s.dev.chan c).cap ∧ s.dev.admitsLine c (off / 64) true = false) ∧
    (∃ (s : State) (c : Nat) (off : Nat), off < capBytes (s.dev.chan c).cap ∧ s.dev.admitsLine c (off / 64) false = false) ∧
    (∃ (s : State) (c : Nat) (off : Nat), c < 24 ∧ off < capBytes (s.dev.chan c).cap ∧ s.dev.admitsLine c (off / 64) false = true ∧ s.dev.upset (Site.dram c (off / 64)) = none) ∧
    (∃ (s : State) (c : Nat) (i : Nat), c < 24 ∧ (s.dev.chan c).state = ChState.available ∧ (s.dev.page (pgChan c)).quiesce = false ∧ s.dev.since (s.dev.chan c).scrubbedAt (us (s.dev.chan c).scrubPeriod) = true ∧ i = (s.dev.chan c).scrubAt % (capBytes (s.dev.chan c).cap / 64) ∧ s.dev.admitsLine c i false = true ∧ s.dev.upset (Site.dram c i) = none) ∧
    (∃ (s : State) (c : Nat) (i : Nat) (j : Nat) (u : Upset) (rs : List Nat), c < 24 ∧ (s.dev.chan c).state = ChState.available ∧ (s.dev.page (pgChan c)).quiesce = false ∧ s.dev.since (s.dev.chan c).scrubbedAt (us (s.dev.chan c).scrubPeriod) = true ∧ i = (s.dev.chan c).scrubAt % (capBytes (s.dev.chan c).cap / 64) ∧ s.dev.admitsLine c i false = true ∧ s.dev.upset (Site.dram c i) = some u ∧ burstDecode (List.map BitVec.toNat u.mask) (List.map BitVec.toNat u.outer) = Burst.corrected rs (some j) ∧ errLine rs = 0) ∧
    (∃ (s : State) (c : Nat), (s.dev.since (s.dev.chan c).scrubbedAt (us (s.dev.chan c).scrubPeriod) = false ∨ (s.dev.page (pgChan c)).quiesce = true)) ∧
    (∃ (s : State) (c : Nat), c < 24 ∧ (s.dev.chan c).state = ChState.available ∧ s.dev.since (s.dev.chan c).debtAt (s.dev.chan c).interval = true ∧ (s.dev.lockstepRun c = true ∨ (s.dev.chan c).debt + 1 < 3 ∨ s.dev.lockstep = true ∧ s.dev.planGap c = false)) ∧
    (∃ (s : State) (c : Nat), c < 24 ∧ (s.dev.chan c).state = ChState.available ∧ s.dev.since (s.dev.chan c).debtAt (s.dev.chan c).interval = true ∧ s.dev.lockstepRun c = false ∧ 2 ≤ (s.dev.chan c).debt ∧ (s.dev.lockstep = false ∨ s.dev.planGap c = true)) ∧
    (∃ (s : State) (c : Nat), ((s.dev.chan c).state ≠ ChState.available ∨ s.dev.since (s.dev.chan c).debtAt (s.dev.chan c).interval = false)) ∧
    (∃ (s : State) (c : Nat), c < 24 ∧ s.dev.lockstepRun c = false ∧ 1 ≤ (s.dev.chan c).debt ∧ s.dev.planGap c = true) ∧
    (∃ (s : State) (c : Nat), (s.dev.lockstepRun c = true ∨ s.dev.planGap c = false)) ∧
    (∃ (s : State) (c : Nat), c < 24 ∧ s.dev.since (s.dev.chan c).tempAt (us 1000) = true ∧ (s.dev.chan c).debt < 3) ∧
    (∃ (s : State) (c : Nat), s.dev.since (s.dev.chan c).tempAt (us 1000) = false) ∧
    (∃ (c : Nat), c < 24) :=
  ⟨⟨{ dev := assigned Device.reset }, 0, 63, 1, by decide +kernel⟩,
   ⟨State.reset, 23, 64000000000, by decide +kernel⟩,
   ⟨State.reset, 23, 64000000000, by decide +kernel⟩,
   ⟨dv (fun d => { d with st := { d.st with running := some { test := 8, target := 23 } } }), 23, 0, by decide +kernel⟩,
   ⟨dv (fun d => { d with st := { d.st with running := some { test := 8, target := 23 } } }), 23, 0, by decide +kernel⟩,
   ⟨State.reset, 23, 63999999999, by decide +kernel⟩,
   ⟨{ dev := (assigned Device.reset).updClk fun c => { c with now := us 65536 } }, 0, _, ⟨by decide, by decide +kernel, by decide +kernel, by decide +kernel, rfl, by decide +kernel, by decide +kernel⟩⟩,
   ⟨{ dev := ((assigned Device.reset).updFlt fun f => { f with upsets := [{ site := .dram 0 0, mask := [0xB000, 0, 0, 0, 0, 0, 0, 0], outer := List.replicate 8 0 }] }).updClk fun c => { c with now := us 65536 } }, 0, 0, 1, { site := .dram 0 0, mask := [0xB000, 0, 0, 0, 0, 0, 0, 0], outer := List.replicate 8 0 }, List.replicate 8 0, by decide +kernel⟩,
   ⟨State.reset, 0, by decide +kernel⟩,
   ⟨dv (fun d => (d.updChan 23 fun c => { c with state := .available }).updClk fun c => { c with now := us 65536 }), 23, by decide +kernel⟩,
   ⟨dv (fun d => (d.updChan 23 fun c => { c with state := .available, debt := 2 }).updClk fun c => { c with now := us 65536 }), 23, by decide +kernel⟩,
   ⟨State.reset, 23, by decide +kernel⟩,
   ⟨dv (fun d => d.updChan 23 fun c => { c with debt := 1 }), 23, by decide +kernel⟩,
   ⟨{ dev := (issuing 0 0 0).updMb fun m => { m with devMode := some false } }, 0, by decide +kernel⟩,
   ⟨dv (fun d => (d.updChan 23 fun c => { c with debt := 2 }).updClk fun c => { c with now := us 1000 }), 23, by decide +kernel⟩,
   ⟨State.reset, 23, by decide +kernel⟩,
   ⟨23, by decide +kernel⟩⟩

theorem witness_PortOperations :
    (∃ (s : State) (p : Nat) (n : Nat) (o : Nat) (cfg : Cfg) (d1 : Device) (x : BitVec 1024), isPortPacer p = true ∧ Issues s.dev p 48 n anyOpnd o cfg d1 ∧ Device.ingressHead p s.dev = some x ∧ n < (psendFields o).nflit) ∧
    (∃ (s : State) (p : Nat) (n : Nat) (o : Nat) (k : Nat) (cfg : Cfg) (d1 : Device) (x : BitVec 1024), isPortPacer p = true ∧ Issues s.dev p 48 n anyOpnd o cfg d1 ∧ Device.ingressHead p s.dev = some x ∧ n = (psendFields o).nflit ∧ d1.pacerPart p = some k ∧ (d1.part k).shadow.role ≠ 2 ∧ (cfg.peer (psendFields o).peer).valid = true ∧ d1.tr.myId ≠ 65535) ∧
    (∃ (s : State) (p : Nat) (n : Nat) (o : Nat) (k : Nat) (cfg : Cfg) (d1 : Device) (x : BitVec 1024), isPortPacer p = true ∧ Issues s.dev p 48 n anyOpnd o cfg d1 ∧ Device.ingressHead p s.dev = some x ∧ n = (psendFields o).nflit ∧ d1.pacerPart p = some k ∧ (d1.part k).shadow.role = 2) ∧
    (∃ (s : State) (p : Nat) (o : Nat) (cfg : Cfg) (d1 : Device), isPortPacer p = true ∧ Issues s.dev p 49 0 anyOpnd o cfg d1 ∧ ((s.dev.port (p - 384)).window s.dev.cyc (pdlvFields o).wslot).complete = true ∧ 128 * ((pdlvFields o).nflit + 1) ≤ ((s.dev.port (p - 384)).window s.dev.cyc (pdlvFields o).wslot).data.length ∧ (routeFields (cfg.route p (pdlvFields o).route)).valid = true ∧ (nodeUnit (routeFields (cfg.route p (pdlvFields o).route)).x (routeFields (cfg.route p (pdlvFields o).route)).y).isSome = true) ∧
    (∃ (s : State) (p : Nat) (o : Nat) (k : Nat) (cfg : Cfg) (d1 : Device), isPortPacer p = true ∧ Issues s.dev p 49 0 anyOpnd o cfg d1 ∧ ((s.dev.port (p - 384)).window s.dev.cyc (pdlvFields o).wslot).complete = false ∧ s.dev.pacerPart p = some k ∧ s.dev.running k = true ∧ s.dev.lockstep = false ∧ (s.dev.part k).run.hold = none) ∧
    (∃ (s : State) (p : Nat) (o : Nat) (k : Nat) (cfg : Cfg) (d1 : Device), isPortPacer p = true ∧ Issues s.dev p 50 0 anyOpnd o cfg d1 ∧ d1.pacerPart p = some k) ∧
    (∃ (s : State) (p : Nat) (o : Nat) (k : Nat) (cfg : Cfg) (d1 : Device) (d3 : Device), isPortPacer p = true ∧ Issues s.dev p 50 0 anyOpnd o cfg d1 ∧ d1.pacerPart p = some k ∧ qxferUnits d1 k o = ([], d3) ∧ ((qxferFields o).lcc = 63 → d3.servingPart k = false)) ∧
    (∃ (s : State) (p : Nat) (o : Nat) (k : Nat) (cfg : Cfg) (d1 : Device) (d3 : Device) (u : XUnit), isPortPacer p = true ∧ Issues s.dev p 50 0 anyOpnd o cfg d1 ∧ d1.pacerPart p = some k ∧ qxferUnits d1 k o = ([u], d3) ∧ (d3.part k).shadow.role ≠ 2 ∧ ((qxferFields o).lcc = 63 ∨ u.ackCc = 63 → d3.servingPart k = false) ∧ (d3.part k).qlists = [] ∧ u.dstId ≠ d3.tr.myId ∧ d3.routeOf u.dstId = RouteTo.none ∧ u.kind = UKind.get ∧ u.ackCc ≠ (qxferFields o).lcc) ∧
    (∃ (s : State) (i : Nat) (u : XUnit) (d2 : Device), isPort i = true ∧ u.planned = true ∧ u.kind = UKind.put ∧ s.dev.rxBad i u.cls u.bytes.length = none ∧ Device.forUs i u s.dev = true ∧ s.dev.stale u = false ∧ u.mir = false ∧ s.dev.pacerPart (384 + i) = some u.dstPart ∧ (s.dev.pacer (384 + i)).state ≠ PState.idle ∧ u.dstCc ≠ 63 ∧ ((s.dev.port i).window s.dev.cyc u.wslot).full = false ∧ d2 = Device.takeRx i u s.dev ∧ (d2.part u.dstPart).shadow.role ≠ 1) ∧
    (∃ (s : State) (i : Nat) (u : XUnit), isPort i = true ∧ u.planned = true ∧ u.kind = UKind.put ∧ s.dev.rxBad i u.cls u.bytes.length = none ∧ Device.forUs i u s.dev = false ∧ s.dev.stale u = false ∧ u.mir = false) ∧
    (∃ (s : State) (i : Nat) (u : XUnit), isPort i = true ∧ u.planned = true ∧ u.kind = UKind.put ∧ s.dev.rxBad i u.cls u.bytes.length = none ∧ s.dev.stale u = true) ∧
    (∃ (s : State) (i : Nat) (u : XUnit), isPort i = true ∧ u.planned = true ∧ u.kind = UKind.put ∧ s.dev.rxBad i u.cls u.bytes.length = none ∧ s.dev.stale u = false ∧ u.mir = true) ∧
    (∃ (s : State) (i : Nat) (u : XUnit), isPort i = true ∧ u.planned = true ∧ u.kind = UKind.put ∧ s.dev.rxBad i u.cls u.bytes.length = none ∧ Device.forUs i u s.dev = true ∧ s.dev.stale u = false ∧ u.mir = false ∧ s.dev.pacerPart (384 + i) = some u.dstPart ∧ (s.dev.pacer (384 + i)).state ≠ PState.idle ∧ u.dstCc = 63 ∧ s.dev.servingPart u.dstPart = true) ∧
    (∃ (s : State) (i : Nat) (u : XUnit), isPort i = true ∧ u.planned = true ∧ u.kind = UKind.put ∧ s.dev.rxBad i u.cls u.bytes.length = none ∧ Device.forUs i u s.dev = true ∧ s.dev.stale u = false ∧ u.mir = false ∧ u.dstCc ≠ 63 ∧ s.dev.pacerPart (384 + i) = some u.dstPart ∧ (s.dev.pacer (384 + i)).state ≠ PState.idle ∧ ((s.dev.port i).window s.dev.cyc u.wslot).full = true) ∧
    (∃ (s : State) (node : Nat) (p : Nat) (c : Nat) (f : Flit) (rest : List Flit), keyPacer node = some p ∧ s.dev.pacerCyc p = some c ∧ s.dev.net.flits = f :: rest ∧ f.node = node ∧ f.arrive ≤ s.dev.cyc ∧ f.due ≤ c ∧ f.flaws = []) ∧
    (∃ (s : State) (node : Nat) (p : Nat) (c : Nat) (f : Flit) (rest : List Flit), keyPacer node = some p ∧ s.dev.pacerCyc p = some c ∧ s.dev.net.flits = f :: rest ∧ f.node = node ∧ f.arrive ≤ s.dev.cyc ∧ f.due ≤ c ∧ flawDecode f.flaws = none ∧ 8 ≤ f.part) ∧
    (∃ (s : State) (node : Nat), (∀ (f : Flit), f ∈ s.dev.net.flits → f.node = node → s.dev.cyc < f.arrive)) :=
  ⟨⟨{ dev := withFlit 384 7 (issuing 384 48 1) }, 384, 0, _, _, _, 7, ⟨by decide, issued (by decide +kernel), by decide +kernel, by decide +kernel⟩⟩,
   ⟨{ dev := withFlit 409 7 (issuing 409 48 0 (cfg := BitVec.ofNat 2048 (2 ^ 147)) (d := up Device.reset)) }, 409, 0, _, 0, _, _, 7, ⟨by decide, issued (by decide +kernel), by decide +kernel, by decide +kernel, by decide +kernel, by decide +kernel, by decide +kernel, by decide +kernel⟩⟩,
   ⟨{ dev := (withFlit 409 7 (issuing 409 48 0 (d := up Device.reset))).updShadow 0 fun x => { x with role := 2 } }, 409, 0, _, 0, _, _, 7, ⟨by decide, issued (by decide +kernel), by decide +kernel, by decide +kernel, by decide +kernel, by decide +kernel⟩⟩,
   ⟨{ dev := (issuing 384 49 0 (cfg := BitVec.ofNat 2048 (2 ^ 200 * 2 ^ 200 * 2 ^ 240))).updPort 0 fun x => { x with windows := [(0, { complete := true, data := List.replicate 128 1 })] } }, 384, _, _, _, ⟨by decide, issued (by decide +kernel), by decide +kernel, by decide +kernel, by decide +kernel, by decide +kernel⟩⟩,
   ⟨{ dev := issuing 384 49 0 }, 384, _, 0, _, _, ⟨by decide, issued (by decide +kernel), by decide +kernel, by decide +kernel, by decide +kernel, by decide +kernel, by decide +kernel⟩⟩,
   ⟨{ dev := issuing 384 50 0 }, 384, _, 0, _, _, ⟨by decide, issued (by decide +kernel), by decide +kernel⟩⟩,
   ⟨{ dev := issuing 384 50 (63 * 2 ^ 54) }, 384, _, 0, _, _, _, ⟨by decide, issued (by decide +kernel), by decide +kernel, pair_eq (by decide +kernel), by decide +kernel⟩⟩,
   ⟨{ dev := (issuing 384 50 (2 ^ 54) (d := up Device.reset)).updChan 0 fun c => { c with lines := [(0, some { key := 1, data := BitVec.ofNat 512 ((8 + 2 ^ 20) * 2 ^ 128) })] } }, 384, _, 0, _, _, _, { kind := .get, len := 8 }, ⟨by decide, issued (by decide +kernel), by decide +kernel, pair_eq (by decide +kernel), by decide +kernel, by decide +kernel, by decide +kernel, by decide +kernel, by decide +kernel, rfl, by decide +kernel⟩⟩,
   ⟨{ dev := issuing 384 0 0 (d := up Device.reset) }, 0, { planned := true, kind := .put, dstId := 5 }, _, by
    refine ⟨by decide, ?_⟩
    repeat refine And.intro (by decide +kernel) ?_
    exact ⟨rfl, by decide +kernel⟩⟩,
   ⟨State.reset, 25, { planned := true, kind := .put, dstId := 5 }, by decide +kernel⟩,
   ⟨dv (fun d => { d with tk := { d.tk with time := 0x7F00000000 } }), 25, { planned := true, kind := .put, dstId := 5 }, by decide +kernel⟩,
   ⟨dv up, 0, { planned := true, kind := .put, mir := true, dstId := 5 }, by decide +kernel⟩,
   ⟨{ dev := issuing 384 0 0 (im := { serving := true }) (d := up Device.reset) }, 0, { planned := true, kind := .put, dstId := 5, dstCc := 63 }, by decide +kernel⟩,
   ⟨{ dev := (issuing 384 0 0 (d := up Device.reset)).updPort 0 fun x => { x with windows := [(0, { full := true })] } }, 0, { planned := true, kind := .put, dstId := 5 }, by decide +kernel⟩,
   ⟨{ dev := { issuing 0 0 0 with net := { flits := [{}] } } }, 0, 0, 0, {}, [], by decide +kernel⟩,
   ⟨{ dev := { issuing 0 0 0 with net := { flits := [{ flaws := [9 * 256], part := 8 }] } } }, 0, 0, 0, { flaws := [9 * 256], part := 8 }, [], by decide +kernel⟩,
   ⟨dv (fun d => { d with net := { d.net with flits := [{ arrive := 1 }] } }), 0, by decide +kernel⟩⟩

/-- Pacer 320 appends to slot 0, whose list names page 0 of the channel. -/
def appending : Device :=
  let d := issuing 320 0x29 8 (cfg := BitVec.ofNat 2048 (2 ^ 192 + 2 ^ 224)) (im := { chans := [0], slots := 1 })
  let d := d.updServing 0 fun s => { s with nch := 1, slotTab := [(0, { nin := 1 })] }
  (withFlit 320 7 d).updBme 0 fun b => { b with slots := [(0, { pages := 1, empty := false })] }

theorem witness_SlotAppendWrites :
    ∃ (s : State) (p o k key b : Nat) (cfg : Cfg) (d1 d2 d3 d4 : Device) (x : BitVec 1024), 320 ≤ p ∧ p < 344 ∧
      Issues s.dev p 0x29 0 (fun o => (dramFields o).asrc == 1) o cfg d1 ∧ s.dev.ingressHead p = some x ∧
      d2 = ((d1.takeIngress p).updChan (p - 320) fun y =>
        { y with cursors := Map.set 0 y.cursors (dramFields o).pat (Map.get 0 (d1.chan (p - 320)).cursors (dramFields o).pat + 1) }) ∧
      d3 = ((d2.updPacer p fun y => { y with outst := y.outst.map fun z => if z.op == 0x29 && z.issued == (d1.takeIngress p).now p then
        { z with aux := Map.get 0 (d1.chan (p - 320)).cursors (dramFields o).pat } else z }).takeDigest p (Line.bytes (flitLo x))).takeDigest p
          (Line.bytes (flitHi x)) ∧
      d3.appendBase p (Map.get 0 (d1.chan (p - 320)).cursors (dramFields o).pat) (dramFields o).pat = (some b, d4) ∧ d4.flt.upsets = [] ∧
      d4.pacerPart p = some k ∧ (d4.part k).key = some key ∧
      (∀ m < 2, d4.imageLine (p - 320) ((b + cfg.patBeat (dramFields o).pat m) % 2 ^ 33) = false ∧
        64 * ((b + cfg.patBeat (dramFields o).pat m) % 2 ^ 33) < (d4.chan (p - 320)).area) ∧
      (b + cfg.patBeat (dramFields o).pat 0) % 2 ^ 33 ≠ (b + cfg.patBeat (dramFields o).pat 1) % 2 ^ 33 :=
  ⟨{ dev := appending }, 320, _, 0, 1, 0, _, _, _, _, _, 7, by decide, by decide, issued (by decide +kernel), by decide +kernel, rfl, rfl,
   pair_eq (by decide +kernel), by decide +kernel, by decide +kernel, by decide +kernel, by decide +kernel, by decide +kernel⟩
end

