-- ==== Sys2Proof/Tests/Witness4.lean ====
section
/-! SUPPORT. The statements on clocks, power, faults, recovery, requests and steps speak of states that there are. -/

open Sys2Proof Sys2Proof.Machine

set_option Elab.async false

/-- The pace clocks run. -/
def ticking (f : Device → Device) : State := dv fun d => f (d.updClk fun c => { c with gun := .fired })

/-- The last cycle of a lap, with a change of the operating point due. -/
def lastCycle (f : Clock → Clock) : State := ticking fun d => d.updClk fun c => f { c with lapCyc := 65535 }

/-- One request entry. -/
def holding (r : Nat) (e : ReqEntry) (d : Device) : Device := { d with starter := { d.starter with table := [(r, e)] } }

/-- Partition 0 stands at a step boundary. -/
def atBoundary (f : Serving → Serving) : State := dv fun d => d.updServing 0 fun s => f { s with boundary := some (0, 0) }

/-- An ACTIVE request in slot 3 of partition 7. -/
def occupied (cancel : Bool) (e : ReqEntry) : Device :=
  holding 5 (ReqEntry.setState 2 0 e) (Device.reset.updServing 7 fun s => { s with slotTab := [(3, { req := some 5, cancel := cancel })] })

/-- A partition whose power schedule declares 1,350 W runs at its declared point. -/
def loaded1500 : Device :=
  inPhase .running (imaged { classes := [(13500, 13500)], schedule := [(0, 1000000)], opDecl := 4, opMin := 4 } Device.reset)
theorem loaded1500_forecast : loaded1500.forecastMax loaded1500.clk.opCur (loaded1500.thr.flowLead * 1600000000 / loaded1500.lapTicks + 1) = 1500 := by
  have hl : loaded1500.forecastLaps (loaded1500.thr.flowLead * 1600000000 / loaded1500.lapTicks + 1) = [0] := by decide +kernel
  have hp : ∀ k, k ∈ [1, 2, 3, 4, 5, 6, 7] → (loaded1500.part k).image = none := by decide +kernel
  have h0 : (loaded1500.part 0).image = some { classes := [(13500, 13500)], schedule := [(0, 1000000)], opDecl := 4, opMin := 4, tiles := [(0, 0)], pacers := [(0, 0)] } := by
    decide +kernel
  have ha : loaded1500.avgAt 0 0 = 13500 := by decide +kernel
  have hr : (loaded1500.part 0).railRegions 0 = 0 ∧ (loaded1500.part 0).railRegions 1 = 1 ∧ (loaded1500.part 0).regionList.length = 1 := by
    decide +kernel
  have hv : (vOp 1 4 : Rat) ≠ 0 := by
    have : 0 < vOp 1 4 := by unfold vOp vRange; simp
    exact_mod_cast this.ne'
  have hm : (mult 4 : Rat) ≠ 0 := by decide
  unfold Device.forecastMax
  rw [hl, show loaded1500.clk.opCur = 4 from rfl]
  have hf : loaded1500.forecast 4 0 = 1500 := by
    unfold Device.forecast Device.railPower
    simp only [partList, List.foldl_cons, List.foldl_nil, h0, hp 1 (by simp), hp 2 (by simp), hp 3 (by simp), hp 4 (by simp),
      hp 5 (by simp), hp 6 (by simp), hp 7 (by simp), ha, hr.1, hr.2.1, hr.2.2]
    simp only [div_self hv, div_self hm]
    norm_num
  simp [hf]

theorem witness_StretchRunLimit :
    (∃ (r : Region), r.failed = false) ∧
    (∃ (c : Nat) (r : Region) (x : Nat), r.failed = false ∧ x ≠ c) ∧
    (∃ (c : Nat) (r : Region), ¬c ∈ r.asked ∧ r.run ≠ 8) ∧
    (∃ (c : Nat) (r : Region), c ∈ r.asked ∧ r.run ≠ 8) ∧
    (∃ (r : Region), r.run = 8) ∧
    (∃ (r : Region), r.run ≤ 8) :=
  ⟨⟨{}, by decide +kernel⟩,
   ⟨5, {}, 4, by decide +kernel⟩,
   ⟨5, { asked := [4], run := 7 }, by decide +kernel⟩,
   ⟨5, { asked := [5], run := 7 }, by decide +kernel⟩,
   ⟨{ asked := [5], run := 8 }, by decide +kernel⟩,
   ⟨{ run := 8 }, by decide +kernel⟩⟩

theorem witness_ClockCommands :
    (∃ (s : State) (g : Nat), isRegion g = true ∧ s.dev.clk.gun = Gun.fired ∧ (s.dev.region g).failed = false ∧ s.dev.lockstep = false) ∧
    (∃ (s : State) (g : Nat), isRegion g = true ∧ s.dev.clk.gun = Gun.fired ∧ (s.dev.region g).failed = false ∧ s.dev.lockstep = true) ∧
    (∃ (s : State) (g : Nat), (s.dev.region g).failed = true) ∧
    (∃ (s : State) (r : Nat) (a : Nat) (g : Nat) (b : Bool), isRelay r = true ∧ relayRegions r = some (a, g) ∧ s.dev.clk.gun = Gun.fired ∧ s.dev.slips r b = true ∧ Map.get [] s.dev.clk.users r = []) ∧
    (∃ (s : State) (r : Nat) (a : Nat) (g : Nat) (k : Nat) (b : Bool), isRelay r = true ∧ relayRegions r = some (a, g) ∧ s.dev.clk.gun = Gun.fired ∧ s.dev.slips r b = true ∧ Map.get [] s.dev.clk.users r = [(k, s.dev.pcid k)] ∧ s.dev.running k = true ∧ s.dev.lockstep = false ∧ (s.dev.part k).run.hold = none) ∧
    (∃ (s : State) (r : Nat), s.dev.lockstep = false ∧ s.dev.skew r ≤ ↑(relayK r) ∧ ↑(relayK r) - 15 ≤ s.dev.skew r) ∧
    (∃ (s : State), s.dev.clk.gun = Gun.fired ∧ s.dev.clk.lapCyc = 65503) ∧
    (∃ (s : State), s.dev.clk.lapCyc ≠ 65503) ∧
    (∃ (s : State) (hi : W32), s.dev.clk.opPend = false ∧ s.dev.opAllowed s.dev.clk.opNext = true ∧ s.dev.clk.lap + 2 ≤ bits (BitVec.toNat hi) 0 16 * 2 ^ 32 + BitVec.toNat s.dev.clk.opLapLo) ∧
    (∃ (src : Src), src ≠ Src.marshal) ∧
    (∃ (s : State), s.dev.clk.opPend = true ∧ s.dev.pwr.settling = false ∧ s.dev.pwr.wantOp = none) ∧
    (∃ (s : State), s.dev.pwr.settling = false) ∧
    (∃ (s : State) (op : Nat), s.dev.pwr.settling = true ∧ s.dev.pwr.wantOp = some op ∧ s.dev.clk.opPend = false ∧ s.dev.opAllowed op = true) ∧
    (∃ (s : State) (g : Nat), isRegion g = true ∧ (s.dev.region g).idleOp.isSome = true ∧ (s.dev.region g).failed = false) ∧
    (∃ (s : State), s.dev.clk.gun = Gun.fired ∧ s.dev.clk.lapCyc = 65535) ∧
    (∃ (s : State), s.dev.clk.lapCyc ≠ 65535) :=
  ⟨⟨ticking id, 29, by decide +kernel⟩,
   ⟨ticking (fun d => d.updMb fun m => { m with devMode := some false }), 30, by decide +kernel⟩,
   ⟨dv (fun d => d.updRegion 30 fun r => { r with failed := true }), 30, by decide +kernel⟩,
   ⟨ticking (fun d => (d.updRegion 0 fun r => { r with delay := 100 }).updClk fun c => { c with lapCyc := 1000 }), 1032, 0, 1, false, by decide +kernel⟩,
   ⟨{ dev := ((inPhase .running (up (imaged {} Device.reset))).updClk fun c => { c with lapCyc := 1000, users := [(1032, [(0, 1)])] }).updRegion 0 fun r => { r with delay := 100 } }, 1032, 0, 1, 0, false, by decide +kernel⟩,
   ⟨State.reset, 1032, by decide +kernel⟩,
   ⟨ticking fun d => d.updClk fun c => { c with lapCyc := 65503 }, by decide +kernel⟩,
   ⟨State.reset, by decide +kernel⟩,
   ⟨dv (fun d => d.updClk fun c => { c with opLapLo := 2 }), 0, by decide +kernel⟩,
   ⟨.jtag, by decide +kernel⟩,
   ⟨dv fun d => d.updClk fun c => { c with opPend := true }, by decide +kernel⟩,
   ⟨State.reset, by decide +kernel⟩,
   ⟨dv (fun d => d.updPwr fun p => { p with settling := true, wantOp := some 4 }), 4, by decide +kernel⟩,
   ⟨dv (fun d => d.updRegion 30 fun r => { r with idleOp := some 4 }), 30, by decide +kernel⟩,
   ⟨lastCycle id, by decide +kernel⟩,
   ⟨State.reset, by decide +kernel⟩⟩

theorem witness_LapMarkEffects :
    (∃ (s : State), s.dev.clk.gun = Gun.fired ∧ s.dev.clk.lapCyc = 65535 ∧ s.dev.clk.opPend = true ∧ s.dev.clk.opLap ≤ s.dev.clk.lap + 1 ∧ s.dev.pathsLocked = true) ∧
    (∃ (s : State), s.dev.clk.gun = Gun.fired ∧ s.dev.clk.lapCyc = 65535 ∧ s.dev.clk.opPend = true ∧ s.dev.clk.opLap ≤ s.dev.clk.lap + 1 ∧ s.dev.pathsLocked = false) ∧
    (∃ (s : State) (d1 : Device) (k : Nat) (h : Hold), k < 8 ∧ s.dev.clk.gun = Gun.fired ∧ s.dev.clk.lapCyc = 65535 ∧ s.dev.lockstep = false ∧ d1 = s.dev.cycleWork ∧ (d1.part k).run.hold = some h ∧ d1.holdResolved k h = true) ∧
    (∃ (s : State) (d1 : Device) (k : Nat) (h : Hold), s.dev.clk.gun = Gun.fired ∧ s.dev.clk.lapCyc = 65535 ∧ s.dev.lockstep = false ∧ d1 = s.dev.cycleWork ∧ (d1.part k).run.hold = some h ∧ d1.holdResolved k h = false) :=
  ⟨⟨lastCycle fun c => { c with opPend := true, opLap := 1, regions := (List.range 31).map fun g => (g, { idleLocked := true }) }, by decide +kernel⟩,
   ⟨lastCycle fun c => { c with opPend := true, opLap := 1 }, by decide +kernel⟩,
   ⟨{ dev := ((lastCycle id).dev.updRun 7 fun r => { r with hold := some { causes := [(0, 2)] } }).updPacer 0 fun x => { x with ready := true } }, _, 7, { causes := [(0, 2)] }, ⟨by decide +kernel, by decide +kernel, by decide +kernel, by decide +kernel, rfl, by decide +kernel, by decide +kernel⟩⟩,
   ⟨{ dev := (lastCycle id).dev.updRun 7 fun r => { r with hold := some { causes := [(0, 2)] } } }, _, 7, { causes := [(0, 2)] }, ⟨by decide +kernel, by decide +kernel, by decide +kernel, rfl, by decide +kernel, by decide +kernel⟩⟩⟩

theorem witness_PowerPolicy :
    (∃ (s : State) (x : Nat), s.dev.due (Option.map (fun x => x.time) s.dev.pwr.samples.head?) (us 10) = true) ∧
    (∃ (s : State) (x : Nat), s.dev.due (Option.map (fun x => x.time) s.dev.pwr.samples.head?) (us 10) = false) ∧
    (∃ (s : State), s.dev.due s.dev.pwr.calibratedAt (ms 10) = true) ∧
    (∃ (s : State), s.dev.due s.dev.pwr.calibratedAt (ms 10) = false) ∧
    (∃ (s : State), (s.dev.sec.bootStatus ≠ 2 ∨ s.dev.clk.gun ≠ Gun.fired)) ∧
    (∃ (s : State), s.dev.sec.bootStatus = 2 ∧ s.dev.clk.gun = Gun.fired) ∧
    (∃ (d : Device), d.forecastMax d.clk.opCur (d.thr.flowLead * 1600000000 / d.lapTicks + 1) = 1500 ∧ d.thr.coolCp = 4180 ∧ d.thr.dtTgt = 10 ∧ d.thr.qMax = 40 ∧ d.thr.flowDmin ≤ 538 ∧ d.thr.boost = 0) ∧
    (∃ (s : State), s.dev.pwr.lsfWUntil ≤ s.dev.clk.now ∧ s.dev.preparing true = false) ∧
    (∃ (s : State), s.dev.pwr.lsfEUntil ≤ s.dev.clk.now ∧ s.dev.preparing false = false) ∧
    (∃ (s : State) (w : Bool), s.dev.preparing w = true) :=
  ⟨⟨State.reset, 0, by decide +kernel⟩,
   ⟨dv (fun d => d.updPwr fun p => { p with samples := [⟨0, 0, false⟩] }), 0, by decide +kernel⟩,
   ⟨State.reset, by decide +kernel⟩,
   ⟨dv (fun d => d.updPwr fun p => { p with calibratedAt := some 0 }), by decide +kernel⟩,
   ⟨State.reset, by decide +kernel⟩,
   ⟨dv up, by decide +kernel⟩,
   ⟨loaded1500, ⟨loaded1500_forecast, by decide +kernel, by decide +kernel, by decide +kernel, by decide +kernel, by decide +kernel⟩⟩,
   ⟨State.reset, by decide +kernel⟩,
   ⟨State.reset, by decide +kernel⟩,
   ⟨dv (fun d => d.updClk fun c => { c with staggers := [{ left := [11] }] }), true, by decide +kernel⟩⟩

theorem witness_ThermalAndCoolant :
    (∃ (s : State) (rs : List Int), rs.length = 32 ∧ s.dev.due s.dev.thr.sampledAt (us 20) = true) ∧
    (∃ (s : State) (rs : List Int), (rs.length ≠ 32 ∨ s.dev.due s.dev.thr.sampledAt (us 20) = false)) ∧
    (∃ (s : State) (i : Option Int) (o : Option Int), s.dev.due s.dev.thr.readAt (ms 100) = true ∧ (i = none ∨ o = none ∨ s.dev.thr.i3cInlet = 0 ∨ s.dev.thr.i3cOutlet = 0)) ∧
    (∃ (s : State), s.dev.due s.dev.thr.readAt (ms 100) = false) ∧
    (∃ (s : State), s.dev.due s.dev.thr.readAt (ms 100) = true ∧ s.dev.thr.i3cInlet ≠ 0 ∧ s.dev.thr.i3cOutlet ≠ 0) :=
  ⟨⟨State.reset, List.replicate 32 1049, by decide +kernel⟩,
   ⟨State.reset, [], by decide +kernel⟩,
   ⟨State.reset, some 200, some 300, by decide +kernel⟩,
   ⟨dv (fun d => d.updThr fun t => { t with readAt := some 0 }), by decide +kernel⟩,
   ⟨dv (fun d => d.updThr fun t => { t with i3cInlet := 1, i3cOutlet := 2 }), by decide +kernel⟩⟩

theorem witness_FaultsAreRaised :
    (∃ (s : State), s.dev.flt.pending = []) ∧
    (∃ (s : State) (x : Nat × W32 × Nat) (rest : List (Nat × W32 × Nat)), s.dev.flt.pending = x :: rest ∧ s.dev.clk.now < x.snd.snd + us 1) ∧
    (∃ (s : State) (x : Nat × W32 × Nat) (rest : List (Nat × W32 × Nat)), s.dev.flt.pending = x :: rest ∧ x.snd.snd + us 1 ≤ s.dev.clk.now) ∧
    (∃ (s : State) (p : Nat) (k : Nat), s.dev.pacerPart p = some k ∧ s.dev.stalled k p = true ∧ (∀ (q : Nat), q ∈ s.dev.pacersOf k → q < p → s.dev.stalled k q = false) ∧ s.dev.running k = true ∧ (s.dev.part k).run.hold = none ∧ (s.dev.part k).run.action = none ∧ p ∈ s.dev.pacersOf k) ∧
    (∃ (s : State) (p : Nat) (k : Nat), s.dev.pacerPart p = some k ∧ s.dev.stalled k p = false) :=
  ⟨⟨State.reset, by decide +kernel⟩,
   ⟨dv (fun d => d.updFlt fun f => { f with pending := [(0, 5, 0)] }), (0, 5, 0), [], by decide +kernel⟩,
   ⟨dv (fun d => (d.updFlt fun f => { f with pending := [(0, 5, 0)] }).updClk fun c => { c with now := us 1 }), (0, 5, 0), [], by decide +kernel⟩,
   ⟨{ dev := (issuing 0 0 0).updPacer 0 fun x => { x with stall := 64 } }, 0, 0, by decide +kernel⟩,
   ⟨{ dev := (issuing 0 0 0).updPacer 0 fun x => { x with stall := 63 } }, 0, 0, by decide +kernel⟩⟩

theorem witness_PartitionReset :
    (∃ (s : State) (k : Nat), k < 8 ∧ (s.dev.part k).run.reset.isSome = true) ∧
    (∃ (s : State) (k : Nat), k < 8 ∧ (s.dev.part k).run.reset = none ∧ s.dev.running k = true ∧ (s.dev.part k).run.commit = none) ∧
    (∃ (s : State) (k : Nat) (j : ResetJob), k < 8 ∧ s.dev.flt.upsets = [] ∧ s.dev.mb.placing = none ∧ (s.dev.part k).run.reset = some j ∧ (s.dev.part k).run.teardownWait = false) ∧
    (∃ (s : State) (k : Nat), (s.dev.part k).run.reset = none) :=
  ⟨⟨dv (fun d => d.updRun 7 fun r => { r with reset := some {} }), 7, by decide +kernel⟩,
   ⟨{ dev := inPhase .running (imaged {} Device.reset) }, 0, by decide +kernel⟩,
   ⟨dv (fun d => d.updRun 7 fun r => { r with reset := some {} }), 7, {}, by decide +kernel⟩,
   ⟨State.reset, 7, by decide +kernel⟩⟩

theorem witness_RetestAndRepair :
    (∃ (s : State) (k : Nat) (u : Nat) (spec : List Byte) (j : ResetJob), k < 8 ∧ u < 208 ∧ (s.dev.part k).run.retest = some j ∧ j.unit = u ∧ j.code = 513 ∧ j.specific = spec) ∧
    (∃ (s : State) (k : Nat) (u : Nat) (j : ResetJob), k < 8 ∧ 208 ≤ u ∧ j.code ≠ 259 ∧ (s.dev.part k).run.retest = some j ∧ j.unit = u) ∧
    (∃ (s : State) (k : Nat) (u : Nat) (j : ResetJob) (im : Image), k < 8 ∧ j.code ≠ 259 ∧ (s.dev.part k).run.retest = some j ∧ j.unit = u ∧ (s.dev.part k).image = some im ∧ ((s.dev.part k).repairMode = 2 ∨ (s.dev.part k).repairMode = 3) ∧ s.dev.mb.queue.length < 8 ∧ s.dev.loading k = false) ∧
    (∃ (s : State) (k : Nat), (s.dev.part k).run.retest = none) :=
  ⟨⟨dv (fun d => d.updRun 7 fun r => { r with retest := some { unit := 207, code := 513 } }), 7, 207, [], { unit := 207, code := 513 }, by decide +kernel⟩,
   ⟨dv (fun d => d.updRun 7 fun r => { r with retest := some { unit := 208, code := 514 } }), 7, 208, { unit := 208, code := 514 }, by decide +kernel⟩,
   ⟨{ dev := (imaged {} Device.reset).updRun 0 fun r => { r with retest := some { unit := 0, code := 513 } } }, 0, 0, { unit := 0, code := 513 }, { tiles := [(0, 0)], pacers := [(0, 0)] }, by decide +kernel⟩,
   ⟨State.reset, 7, by decide +kernel⟩⟩

theorem witness_Journal :
    (∃ (s : State) (es : List JEntry), s.dev.flt.updating = some es) ∧
    (∃ (s : State), s.dev.mb.jclrBusy = true) ∧
    (∃ (s : State), s.dev.mb.jclrBusy = false ∧ s.dev.jclrFree = false) ∧
    (∃ (s : State), s.dev.mb.jclrBusy = false ∧ s.dev.jclrFree = true ∧ s.dev.fuses.lc ≠ 1 ∧ s.dev.fuses.lc ≠ 4) ∧
    (∃ (s : State), s.dev.mb.jclrBusy = false ∧ s.dev.jclrFree = true ∧ (s.dev.fuses.lc = 1 ∨ s.dev.fuses.lc = 4) ∧ s.dev.mb.jclrAll = false ∧ (∀ (x : JEntry), x ∈ s.dev.flt.entries → x.tile ≠ s.dev.mb.jclrTile)) ∧
    (∃ (s : State), s.dev.mb.jclrBusy = false ∧ (s.dev.fuses.lc = 1 ∨ s.dev.fuses.lc = 4) ∧ (s.dev.mb.jclrAll = true ∨ ∃ x, x ∈ s.dev.flt.entries ∧ x.tile = s.dev.mb.jclrTile)) ∧
    (∃ (s : State), s.dev.flt.updating = none ∧ s.dev.mb.jclrBusy = true ∧ s.dev.allIdle = true ∧ s.dev.jclrCode = none) ∧
    (∃ (s : State) (c : Nat), s.dev.flt.updating = none ∧ s.dev.mb.jclrBusy = true ∧ s.dev.allIdle = true ∧ s.dev.jclrCode = some c) ∧
    (∃ (s : State), s.dev.flt.updating = none ∧ (s.dev.mb.jclrBusy = false ∨ s.dev.allIdle = false)) :=
  ⟨⟨dv (fun d => d.updFlt fun f => { f with updating := some [{}] }), [{}], by decide +kernel⟩,
   ⟨dv fun d => d.updMb fun m => { m with jclrBusy := true }, by decide +kernel⟩,
   ⟨dv (fun d => d.updFlt fun f => { f with updating := some [] }), by decide +kernel⟩,
   ⟨State.reset, by decide +kernel⟩,
   ⟨dv (atStep 1), by decide +kernel⟩,
   ⟨dv fun d => atStep 1 (d.updMb fun m => { m with jclrAll := true }), by decide +kernel⟩,
   ⟨dv (fun d => (atStep 1 d).updMb fun m => { m with jclrBusy := true }), by decide +kernel⟩,
   ⟨dv (fun d => d.updMb fun m => { m with jclrBusy := true }), 1, by decide +kernel⟩,
   ⟨State.reset, by decide +kernel⟩⟩

theorem witness_RequestTable :
    (∃ (s : State) (i : Nat) (r : Nat), WordAdmitted s.dev i r 0) ∧
    (∃ (s : State) (src : W16) (i : Nat) (r : Nat) (w : Nat), WordAdmitted s.dev i r w ∧ 0 < w ∧ w < 4 ∧ (∀ (src' : W16) (j : Nat) (ws : List W64), List.find? (fun x => x.fst == r) s.dev.starter.staged = some (r, src', j, ws) → src' ≠ src ∨ j ≠ i ∨ ws.length ≠ w) ∧ w = 3) ∧
    (∃ (s : State) (src : W16) (i : Nat) (r : Nat) (w : Nat), WordAdmitted s.dev i r w ∧ 0 < w ∧ w < 4 ∧ (∀ (src' : W16) (j : Nat) (ws : List W64), List.find? (fun x => x.fst == r) s.dev.starter.staged = some (r, src', j, ws) → src' ≠ src ∨ j ≠ i ∨ ws.length ≠ w) ∧ w < 3) ∧
    (∃ (s : State) (src : W16) (i : Nat) (r : Nat) (w0 : W64) (w1 : W64) (w2 : W64) (w3 : W64) (e : ReqEntry), WordAdmitted s.dev i r 3 ∧ s.dev.flt.upsets = [] ∧ List.find? (fun x => x.fst == r) s.dev.starter.staged = some (r, src, i, [w0, w1, w2]) ∧ e = setBits 256 (w3 ++ w2 ++ w1 ++ w0) 63 1 0) ∧
    (∃ (d : Device) (r : Nat) (e : ReqEntry), ((d.req r).state = 1 ∨ (d.req r).state = 2 ∨ 2 ≤ e.state)) ∧
    (∃ (d : Device) (e : ReqEntry), (d.tenant e.tenant).quantum = 0) ∧
    (∃ (s : State) (i : Nat), s.dev.sec.bootStatus ≠ 2 ∧ s.dev.hostMode i = false) ∧
    (∃ (s : State) (i : Nat) (r : Nat) (w : Nat), s.dev.sec.bootStatus = 0 ∧ s.dev.hostMode i = true ∧ w < 4 ∧ 32 * r + 8 * w + 8 ≤ 8396800) :=
  ⟨⟨dv up, 24, 1048575, by unfold WordAdmitted; decide +kernel⟩,
   ⟨{ dev := { up Device.reset with starter := { staged := [(9, 4, 24, [1])] } } }, 4, 24, 9, 3, ⟨by unfold WordAdmitted; decide +kernel, by decide, by decide, fun src' j ws h => by
   have e := h.symm.trans (by decide +kernel : List.find? _ _ = some (9, (4 : W16), 24, [(1 : W64)]))
   simp only [Option.some.injEq, Prod.mk.injEq] at e
   obtain ⟨-, -, -, rfl⟩ := e
   exact .inr (.inr (by decide)), rfl⟩⟩,
   ⟨{ dev := { up Device.reset with starter := { staged := [(9, 4, 24, [1])] } } }, 4, 24, 9, 2, ⟨by unfold WordAdmitted; decide +kernel, by decide, by decide, fun src' j ws h => by
   have e := h.symm.trans (by decide +kernel : List.find? _ _ = some (9, (4 : W16), 24, [(1 : W64)]))
   simp only [Option.some.injEq, Prod.mk.injEq] at e
   obtain ⟨-, -, -, rfl⟩ := e
   exact .inr (.inr (by decide)), by decide⟩⟩,
   ⟨{ dev := { up Device.reset with starter := { staged := [(9, 4, 24, [1, 2, 3])] } } }, 4, 24, 9, 1, 2, 3, 4, _, ⟨by unfold WordAdmitted; decide +kernel, by decide +kernel, by decide +kernel, rfl⟩⟩,
   ⟨holding 9 (ReqEntry.setState 2 0 0) Device.reset, 9, 0, by decide +kernel⟩,
   ⟨Device.reset, 0, by decide +kernel⟩,
   ⟨State.reset, 24, by decide +kernel⟩,
   ⟨dv (fun d => d.updPort 24 fun p => { p with peerHost := true }), 24, 262399, 3, by decide +kernel⟩⟩

theorem witness_TenantWrite :
    (∃ (s : State) (v : W32), (BitVec.getLsbD v 0 = false ∨ (List.filter (fun x => x.fst != s.dev.starter.tenIndex && x.snd.rabbit) s.dev.starter.tenants).length < 64)) ∧
    (∃ (s : State) (v : W32), BitVec.getLsbD v 0 = true ∧ 64 ≤ (List.filter (fun x => x.fst != s.dev.starter.tenIndex && x.snd.rabbit) s.dev.starter.tenants).length) :=
  ⟨⟨State.reset, 1, by decide +kernel⟩,
   ⟨dv (fun d => { d with starter := { d.starter with tenants := (List.range 64).map fun i => (i + 1, { rabbit := true }) } }), 1, by decide +kernel⟩⟩

theorem witness_StepBoundary :
    (∃ (s : State) (k : Nat), (s.dev.part k).serving.boundary = none) ∧
    (∃ (s : State) (k : Nat), (s.dev.part k).serving.boundary ≠ none ∧ (s.dev.part k).serving.smode ≠ 2 ∧ (s.dev.part k).shadow.role ≠ 2) ∧
    (∃ (d : Device) (k : Nat) (s : Nat) (r : Nat), d.flt.upsets = [] ∧ (Map.get { } (d.part k).serving.slotTab s).req = some r ∧ (Map.get { } (d.part k).serving.slotTab s).cancel = true ∧ (d.req r).state = 2) ∧
    (∃ (d : Device) (k : Nat) (s : Nat) (r : Nat) (tk : W64), d.flt.upsets = [] ∧ (Map.get { } (d.part k).serving.slotTab s).req = some r ∧ (Map.get { } (d.part k).serving.slotTab s).cancel = false ∧ (d.req r).state = 2 ∧ (d.req r).deadline ≠ 0 ∧ (d.req r).deadline ≤ BitVec.toNat tk) ∧
    (∃ (d : Device) (k : Nat) (s : Nat) (r : Nat) (tk : W64), d.flt.upsets = [] ∧ (Map.get { } (d.part k).serving.slotTab s).req = some r ∧ (Map.get { } (d.part k).serving.slotTab s).cancel = false ∧ (d.req r).state = 2 ∧ (d.req r).deadline ≠ 0 ∧ (d.req r).deadline ≤ BitVec.toNat tk ∧ (d.req r).latepol = false) ∧
    (∃ (d : Device) (s : Nat), d.flt.upsets = [] ∧ s < 8192) ∧
    (∃ (d : Device) (s : Nat), d.flt.upsets = [] ∧ s < 8192) ∧
    (∃ (s : State) (k : Nat) (n : Nat), (s.dev.part k).serving.boundary ≠ none ∧ (s.dev.part k).serving.smode = 2 ∧ (s.dev.part k).shadow.role ≠ 2 ∧ (s.dev.part k).serving.expected = some n ∧ n ≠ (s.dev.part k).serving.applied) ∧
    (∃ (s : State) (k : Nat) (n : Nat), (s.dev.part k).serving.boundary ≠ none ∧ (s.dev.part k).serving.smode = 2 ∧ (s.dev.part k).shadow.role ≠ 2 ∧ (s.dev.part k).serving.expected = some n ∧ n = (s.dev.part k).serving.applied) ∧
    (∃ (s : State) (k : Nat) (n : Nat) (src : W16) (q : W32), (s.dev.part k).serving.boundary ≠ none ∧ (s.dev.part k).shadow.role = 2 ∧ (s.dev.part k).serving.mirrorExpect = [(((s.dev.part k).serving.stepCnt, n), src, q)] ∧ mirroredOf (s.dev.part k).serving.mirrored src q n ≠ n) ∧
    (∃ (s : State) (k : Nat) (n : Nat) (src : W16) (q : W32), (s.dev.part k).serving.boundary ≠ none ∧ (s.dev.part k).shadow.role = 2 ∧ (s.dev.part k).serving.mirrorExpect = [(((s.dev.part k).serving.stepCnt, n), src, q)] ∧ mirroredOf (s.dev.part k).serving.mirrored src q n = n) :=
  ⟨⟨State.reset, 7, by decide +kernel⟩,
   ⟨atBoundary id, 0, by decide +kernel⟩,
   ⟨occupied true 0, 7, 3, 5, by decide +kernel⟩,
   ⟨occupied false (setBits 256 0 64 64 100), 7, 3, 5, 100, by decide +kernel⟩,
   ⟨occupied false (setBits 256 0 64 64 100), 7, 3, 5, 100, by decide +kernel⟩,
   ⟨Device.reset, 8191, by decide +kernel⟩,
   ⟨Device.reset, 8191, by decide +kernel⟩,
   ⟨atBoundary (fun s => { s with smode := 2, expected := some 1 }), 0, 1, by decide +kernel⟩,
   ⟨atBoundary (fun s => { s with smode := 2, expected := some 1, applied := 1 }), 0, 1, by decide +kernel⟩,
   ⟨{ dev := (atBoundary fun s => { s with mirrorExpect := [((0, 2), 4, 1)], mirrored := [(4, 0)] }).dev.updPart 0 fun x => { x with shadow := { x.shadow with role := 2 } } }, 0, 2, 4, 1, by decide +kernel⟩,
   ⟨{ dev := (atBoundary fun s => { s with mirrorExpect := [((0, 1), 4, 1)], mirrored := [(4, 0)] }).dev.updPart 0 fun x => { x with shadow := { x.shadow with role := 2 } } }, 0, 1, 4, 1, by decide +kernel⟩⟩

theorem witness_Cancels :
    (∃ (s : State), (∃ x, x ∈ s.dev.starter.cancels ∧ x.snd.snd.snd = none)) ∧
    (∃ (s : State) (tag : W16) (r : Nat), s.dev.starter.cancels = [] ∧ s.dev.flt.upsets = [] ∧ s.dev.starter.cancelReq = r ∧ ((s.dev.req r).state = 0 ∨ (s.dev.req r).tag ≠ BitVec.toNat tag) ∧ (s.dev.part (s.dev.req r).part).serving.boundary = none) ∧
    (∃ (s : State) (tag : W16) (r : Nat), s.dev.starter.cancels = [] ∧ s.dev.flt.upsets = [] ∧ s.dev.starter.cancelReq = r ∧ (s.dev.req r).tag = BitVec.toNat tag ∧ terminalState (s.dev.req r).state = true ∧ (s.dev.part (s.dev.req r).part).serving.boundary = none) ∧
    (∃ (s : State) (tag : W16) (r : Nat), s.dev.starter.cancels = [] ∧ s.dev.flt.upsets = [] ∧ s.dev.starter.cancelReq = r ∧ (s.dev.req r).tag = BitVec.toNat tag ∧ (s.dev.req r).state = 1 ∧ (s.dev.part (s.dev.req r).part).serving.boundary = none ∧ (s.dev.part (s.dev.req r).part).serving.smode ≠ 2) ∧
    (∃ (s : State) (tag : W16) (r : Nat) (k : Nat) (t : Nat), s.dev.starter.cancels = [] ∧ s.dev.flt.upsets = [] ∧ s.dev.starter.cancelReq = r ∧ (s.dev.req r).tag = BitVec.toNat tag ∧ (s.dev.req r).state = 2 ∧ (s.dev.part (s.dev.req r).part).serving.boundary = none ∧ (s.dev.part (s.dev.req r).part).serving.smode ≠ 2 ∧ s.dev.slotOf r = some (k, t) ∧ (Map.get { } (s.dev.part k).serving.slotTab t).cancel = false) ∧
    (∃ (s : State) (r : Nat), s.dev.starter.cancels = [] ∧ s.dev.flt.upsets = [] ∧ s.dev.starter.cancelReq = r ∧ (s.dev.part (s.dev.req r).part).serving.boundary ≠ none) ∧
    (∃ (s : State) (r : Nat), (∀ (x : Nat × Nat × W16 × Option (Nat × XUnit)), x ∈ s.dev.starter.cancels → x.snd.snd.snd ≠ none) ∧ s.dev.starter.cancels ≠ [] ∧ s.dev.starter.cancelReq = r) ∧
    (∃ (s : State) (k : Nat) (r : Nat) (tag : W16) (rest : List (Nat × Nat × W16 × Option (Nat × XUnit))), (s.dev.part k).serving.boundary = none ∧ s.dev.starter.cancels = (k, r, tag, none) :: rest ∧ s.dev.flt.upsets = [] ∧ (s.dev.req r).state = 1 ∧ (s.dev.req r).tag = BitVec.toNat tag ∧ (s.dev.part (s.dev.req r).part).serving.smode ≠ 2) ∧
    (∃ (s : State) (k : Nat), ((s.dev.part k).serving.boundary ≠ none ∨ s.dev.starter.cancels = [] ∨ ∃ x rest, s.dev.starter.cancels = x :: rest ∧ x.fst ≠ k)) :=
  ⟨⟨{ dev := { Device.reset with starter := { cancels := [(7, 1, 2, none)] } } }, by decide +kernel⟩,
   ⟨State.reset, 3, 0, by decide +kernel⟩,
   ⟨dv (fun d => holding 5 (setBits 256 (ReqEntry.setState 6 0 0) 24 16 9) { d with starter := { d.starter with cancelReq := 5 } }), 9, 5, by decide +kernel⟩,
   ⟨{ dev := holding 5 (setBits 256 (ReqEntry.setState 1 0 0) 24 16 9) { Device.reset with starter := { cancelReq := 5 } } }, 9, 5, by decide +kernel⟩,
   ⟨{ dev := { occupied false (setBits 256 0 24 16 9) with starter := { cancelReq := 5, table := [(5, ReqEntry.setState 2 0 (setBits 256 0 24 16 9))] } } }, 9, 5, 7, 3, by decide +kernel⟩,
   ⟨{ dev := holding 5 (ReqEntry.setState 1 0 0) { (atBoundary id).dev with starter := { cancelReq := 5 } } }, 5, by decide +kernel⟩,
   ⟨{ dev := { Device.reset with starter := { cancels := [(7, 1, 2, some (0, {}))], cancelReq := 7 } } }, 7, by decide +kernel⟩,
   ⟨{ dev := holding 5 (setBits 256 (ReqEntry.setState 1 0 0) 24 16 9) { Device.reset with starter := { cancels := [(7, 5, 9, none)] } } }, 7, 5, 9, [], by decide +kernel⟩,
   ⟨State.reset, 7, .inr (.inl (by decide +kernel))⟩⟩
end

