-- ==== Sys2Proof/Tests/Witness5.lean ====
section
/-! SUPPORT. The statements on the transport, ports, links, registers and codes speak of states that there are. -/

open Sys2Proof Sys2Proof.Machine

set_option Elab.async false

/-- A unit this device addressed to itself waits in its loop. -/
def looped (u : XUnit) (d : Device) : State := { dev := (up d).updTr fun t => { t with loop := [u] } }

/-- The device once a unit has been taken, and once its stream check has passed. -/
def taken (s : State) (u : XUnit) : Device := s.dev.takeUnit 31 u
def passed (s : State) (u : XUnit) : Device := ((taken s u).streamCheck u).2

theorem current_loop {s : State} {u : XUnit}
    (h : s.dev.arrived 31 u = true ∧ u.stream = true ∧ (u.kind = .cell → u.body.ctype ≠ 3 ∧ u.body.ctype ≠ 4) ∧
      s.dev.rxBad 31 u.cls u.bytes.length = none)
    (h2 : (taken s u).stale u = false ∧ u.dstEpoch = ((taken s u).part u.dstPart).epoch) : Current 31 u s.dev (taken s u) :=
  ⟨⟨rfl, h⟩, rfl, rfl, h2⟩

theorem accepted_loop {s : State} {u : XUnit}
    (h : s.dev.arrived 31 u = true ∧ u.stream = true ∧ (u.kind = .cell → u.body.ctype ≠ 3 ∧ u.body.ctype ≠ 4) ∧
      s.dev.rxBad 31 u.cls u.bytes.length = none)
    (h2 : (taken s u).stale u = false ∧ u.dstEpoch = ((taken s u).part u.dstPart).epoch)
    (h3 : ((taken s u).streamCheck u).1 = .accept false) (hm : u.mir = false := by rfl) : Accepted 31 u false s.dev (passed s u) :=
  ⟨taken s u, false, _, current_loop h h2, pair_eq h3, fun h => absurd (hm.symm.trans h) (by decide), rfl, rfl⟩

theorem not_page {d : Device} {a c o : Nat} (h : d.place a = .dram c o) : ∀ n p, d.place a ≠ .page n p := by simp [h]

/-- An active port. -/
def live (i : Nat) (f : Port → Port) : State :=
  dv fun d => d.updPort i fun p => f { p with link := { p.link with state := .active } }

def inState (i : Nat) (st : LinkState) (f : Link → Link) : State :=
  dv fun d => d.updLink i fun l => f { l with state := st }

/-- A unit that arrived whole on port `i`. -/
def arrivedOn (i : Nat) (u : XUnit) (d : Device) : Device := (up d).updLink i fun l => { l with rxReq := u.bytes }

def later (n : Nat) (s : State) : State := { dev := s.dev.updClk fun c => { c with now := n } }

theorem witness_UnitsAreChecked :
    (∃ (s : State) (i : Nat) (u : XUnit), Device.arrived i u s.dev = false ∧ (u.kind = UKind.cell → u.body.ctype ≠ 3 ∧ u.body.ctype ≠ 4)) ∧
    (∃ (s : State) (i : Nat) (u : XUnit) (drill : Bool), isWay i = true ∧ Device.arrived i u s.dev = true ∧ u.planned = false ∧ (u.kind = UKind.cell → u.body.ctype ≠ 3 ∧ u.body.ctype ≠ 4) ∧ s.dev.rxBad i u.cls u.bytes.length = some drill ∧ (s.dev.port i).link.state = LinkState.active) ∧
    (∃ (s : State) (i : Nat) (u : XUnit), isWay i = true ∧ Device.arrived i u s.dev = true ∧ u.planned = false ∧ u.loc = true ∧ (u.kind = UKind.cell → u.body.ctype ≠ 3 ∧ u.body.ctype ≠ 4) ∧ s.dev.rxBad i u.cls u.bytes.length = none) ∧
    (∃ (s : State) (i : Nat) (u : XUnit), StandsAt i u s.dev ∧ Device.forUs i u s.dev = true ∧ (Device.takeUnit i u s.dev).stale u = true) ∧
    (∃ (s : State) (i : Nat) (u : XUnit) (d1 : Device), StandsAt i u s.dev ∧ Device.forUs i u s.dev = true ∧ d1 = Device.takeUnit i u s.dev ∧ d1.stale u = false ∧ u.dstEpoch ≠ (d1.part u.dstPart).epoch) ∧
    (∃ (s : State) (i : Nat) (u : XUnit) (d1 : Device) (d2 : Device), Current i u s.dev d1 ∧ Device.streamCheck u d1 = (StreamVerdict.drop, d2)) ∧
    (∃ (s : State) (i : Nat) (u : XUnit) (d1 : Device) (d2 : Device), Current i u s.dev d1 ∧ Device.streamCheck u d1 = (StreamVerdict.full, d2)) ∧
    (∃ (s : State) (i : Nat) (u : XUnit) (d1 : Device) (d2 : Device) (ce : Bool), Current i u s.dev d1 ∧ Device.streamCheck u d1 = (StreamVerdict.accept ce, d2) ∧ u.mir = true ∧ (d2.isShadow u.dstPart = false ∨ u.kind ≠ UKind.put)) :=
  ⟨⟨State.reset, 25, {}, by decide +kernel⟩,
   ⟨{ dev := ((arrivedOn 25 { dstId := 5, len := 8, payload := List.replicate 8 1 } Device.reset).updLink 25 fun l => { l with state := .active, pool := [{ cls := 0, seq := 0 }] }).updFlt fun f => { f with upsets := [{ site := .pool 25 0 0, mask := [9 * 256], outer := [] }] } }, 25, { dstId := 5, len := 8, payload := List.replicate 8 1 }, false, by decide +kernel⟩,
   ⟨looped { loc := true } Device.reset, 31, { loc := true }, by decide +kernel⟩,
   ⟨looped { stamp := 0xFFFFF000 } Device.reset, 31, { stamp := 0xFFFFF000 }, ⟨by unfold StandsAt; decide +kernel, by decide +kernel, by decide +kernel⟩⟩,
   ⟨looped { dstEpoch := 1 } Device.reset, 31, { dstEpoch := 1 }, _, ⟨by unfold StandsAt; decide +kernel, by decide +kernel, rfl, by decide +kernel, by decide +kernel⟩⟩,
   ⟨{ dev := (looped {} Device.reset).dev.updTr fun t => { t with dst := [(0, some {})] } }, 31, {}, _, _, ⟨current_loop (by decide +kernel) (by decide +kernel), pair_eq (by decide +kernel)⟩⟩,
   ⟨{ dev := (looped {} Device.reset).dev.updTr fun t => { t with dst := (List.range 16384).map fun j => (j, some { srcId := 1 }) } }, 31, {}, _, _, ⟨current_loop (by decide +kernel) (by decide +kernel), pair_eq (by decide +kernel)⟩⟩,
   ⟨looped { mir := true } Device.reset, 31, { mir := true }, _, _, false, ⟨current_loop (by decide +kernel) (by decide +kernel), pair_eq (by decide +kernel), rfl, by decide +kernel⟩⟩⟩

theorem witness_StreamWindow :
    (∃ (d : Device) (d2 : Device) (d3 : Device) (u : XUnit) (b : Bool) (v : StreamVerdict), Map.wf none d.tr.dst = true ∧ Device.streamCheck u d = (StreamVerdict.accept b, d2) ∧ Device.streamCheck u d2 = (v, d3)) ∧
    (∃ (d : Device) (u : XUnit), d.tr.dstIdx u = none ∧ List.length d.tr.dst < 16384) ∧
    (∃ (d : Device) (u : XUnit), d.tr.dstIdx u = none ∧ 16384 ≤ List.length d.tr.dst) ∧
    (∃ (d : Device) (u : XUnit) (b : Bool) (d2 : Device), Device.streamCheck u d = (StreamVerdict.accept b, d2) ∧ b = true) ∧
    (∃ (d : Device) (u : XUnit) (b : Bool) (d2 : Device), Device.streamCheck u d = (StreamVerdict.accept b, d2)) :=
  ⟨⟨Device.reset, _, _, {}, false, .drop, ⟨by decide +kernel, pair_eq (by decide +kernel), pair_eq (by decide +kernel)⟩⟩,
   ⟨Device.reset, {}, by decide +kernel⟩,
   ⟨Device.reset.updTr fun t => { t with dst := (List.range 16384).map fun j => (j, some { srcId := 1 }) }, {}, by decide +kernel⟩,
   ⟨{ Device.reset with clk := { now := 100000000 } }, { ce := true }, true, _, ⟨pair_eq (by decide +kernel), rfl⟩⟩,
   ⟨Device.reset, {}, false, _, pair_eq (by decide +kernel)⟩⟩

theorem witness_Puts :
    (∃ (s : State) (i : Nat) (c : Nat) (o : Nat) (u : XUnit) (echo : Bool) (d2 : Device), u.kind = UKind.put ∧ u.mir = false ∧ Accepted i u echo s.dev d2 ∧ Device.putStatus i u d2 = 0 ∧ d2.place u.addr = Place.dram c o ∧ (d2.part u.dstPart).shadow.role = 0 ∧ d2.flt.upsets = []) ∧
    (∃ (d : Device) (k : Nat) (a : Nat) (c : Nat) (o : Nat) (bs : List Byte), d.place a = Place.dram c o ∧ d.keyOf k ≠ none ∧ d.flt.upsets = [] ∧ o + bs.length ≤ (d.chan c).area ∧ (∀ (idx : Nat), o / 64 ≤ idx → idx < (o + bs.length + 63) / 64 → d.imageLine c idx = false)) ∧
    (∃ (d : Device) (k : Nat) (a : Nat) (c : Nat) (o : Nat) (bs : List Byte) (idx : Nat), d.place a = Place.dram c o ∧ d.keyOf k ≠ none ∧ d.flt.upsets = [] ∧ o + bs.length ≤ (d.chan c).area ∧ (∀ (idx : Nat), o / 64 ≤ idx → idx < (o + bs.length + 63) / 64 → d.imageLine c idx = false) ∧ (idx < o / 64 ∨ (o + bs.length + 63) / 64 ≤ idx)) ∧
    (∃ (d : Device) (k : Nat) (a : Nat) (c : Nat) (o : Nat) (bs : List Byte) (c' : Nat), d.place a = Place.dram c o ∧ d.keyOf k ≠ none ∧ d.flt.upsets = [] ∧ o + bs.length ≤ (d.chan c).area ∧ (∀ (idx : Nat), o / 64 ≤ idx → idx < (o + bs.length + 63) / 64 → d.imageLine c idx = false) ∧ c' ≠ c) ∧
    (∃ (d : Device) (k : Nat) (a : Nat) (c : Nat) (o : Nat) (bs : List Byte), d.place a = Place.dram c o ∧ d.keyOf k ≠ none ∧ d.flt.upsets = [] ∧ o + bs.length ≤ (d.chan c).area ∧ (∀ (idx : Nat), o / 64 ≤ idx → idx < (o + bs.length + 63) / 64 → d.imageLine c idx = false)) ∧
    (∃ (s : State) (i : Nat) (t : Nat) (o : Nat) (u : XUnit) (echo : Bool) (d2 : Device), u.kind = UKind.put ∧ u.mir = false ∧ Accepted i u echo s.dev d2 ∧ Device.putStatus i u d2 = 0 ∧ d2.place u.addr = Place.tile t o ∧ u.len = u.payload.length ∧ u.len ≤ 4096 ∧ (d2.part u.dstPart).shadow.role = 0 ∧ d2.clearing t = false) ∧
    (∃ (s : State) (i : Nat) (u : XUnit) (echo : Bool) (d2 : Device), u.kind = UKind.put ∧ u.mir = false ∧ Accepted i u echo s.dev d2 ∧ Device.putStatus i u d2 ≠ 0) :=
  ⟨⟨looped { len := 8, payload := List.replicate 8 1 } (assigned Device.reset), 31, 0, 0, { len := 8, payload := List.replicate 8 1 }, false, _, ⟨rfl, rfl, accepted_loop (by decide +kernel) (by decide +kernel) (by decide +kernel), by decide +kernel, by decide +kernel, by decide +kernel, by decide +kernel⟩⟩,
   ⟨assigned Device.reset, 0, 0, 0, 0, [1, 2], by decide +kernel⟩,
   ⟨assigned Device.reset, 0, 64, 0, 64, [], 0, by decide +kernel⟩,
   ⟨assigned Device.reset, 0, 0, 0, 0, [1, 2], 23, by decide +kernel⟩,
   ⟨assigned Device.reset, 0, 0, 0, 0, [1, 2], by decide +kernel⟩,
   ⟨looped { addr := 0x0D0000000000, len := 8, payload := List.replicate 8 1 } (assigned Device.reset), 31, 0, 0, { addr := 0x0D0000000000, len := 8, payload := List.replicate 8 1 }, false, _, ⟨rfl, rfl, accepted_loop (by decide +kernel) (by decide +kernel) (by decide +kernel), by decide +kernel, by decide +kernel, by decide +kernel, by decide +kernel, by decide +kernel, by decide +kernel⟩⟩,
   ⟨looped { addr := 0x0E0002000000, len := 8, payload := List.replicate 8 1 } Device.reset, 31, { addr := 0x0E0002000000, len := 8, payload := List.replicate 8 1 }, false, _, ⟨rfl, rfl, accepted_loop (by decide +kernel) (by decide +kernel) (by decide +kernel), by decide +kernel⟩⟩⟩

theorem witness_GetsAndResponses :
    (∃ (s : State) (i : Nat) (u : XUnit) (echo : Bool) (d2 : Device) (d3 : Device) (bs : List Byte), u.kind = UKind.get ∧ Accepted i u echo s.dev d2 ∧ Device.getStatus i u d2 = 0 ∧ Device.getRead u d2 = (some bs, d3)) ∧
    (∃ (s : State) (i : Nat) (u : XUnit) (echo : Bool) (d2 : Device), u.kind = UKind.get ∧ Accepted i u echo s.dev d2 ∧ Device.getStatus i u d2 ≠ 0) ∧
    (∃ (s : State) (i : Nat) (c : Nat) (o : Nat) (u : XUnit) (echo : Bool) (d2 : Device), u.kind = UKind.getrsp ∧ Accepted i u echo s.dev d2 ∧ u.status = 0 ∧ d2.place u.addr = Place.dram c o ∧ d2.inRange u.dstPart u.addr u.len = true ∧ Device.writeDenied none u.srcId i u.dstPart u.addr u.payload d2 = false ∧ d2.flt.upsets = [] ∧ (d2.part u.dstPart).shadow.role = 0 ∧ (u.dstCc = 63 → d2.servingPart u.dstPart = false)) ∧
    (∃ (s : State) (i : Nat) (u : XUnit) (echo : Bool) (d2 : Device), u.kind = UKind.getrsp ∧ Accepted i u echo s.dev d2 ∧ u.status ≠ 0) ∧
    (∃ (s : State) (i : Nat) (u : XUnit) (echo : Bool) (d2 : Device), u.kind = UKind.getrsp ∧ Accepted i u echo s.dev d2 ∧ u.status = 0 ∧ (∀ (n o : Nat), d2.place u.addr ≠ Place.page n o) ∧ d2.inRange u.dstPart u.addr u.len = false) ∧
    (∃ (s : State) (i : Nat) (u : XUnit) (echo : Bool) (d2 : Device), u.kind = UKind.getrsp ∧ Accepted i u echo s.dev d2 ∧ u.status = 0 ∧ (∀ (n o : Nat), d2.place u.addr ≠ Place.page n o) ∧ d2.inRange u.dstPart u.addr u.len = true ∧ Device.writeDenied none u.srcId i u.dstPart u.addr u.payload d2 = true) :=
  ⟨⟨looped { kind := .get, len := 8 } (assigned Device.reset), 31, { kind := .get, len := 8 }, false, _, _, List.replicate 8 0, ⟨rfl, accepted_loop (by decide +kernel) (by decide +kernel) (by decide +kernel), by decide +kernel, pair_eq (by decide +kernel)⟩⟩,
   ⟨looped { kind := .get, len := 8 } Device.reset, 31, { kind := .get, len := 8 }, false, _, ⟨rfl, accepted_loop (by decide +kernel) (by decide +kernel) (by decide +kernel), by decide +kernel⟩⟩,
   ⟨looped { kind := .getrsp, len := 8, payload := List.replicate 8 1 } (assigned Device.reset), 31, 0, 0, { kind := .getrsp, len := 8, payload := List.replicate 8 1 }, false, _, ⟨rfl, accepted_loop (by decide +kernel) (by decide +kernel) (by decide +kernel), rfl, by decide +kernel, by decide +kernel, by decide +kernel, by decide +kernel, by decide +kernel, by decide +kernel⟩⟩,
   ⟨looped { kind := .getrsp, status := 2 } Device.reset, 31, { kind := .getrsp, status := 2 }, false, _, ⟨rfl, accepted_loop (by decide +kernel) (by decide +kernel) (by decide +kernel), by decide +kernel⟩⟩,
   ⟨looped { kind := .getrsp, len := 8 } Device.reset, 31, { kind := .getrsp, len := 8 }, false, _, ⟨rfl, accepted_loop (by decide +kernel) (by decide +kernel) (by decide +kernel), rfl, not_page (c := 0) (o := 0) (by decide +kernel), by decide +kernel⟩⟩,
   ⟨looped { kind := .getrsp, len := 8, payload := List.replicate 8 1 } ((assigned Device.reset).updPart 0 fun x => { x with roRanges := [(0, 64)] }), 31, { kind := .getrsp, len := 8, payload := List.replicate 8 1 }, false, _, ⟨rfl, accepted_loop (by decide +kernel) (by decide +kernel) (by decide +kernel), rfl, not_page (c := 0) (o := 0) (by decide +kernel), by decide +kernel, by decide +kernel⟩⟩⟩

theorem witness_CongestionControl :
    (∃ (s : State) (i : Nat) (u : XUnit) (d2 : Device) (q : W32) (st : Nat) (cc : Nat) (b : Bool), u.kind = UKind.cell ∧ u.body = Cell.ack q st false cc ∧ Accepted i u b s.dev d2) ∧
    (∃ (s : State) (i : Nat) (j : Nat) (u : XUnit) (d2 : Device) (q : W32) (st : Nat) (cc : Nat) (b : Bool) (t : SrcStream), u.kind = UKind.cell ∧ u.body = Cell.ack q st true cc ∧ Accepted i u b s.dev d2 ∧ d2.tr.srcIdx { dstPart := u.srcPart, dstId := u.srcId } = some j ∧ Map.get none d2.tr.src j = some t) ∧
    (∃ (s : State) (i : Nat) (j : Nat) (u : XUnit) (d2 : Device) (q : W32) (cls : Nat) (b : Bool) (t : SrcStream), u.kind = UKind.cell ∧ u.body = Cell.cnp q cls ∧ Accepted i u b s.dev d2 ∧ (d2.tr.srcIdx { kind := if cls = 0 then UKind.put else UKind.getrsp, dstPart := u.srcPart, dstId := u.srcId } = some j) ∧ Map.get none d2.tr.src j = some t) ∧
    (∃ (s : State) (j : Nat) (t : SrcStream), Map.get none s.dev.tr.src j = some t ∧ t.cls = 0 ∧ t.quietFrom + us s.dev.tr.recover ≤ s.dev.clk.now) ∧
    (∃ (s : State) (j : Nat) (t : SrcStream), Map.get none s.dev.tr.src j = some t ∧ s.dev.clk.now < t.quietFrom + us s.dev.tr.recover) :=
  ⟨⟨looped { kind := .cell, body := .ack 0 0 false 63 } Device.reset, 31, { kind := .cell, body := .ack 0 0 false 63 }, _, 0, 0, 63, false, ⟨rfl, rfl, accepted_loop (by decide +kernel) (by decide +kernel) (by decide +kernel)⟩⟩,
   ⟨{ dev := (looped { kind := .cell, body := .ack 0 0 true 63 } Device.reset).dev.updTr fun t => { t with src := [(3, some {})] } }, 31, 3, { kind := .cell, body := .ack 0 0 true 63 }, _, 0, 0, 63, false, {}, ⟨rfl, rfl, accepted_loop (by decide +kernel) (by decide +kernel) (by decide +kernel), by decide +kernel, by decide +kernel⟩⟩,
   ⟨{ dev := (looped { kind := .cell, body := .cnp 0 1 } Device.reset).dev.updTr fun t => { t with src := [(16383, some { cls := 1 })] } }, 31, 16383, { kind := .cell, body := .cnp 0 1 }, _, 0, 1, false, { cls := 1 }, ⟨rfl, rfl, accepted_loop (by decide +kernel) (by decide +kernel) (by decide +kernel), by decide +kernel, by decide +kernel⟩⟩,
   ⟨later 100000000 (dv fun d => d.updTr fun t => { t with src := [(16383, some {})] }), 16383, {}, by decide +kernel⟩,
   ⟨dv (fun d => d.updTr fun t => { t with src := [(16383, some {})] }), 16383, {}, by decide +kernel⟩⟩

theorem witness_ServingCells :
    (∃ (s : State) (i : Nat) (r : Nat) (tag : W16) (u : XUnit) (b : Bool) (d2 : Device), u.kind = UKind.cell ∧ u.body = Cell.cancel r tag ∧ Accepted i u b s.dev d2 ∧ d2.flt.upsets = [] ∧ (d2.req r).state = 1 ∧ (d2.req r).tag = BitVec.toNat tag ∧ d2.starter.cancels = [] ∧ (d2.part (d2.req r).part).serving.smode ≠ 2 ∧ (d2.part (d2.req r).part).serving.boundary = none) ∧
    (∃ (s : State) (i : Nat) (r : Nat) (res : Nat) (tag : W16) (u : XUnit) (b : Bool) (d2 : Device), u.kind = UKind.cell ∧ u.body = Cell.cancelResult r tag res ∧ Accepted i u b s.dev d2) ∧
    (∃ (s : State) (i : Nat) (u : XUnit) (b : Bool) (d2 : Device) (p : Nat) (slot : Nat) (r : Nat) (q : Nat) (st : Nat) (nin : Nat) (step : Nat) (occ : Bool), u.kind = UKind.cell ∧ Accepted i u b s.dev d2 ∧ ((d2.part u.dstPart).serving.smode ≠ 2 ∨ (d2.part u.dstPart).serving.boundary = none ∨ step ≠ BitVec.toNat (d2.part u.dstPart).serving.stepCnt % 2 ^ 32) ∧ u.body = Cell.slotSet p slot r q occ st nin step) ∧
    (∃ (s : State) (i : Nat) (u : XUnit) (b : Bool) (d2 : Device) (p : Nat) (step : Nat) (n : Nat), u.kind = UKind.cell ∧ Accepted i u b s.dev d2 ∧ ((d2.part u.dstPart).serving.smode ≠ 2 ∨ (d2.part u.dstPart).serving.boundary = none ∨ step ≠ BitVec.toNat (d2.part u.dstPart).serving.stepCnt % 2 ^ 32) ∧ u.body = Cell.stepDone p n step) ∧
    (∃ (s : State) (i : Nat) (u : XUnit) (b : Bool) (d2 : Device) (p : Nat) (slot : Nat) (r : Nat) (q : Nat) (st : Nat) (nin : Nat) (step : Nat) (occ : Bool), u.kind = UKind.cell ∧ Accepted i u b s.dev d2 ∧ d2.flt.upsets = [] ∧ u.body = Cell.slotSet p slot r q occ st nin step ∧ slot < 8192 ∧ st < 16 ∧ (d2.part u.dstPart).serving.smode = 2 ∧ (d2.part u.dstPart).serving.boundary ≠ none ∧ step = BitVec.toNat (d2.part u.dstPart).serving.stepCnt % 2 ^ 32 ∧ (d2.part u.dstPart).serving.expected = none) ∧
    (∃ (s : State) (i : Nat) (u : XUnit) (b : Bool) (d2 : Device) (p : Nat) (n : Nat) (step : Nat), u.kind = UKind.cell ∧ Accepted i u b s.dev d2 ∧ u.body = Cell.stepDone p n step ∧ (d2.part u.dstPart).serving.smode = 2 ∧ (d2.part u.dstPart).serving.boundary ≠ none ∧ step = BitVec.toNat (d2.part u.dstPart).serving.stepCnt % 2 ^ 32) ∧
    (∃ (s : State) (i : Nat) (n : Nat) (u : XUnit) (b : Bool) (d2 : Device) (step : W64), u.kind = UKind.cell ∧ Accepted i u b s.dev d2 ∧ u.body = Cell.mirrorDone step n ∧ (d2.part u.dstPart).shadow.role ≠ 2) ∧
    (∃ (s : State) (i : Nat) (n : Nat) (u : XUnit) (b : Bool) (d2 : Device) (step : W64), u.kind = UKind.cell ∧ Accepted i u b s.dev d2 ∧ u.body = Cell.mirrorDone step n ∧ (d2.part u.dstPart).shadow.role = 2 ∧ (d2.part u.dstPart).serving.boundary ≠ none ∧ step = (d2.part u.dstPart).serving.stepCnt ∧ (d2.part u.dstPart).serving.mirrorExpect = []) :=
  ⟨⟨looped { kind := .cell, body := .cancel 5 9 } (holding 5 (setBits 256 (ReqEntry.setState 1 0 0) 24 16 9) Device.reset), 31, 5, 9, { kind := .cell, body := .cancel 5 9 }, false, _, ⟨rfl, rfl, accepted_loop (by decide +kernel) (by decide +kernel) (by decide +kernel), by decide +kernel, by decide +kernel, by decide +kernel, by decide +kernel, by decide +kernel, by decide +kernel⟩⟩,
   ⟨looped { kind := .cell, body := .cancelResult 5 9 0 } Device.reset, 31, 5, 0, 9, { kind := .cell, body := .cancelResult 5 9 0 }, false, _, ⟨rfl, rfl, accepted_loop (by decide +kernel) (by decide +kernel) (by decide +kernel)⟩⟩,
   ⟨looped { kind := .cell, body := .slotSet 0 3 5 0 true 2 1 0 } Device.reset, 31, { kind := .cell, body := .slotSet 0 3 5 0 true 2 1 0 }, false, _, 0, 3, 5, 0, 2, 1, 0, true, ⟨rfl, accepted_loop (by decide +kernel) (by decide +kernel) (by decide +kernel), by decide +kernel, rfl⟩⟩,
   ⟨looped { kind := .cell, body := .stepDone 0 1 0 } Device.reset, 31, { kind := .cell, body := .stepDone 0 1 0 }, false, _, 0, 0, 1, ⟨rfl, accepted_loop (by decide +kernel) (by decide +kernel) (by decide +kernel), by decide +kernel, rfl⟩⟩,
   ⟨looped { kind := .cell, body := .slotSet 0 8191 5 0 true 2 1 0 } (atBoundary fun s => { s with smode := 2 }).dev, 31, { kind := .cell, body := .slotSet 0 8191 5 0 true 2 1 0 }, false, _, 0, 8191, 5, 0, 2, 1, 0, true, ⟨rfl, accepted_loop (by decide +kernel) (by decide +kernel) (by decide +kernel), by decide +kernel, rfl, by decide, by decide, by decide +kernel, by decide +kernel, by decide +kernel, by decide +kernel⟩⟩,
   ⟨looped { kind := .cell, body := .stepDone 0 1 0 } (atBoundary fun s => { s with smode := 2 }).dev, 31, { kind := .cell, body := .stepDone 0 1 0 }, false, _, 0, 1, 0, ⟨rfl, accepted_loop (by decide +kernel) (by decide +kernel) (by decide +kernel), rfl, by decide +kernel, by decide +kernel, by decide +kernel⟩⟩,
   ⟨looped { kind := .cell, body := .mirrorDone 0 1 } Device.reset, 31, 1, { kind := .cell, body := .mirrorDone 0 1 }, false, _, 0, ⟨rfl, accepted_loop (by decide +kernel) (by decide +kernel) (by decide +kernel), rfl, by decide +kernel⟩⟩,
   ⟨looped { kind := .cell, body := .mirrorDone 0 1 } ((atBoundary id).dev.updPart 0 fun x => { x with shadow := { x.shadow with role := 2 } }), 31, 1, { kind := .cell, body := .mirrorDone 0 1 }, false, _, 0, ⟨rfl, accepted_loop (by decide +kernel) (by decide +kernel) (by decide +kernel), rfl, by decide +kernel, by decide +kernel, by decide +kernel⟩⟩⟩

theorem witness_HeatsAndPhotoFinish :
    (∃ (s : State) (i : Nat) (u : XUnit) (b : Bool) (d2 : Device) (no : W32) (pc : W16) (ca : Byte), u.kind = UKind.cell ∧ Accepted i u b s.dev d2 ∧ u.body = Cell.heatAbort no pc ca ∧ ((d2.part u.dstPart).run.heat = false ∨ no ≠ (d2.part u.dstPart).run.heatNo)) ∧
    (∃ (s : State) (i : Nat) (u : XUnit) (b : Bool) (d2 : Device) (no : W32) (pc : W16) (ca : Byte), u.kind = UKind.cell ∧ Accepted i u b s.dev d2 ∧ u.body = Cell.heatAbort no pc ca ∧ (d2.part u.dstPart).run.heat = true ∧ no = (d2.part u.dstPart).run.heatNo ∧ (d2.part u.dstPart).run.phase ≠ RunPhase.running ∧ (d2.part u.dstPart).run.phase ≠ RunPhase.starting) ∧
    (∃ (s : State) (i : Nat) (u : XUnit) (b : Bool) (d2 : Device) (no : W32) (pc : W16) (ca : Byte), u.kind = UKind.cell ∧ Accepted i u b s.dev d2 ∧ u.body = Cell.heatAbort no pc ca ∧ (d2.part u.dstPart).run.heat = true ∧ no = (d2.part u.dstPart).run.heatNo ∧ (d2.part u.dstPart).run.phase = RunPhase.starting ∧ (d2.part u.dstPart).run.abort = none ∧ (d2.part u.dstPart).run.relayed = false) ∧
    (∃ (s : State) (i : Nat) (u : XUnit) (b : Bool) (d2 : Device) (no : W32) (pc : W16) (ca : Byte), u.kind = UKind.cell ∧ Accepted i u b s.dev d2 ∧ u.body = Cell.heatAbort no pc ca ∧ (d2.part u.dstPart).run.heat = true ∧ no = (d2.part u.dstPart).run.heatNo ∧ (d2.part u.dstPart).run.phase = RunPhase.running ∧ (d2.part u.dstPart).run.abort = none ∧ (d2.part u.dstPart).run.relayed = false) ∧
    (∃ (s : State) (i : Nat) (u : XUnit) (b : Bool) (d2 : Device) (no : W32) (lap : W32) (ld : W64), u.kind = UKind.cell ∧ Accepted i u b s.dev d2 ∧ u.body = Cell.pfDigest no lap ld ∧ ((d2.part u.dstPart).shadow.role ≠ 2 ∨ no ≠ (d2.part u.dstPart).run.heatNo)) ∧
    (∃ (s : State) (i : Nat) (u : XUnit) (b : Bool) (d2 : Device) (no : W32) (lap : W32) (ld : W64) (own : W64) (bib : W32), u.kind = UKind.cell ∧ Accepted i u b s.dev d2 ∧ u.body = Cell.pfDigest no lap ld ∧ (d2.part u.dstPart).shadow.role = 2 ∧ no = (d2.part u.dstPart).run.heatNo ∧ List.find? (fun x => x.fst == BitVec.toNat lap) (d2.part u.dstPart).shadow.own = some (BitVec.toNat lap, own, bib)) ∧
    (∃ (s : State) (k : Nat), k < 8 ∧ (s.dev.part k).shadow.role = 1 ∧ s.dev.running k = true ∧ s.dev.planLapOver k = true) ∧
    (∃ (s : State) (k : Nat), ((s.dev.part k).shadow.role = 0 ∨ s.dev.running k = false ∨ s.dev.planLapOver k = false)) :=
  ⟨⟨looped { kind := .cell, body := .heatAbort 1 0 0 } (Device.reset), 31, { kind := .cell, body := .heatAbort 1 0 0 }, false, _, 1, 0, 0, ⟨rfl, accepted_loop (by decide +kernel) (by decide +kernel) (by decide +kernel), rfl, by decide +kernel⟩⟩,
   ⟨looped { kind := .cell, body := .heatAbort 3 0 0 } (Device.reset.updRun 0 fun r => { r with heat := true, heatNo := 3 }), 31, { kind := .cell, body := .heatAbort 3 0 0 }, false, _, 3, 0, 0, ⟨rfl, accepted_loop (by decide +kernel) (by decide +kernel) (by decide +kernel), rfl, by decide +kernel, by decide +kernel, by decide +kernel, by decide +kernel⟩⟩,
   ⟨looped { kind := .cell, body := .heatAbort 3 0 0 } ((inPhase .starting (imaged {} Device.reset)).updRun 0 fun r => { r with heat := true, heatNo := 3 }), 31, { kind := .cell, body := .heatAbort 3 0 0 }, false, _, 3, 0, 0, ⟨rfl, accepted_loop (by decide +kernel) (by decide +kernel) (by decide +kernel), rfl, by decide +kernel, by decide +kernel, by decide +kernel, by decide +kernel, by decide +kernel⟩⟩,
   ⟨looped { kind := .cell, body := .heatAbort 3 0 0 } ((inPhase .running (imaged {} Device.reset)).updRun 0 fun r => { r with heat := true, heatNo := 3 }), 31, { kind := .cell, body := .heatAbort 3 0 0 }, false, _, 3, 0, 0, ⟨rfl, accepted_loop (by decide +kernel) (by decide +kernel) (by decide +kernel), rfl, by decide +kernel, by decide +kernel, by decide +kernel, by decide +kernel, by decide +kernel⟩⟩,
   ⟨looped { kind := .cell, body := .pfDigest 0 0 7 } Device.reset, 31, { kind := .cell, body := .pfDigest 0 0 7 }, false, _, 0, 0, 7, ⟨rfl, accepted_loop (by decide +kernel) (by decide +kernel) (by decide +kernel), rfl, by decide +kernel⟩⟩,
   ⟨looped { kind := .cell, body := .pfDigest 0 0 7 } (Device.reset.updPart 0 fun x => { x with shadow := { x.shadow with role := 2, own := [(0, 7, 0)] } }), 31, { kind := .cell, body := .pfDigest 0 0 7 }, false, _, 0, 0, 7, 7, 0, ⟨rfl, accepted_loop (by decide +kernel) (by decide +kernel) (by decide +kernel), rfl, by decide +kernel, by decide +kernel, by decide +kernel⟩⟩,
   ⟨{ dev := (issuing 0 0 0).updPart 0 (fun x => { x with shadow := { x.shadow with role := 1 } }) |>.updClk fun c => { c with lap := 1 } }, 0, by decide +kernel⟩,
   ⟨State.reset, 0, by decide +kernel⟩⟩

theorem witness_TransportUpkeep :
    (∃ (s : State), s.dev.quiet = true) ∧
    (∃ (s : State), s.dev.quiet = false) ∧
    (∃ (v : W16), isPort (BitVec.toNat v % 32) = true ∧ isPort (BitVec.toNat v / 32 % 32) = true) ∧
    (∃ (s : State) (k : Nat), k < 8 ∧ s.dev.partQuiet k = true) ∧
    (∃ (s : State) (k : Nat), k < 8 ∧ s.dev.partQuiet k = false) ∧
    (∃ (s : State) (j : Nat) (t : SrcStream), Map.get none s.dev.tr.src j = some t ∧ s.dev.tr.unnumbered = [] ∧ t.lastUse + 4 * s.dev.tr.lifeTicks ≤ s.dev.clk.now) ∧
    (∃ (s : State) (j : Nat) (t : SrcStream), Map.get none s.dev.tr.src j = some t ∧ s.dev.tr.unnumbered = [] ∧ s.dev.clk.now < t.lastUse + 4 * s.dev.tr.lifeTicks) ∧
    (∃ (s : State) (j : Nat) (t : DstStream), Map.get none s.dev.tr.dst j = some t ∧ t.lastUse + 2 * s.dev.tr.lifeTicks ≤ s.dev.clk.now) ∧
    (∃ (s : State) (j : Nat) (t : DstStream), Map.get none s.dev.tr.dst j = some t ∧ s.dev.clk.now < t.lastUse + 2 * s.dev.tr.lifeTicks) ∧
    (∃ (s : State) (i : Nat) (j : Nat) (u : XUnit), s.dev.tr.waiting[j]? = some (i, u) ∧ s.dev.stale u = true ∧ u.srcId ≠ s.dev.tr.myId) ∧
    (∃ (s : State) (i : Nat) (j : Nat) (u : XUnit), isPort i = true ∧ ((s.dev.port i).resent ++ (s.dev.port i).egReq ++ (s.dev.port i).egRsp ++ (s.dev.port i).planned)[j]? = some u ∧ s.dev.stale u = true ∧ u.srcId ≠ s.dev.tr.myId) ∧
    (∃ (s : State) (i : Nat) (j : Nat) (u : XUnit), isPort i = true ∧ ((s.dev.port i).resent ++ (s.dev.port i).egReq ++ (s.dev.port i).egRsp ++ (s.dev.port i).planned)[j]? = some u ∧ s.dev.stale u = false) :=
  ⟨⟨State.reset, by decide +kernel⟩,
   ⟨{ dev := issuing 0 0 0 }, by decide +kernel⟩,
   ⟨0x8339, by decide +kernel⟩,
   ⟨State.reset, 7, by decide +kernel⟩,
   ⟨{ dev := issuing 0 0 0 }, 0, by decide +kernel⟩,
   ⟨later 100000000 (dv fun d => d.updTr fun t => { t with src := [(16383, some {})] }), 16383, {}, by decide +kernel⟩,
   ⟨dv (fun d => d.updTr fun t => { t with src := [(16383, some {})] }), 16383, {}, by decide +kernel⟩,
   ⟨later 100000000 (dv fun d => d.updTr fun t => { t with dst := [(16383, some {})] }), 16383, {}, by decide +kernel⟩,
   ⟨dv (fun d => d.updTr fun t => { t with dst := [(16383, some {})] }), 16383, {}, by decide +kernel⟩,
   ⟨dv (fun d => d.updTr fun t => { t with myId := 5, waiting := [(31, { stamp := 0xFFFFFF0A })] }), 31, 0, { stamp := 0xFFFFFF0A }, by decide +kernel⟩,
   ⟨dv (fun d => (d.updTr fun t => { t with myId := 5 }).updPort 23 fun p => { p with egReq := [{ stamp := 0xFFFFFF0A }] }), 23, 0, { stamp := 0xFFFFFF0A }, by decide +kernel⟩,
   ⟨dv (fun d => d.updPort 23 fun p => { p with egReq := [{ stamp := 0xFFFFFF0B }] }), 23, 0, { stamp := 0xFFFFFF0B }, by decide +kernel⟩⟩

theorem witness_PortTraining :
    (∃ (s : State) (i : Nat), isPort i = true ∧ (s.dev.port i).link.state = LinkState.disabled ∧ s.dev.portClocked i = true) ∧
    (∃ (s : State) (i : Nat) (v : Bool), isPort i = true ∧ (s.dev.port i).link.state ≠ LinkState.exercise ∧ (if v = true then (s.dev.port i).link.state ≠ LinkState.disabled ∨ s.dev.portClocked i = false else (s.dev.port i).link.state = LinkState.disabled)) ∧
    (∃ (s : State) (i : Nat), isPort i = true ∧ (s.dev.port i).link.state ≠ LinkState.exercise ∧ (s.dev.port i).link.state ≠ LinkState.disabled ∧ Map.wf { } (s.dev.port i).windows = true) ∧
    (∃ (s : State) (i : Nat), isPort i = true ∧ (s.dev.port i).link.state = LinkState.exercise) ∧
    (∃ (s : State) (i : Nat) (l : BitVec 5), isPort i = true ∧ (s.dev.port i).link.state = LinkState.detect ∧ 4 ≤ (lanesOf l).length) ∧
    (∃ (s : State) (i : Nat) (l : BitVec 5), ((s.dev.port i).link.state ≠ LinkState.detect ∨ (lanesOf l).length < 4)) ∧
    (∃ (s : State) (i : Nat) (r : BitVec 5) (t : BitVec 5) (words : List (BitVec 128)), isPort i = true ∧ (s.dev.port i).link.state = LinkState.equalize ∧ t = wordLanes words 8 ∧ 4 ≤ (lanesOf r).length ∧ 4 ≤ (lanesOf t).length) ∧
    (∃ (s : State) (i : Nat) (r : BitVec 5) (words : List (BitVec 128)), ((s.dev.port i).link.state ≠ LinkState.equalize ∨ (lanesOf r).length < 4 ∨ (lanesOf (wordLanes words 8)).length < 4)) ∧
    (∃ (s : State) (i : Nat), isPort i = true ∧ s.dev.lasted i LinkState.equalize (ms 20) = true ∧ (s.dev.port i).link.eqFails < 2) ∧
    (∃ (s : State) (i : Nat), isPort i = true ∧ s.dev.lasted i LinkState.equalize (ms 20) = true ∧ 2 ≤ (s.dev.port i).link.eqFails) ∧
    (∃ (s : State) (i : Nat) (c : Instr) (st : LinkState) (t : Nat), isPort i = true ∧ (c, st, t) ∈ [(Instr.alignTimeout i, LinkState.align, ms 1), (Instr.identifyTimeout i, LinkState.identify, us 100), (Instr.initTimeout i, LinkState.init, us 100)] ∧ s.dev.lasted i st t = true) ∧
    (∃ (s : State) (i : Nat) (c : Instr) (st : LinkState) (t : Nat), isPort i = true ∧ (c, st, t) ∈ [(Instr.alignTimeout i, LinkState.align, ms 1), (Instr.identifyTimeout i, LinkState.identify, us 100), (Instr.initTimeout i, LinkState.init, us 100)] ∧ s.dev.lasted i st t = false) ∧
    (∃ (s : State) (i : Nat), isPort i = true ∧ (s.dev.port i).autoRetry = true ∧ s.dev.lasted i LinkState.down (ms 1) = true) ∧
    (∃ (s : State) (i : Nat), ((s.dev.port i).autoRetry = false ∨ s.dev.lasted i LinkState.down (ms 1) = false)) :=
  ⟨⟨State.reset, 24, by decide +kernel⟩,
   ⟨State.reset, 23, true, by decide +kernel⟩,
   ⟨inState 24 .detect id, 24, by decide +kernel⟩,
   ⟨inState 23 .exercise id, 23, by decide +kernel⟩,
   ⟨inState 25 .detect id, 25, 0x1E, by decide +kernel⟩,
   ⟨State.reset, 25, 0x0E, by decide +kernel⟩,
   ⟨inState 23 .equalize id, 23, 0x1E, 0x0F, (List.range 4).map (fun j => BitVec.ofNat 128 (trainingWord 0 0 true false j)), by decide +kernel⟩,
   ⟨State.reset, 25, 0x0E, [], by decide +kernel⟩,
   ⟨later (ms 20) (inState 23 .equalize id), 23, by decide +kernel⟩,
   ⟨later (ms 20) (inState 23 .equalize fun l => { l with eqFails := 2 }), 23, by decide +kernel⟩,
   ⟨later (us 100) (inState 23 .init id), 23, .initTimeout 23, .init, us 100, by decide +kernel⟩,
   ⟨State.reset, 23, .alignTimeout 23, .align, ms 1, by decide +kernel⟩,
   ⟨later (ms 1) (inState 23 .down id), 23, by decide +kernel⟩,
   ⟨State.reset, 23, by decide +kernel⟩⟩

theorem witness_PortTimersAndResets :
    (∃ (s : State) (i : Nat), isPort i = true ∧ (s.dev.port i).link.state = LinkState.active ∧ (∀ (r : ChangeReq), r ∈ (s.dev.port i).link.reqs → r.fault = false) ∧ (s.dev.port i).link.lastKa + us (s.dev.port i).linkDownTo ≤ s.dev.clk.now) ∧
    (∃ (s : State) (i : Nat), isPort i = true ∧ (s.dev.port i).link.state = LinkState.active ∧ (∀ (r : ChangeReq), r ∈ (s.dev.port i).link.reqs → r.fault = false) ∧ s.dev.clk.now < (s.dev.port i).link.lastKa + us (s.dev.port i).linkDownTo) ∧
    (∃ (s : State) (i : Nat), (∃ r, r ∈ (s.dev.port i).link.reqs ∧ r.fault = true)) ∧
    (∃ (s : State) (i : Nat), isPort i = true ∧ (s.dev.port i).link.state = LinkState.active ∧ 0 < (s.dev.port i).link.outstanding ∧ (s.dev.port i).link.timerAt + us (s.dev.port i).replayTo ≤ s.dev.clk.now) ∧
    (∃ (s : State) (i : Nat), (s.dev.port i).link.outstanding = 0) ∧
    (∃ (s : State) (i : Nat), isPort i = true ∧ ((s.dev.port i).link.state = LinkState.active ∨ (s.dev.port i).link.state = LinkState.init) ∧ s.dev.due (s.dev.port i).link.kaTick (us 1) = true) ∧
    (∃ (s : State) (i : Nat), ((s.dev.port i).link.state ≠ LinkState.active ∧ (s.dev.port i).link.state ≠ LinkState.init ∨ s.dev.due (s.dev.port i).link.kaTick (us 1) = false)) ∧
    (∃ (s : State) (i : Nat), isPort i = true ∧ (s.dev.page (pgPort i)).inReset = false ∧ Map.wf { } (s.dev.port i).windows = true) ∧
    (∃ (s : State) (t : Nat), t < 208 ∧ s.dev.clearing t = false ∧ s.dev.flt.upsets = [] ∧ (∀ (k p : Nat), s.dev.ownerPart (s.dev.tile t).owner = some k → p ∈ s.dev.pacersOf k → (s.dev.pacer p).state = PState.idle)) ∧
    (∃ (s : State) (t : Nat), s.dev.clearing t = true) ∧
    (∃ (s : State) (t : Nat) (k : Nat) (p : Nat), t < 208 ∧ s.dev.clearing t = false ∧ s.dev.ownerPart (s.dev.tile t).owner = some k ∧ p ∈ s.dev.pacersOf k ∧ (s.dev.pacer p).state ≠ PState.idle) ∧
    (∃ (n : Nat), (pageType n = 14 ∨ pageType n = 12)) ∧
    (∃ (n : Nat), pageType n ≠ 14 ∧ pageType n ≠ 12) :=
  ⟨⟨later (us 8) (inState 23 .active id), 23, by decide +kernel⟩,
   ⟨later (us 8 - 1) (inState 23 .active id), 23, by decide +kernel⟩,
   ⟨inState 23 .active (fun l => { l with reqs := [{ fault := true }] }), 23, by decide +kernel⟩,
   ⟨later (us 4) (inState 23 .active fun l => { l with next := 1 }), 23, by decide +kernel⟩,
   ⟨State.reset, 23, by decide +kernel⟩,
   ⟨inState 23 .init id, 23, by decide +kernel⟩,
   ⟨State.reset, 23, by decide +kernel⟩,
   ⟨State.reset, 23, by decide +kernel⟩,
   ⟨State.reset, 207, ⟨by decide, by decide +kernel, by decide +kernel, fun k p h => absurd h (by rw [show Device.ownerPart _ _ = none from by decide +kernel]; simp)⟩⟩,
   ⟨dv (fun d => d.updTile 207 fun t => { t with clearUntil := 1 }), 207, by decide +kernel⟩,
   ⟨{ dev := issuing 0 0 0 }, 0, 0, 0, by decide +kernel⟩,
   ⟨pgPort 25, by decide +kernel⟩,
   ⟨pgTile 0, by decide +kernel⟩⟩

theorem witness_FramesReceived :
    (∃ (s : State) (i : Nat), (s.dev.port i).link.state.frames = false) ∧
    (∃ (s : State) (i : Nat) (errs0 : List Nat) (errs1 : List Nat), isPort i = true ∧ (s.dev.port i).link.state.frames = true ∧ ¬FecGood (s.dev.port i).fecLimit errs0 errs1) ∧
    (∃ (s : State) (i : Nat) (n : Nat) (f : Frame) (errs0 : List Nat) (errs1 : List Nat), isPort i = true ∧ (s.dev.port i).link.state = LinkState.align ∧ f.slots = List.replicate n Block.idle ∧ ((s.dev.port i).exr.check = false ∨ f.resv = 0 ∧ f.ackV = false) ∧ FecGood (s.dev.port i).fecLimit errs0 errs1) ∧
    (∃ (s : State) (i : Nat) (n : Nat) (f : Frame) (errs0 : List Nat) (errs1 : List Nat), isPort i = true ∧ (s.dev.port i).link.state = LinkState.active ∧ FecGood (s.dev.port i).fecLimit errs0 errs1 ∧ f.resv = 0 ∧ f.ackV = true ∧ f.nak = false ∧ f.crSel = 3 ∧ f.slots = List.replicate n Block.idle ∧ 1 ≤ BitVec.toNat (f.ackSeq + 1 - (s.dev.port i).link.una) ∧ BitVec.toNat (f.ackSeq + 1 - (s.dev.port i).link.una) ≤ (s.dev.port i).link.outstanding) ∧
    (∃ (d : Device) (i : Nat) (seq : W16), 1 ≤ BitVec.toNat (seq - (d.port i).link.e) ∧ BitVec.toNat (seq - (d.port i).link.e) ≤ 2047) ∧
    (∃ (d : Device) (i : Nat) (seq : W16), 63488 ≤ BitVec.toNat (seq - (d.port i).link.e)) ∧
    (∃ (d : Device) (i : Nat) (cls : Nat) (sh : Bool), (d.port i).poolRoom cls sh = false ∧ (d.port i).exr.check = false ∧ (d.port i).link.state = LinkState.active) ∧
    (∃ (d : Device) (i : Nat) (cls : Nat) (sh : Bool) (pl : List Byte), (d.port i).poolRoom cls sh = true ∧ d.flt.upsets = [] ∧ padBytes ((d.port i).link.rx cls ++ fitBytes 253 pl) = 0 ∧ badHeader ((d.port i).link.rx cls ++ fitBytes 253 pl) = false) :=
  ⟨⟨State.reset, 24, by decide +kernel⟩,
   ⟨inState 23 .active id, 23, [], List.range 14, by unfold FecGood; decide +kernel⟩,
   ⟨inState 23 .align id, 23, 5, { slots := List.replicate 5 .idle }, List.range 13, [543], by unfold FecGood; decide +kernel⟩,
   ⟨inState 23 .active (fun l => { l with next := 1 }), 23, 5, { ackV := true, crSel := 3, slots := List.replicate 5 .idle }, [0], [], by unfold FecGood; decide +kernel⟩,
   ⟨Device.reset, 0, 2047, by decide +kernel⟩,
   ⟨Device.reset, 0, 63488, by decide +kernel⟩,
   ⟨(live 23 fun p => { p with resvReq := 0 }).dev, 23, 0, false, by decide +kernel⟩,
   ⟨Device.reset, 23, 0, false, [1] ++ List.replicate 29 0 ++ [8, 0], by decide +kernel⟩⟩

theorem witness_FramesSent :
    (∃ (s : State) (i : Nat), ((s.dev.port i).link.state = LinkState.disabled ∨ (s.dev.port i).link.state = LinkState.down ∨ (s.dev.port i).link.state = LinkState.exercise ∧ (s.dev.port i).exr.mode ≠ 1 ∧ (s.dev.port i).exr.mode ≠ 2)) ∧
    (∃ (s : State) (i : Nat) (lane : Nat), isPort i = true ∧ lane < 5 ∧ (s.dev.port i).exr.idleLanes = 0 ∧ ((s.dev.port i).link.state = LinkState.detect ∨ (s.dev.port i).link.state = LinkState.equalize)) ∧
    (∃ (s : State) (i : Nat) (lane : Nat), isPort i = true ∧ lane < 5 ∧ (s.dev.port i).exr.idleLanes = 0 ∧ (s.dev.port i).link.state = LinkState.exercise ∧ ((s.dev.port i).exr.mode = 1 ∨ (s.dev.port i).exr.mode = 2)) ∧
    (∃ (s : State) (i : Nat), isPort i = true ∧ (s.dev.port i).link.state.frames = true ∧ s.dev.flt.upsets = []) ∧
    (∃ (s : State) (i : Nat), isPort i = true ∧ (s.dev.port i).link.state = LinkState.active ∧ (s.dev.port i).link.ctl = [] ∧ (s.dev.port i).link.replay = none ∧ (s.dev.port i).egReq = [] ∧ (s.dev.port i).egRsp = [] ∧ (s.dev.port i).resent = [] ∧ (s.dev.port i).planned = [] ∧ (s.dev.port i).txReq = [] ∧ (s.dev.port i).txRsp = [] ∧ ((s.dev.port i).link.mapDue = [] ∨ (s.dev.port i).link.frameNo % 256 ≠ 0) ∧ (s.dev.port i).exr.traffic = false) ∧
    (∃ (d : Device) (i : Nat) (left : Nat) (c : Control) (rest : List Control), (d.port i).link.ctl = c :: rest ∧ (isKa (Block.control c) = true ∨ d.urgent i left = false)) ∧
    (∃ (d : Device) (i : Nat) (left : Nat), d.urgent i left = true ∧ (∀ (c : Control), c ∈ (d.port i).link.ctl.head? → isKa (Block.control c) = false)) ∧
    (∃ (d : Device) (i : Nat) (left : Nat) (sh : Bool), (d.port i).link.ctl = [] ∧ (d.port i).link.state = LinkState.active ∧ (d.port i).link.replay = none ∧ (d.port i).txReq ≠ [] ∧ d.flt.upsets = [] ∧ d.ready i 1 left = none ∧ (d.port i).poolFor 0 ((d.port i).txPlanned 0) = some sh ∧ (d.port i).link.outstanding < 2048) ∧
    (∃ (d : Device) (i : Nat), (d.port i).link.ctl = [] ∧ (d.port i).link.state = LinkState.active ∧ (d.port i).link.replay = none ∧ (d.port i).txReq ≠ [] ∧ 2048 ≤ (d.port i).link.outstanding) ∧
    (∃ (d : Device) (i : Nat) (left : Nat), (d.port i).link.ctl = [] ∧ (d.port i).link.state = LinkState.active ∧ (d.port i).link.replay = none ∧ (d.port i).txReq ≠ [] ∧ d.ready i 1 left = none ∧ (d.port i).poolFor 0 ((d.port i).txPlanned 0) = none ∧ (d.port i).link.outstanding < 2048) ∧
    (∃ (d : Device) (i : Nat) (sh : Bool), (d.port i).link.ctl = [] ∧ (d.port i).link.state = LinkState.active ∧ (d.port i).link.replay = none ∧ (d.port i).txReq ≠ [] ∧ (d.port i).poolFor 0 ((d.port i).txPlanned 0) = none ∧ (d.port i).txRsp ≠ [] ∧ (d.port i).poolFor 1 ((d.port i).txPlanned 1) = some sh ∧ (d.port i).link.outstanding < 2048) :=
  ⟨⟨State.reset, 3, by decide +kernel⟩,
   ⟨inState 23 .detect id, 23, 4, by decide +kernel⟩,
   ⟨dv (fun d => d.updPort 23 fun p => { p with exr := { p.exr with mode := 2 }, link := { p.link with state := .exercise } }), 23, 4, by decide +kernel⟩,
   ⟨inState 23 .active id, 23, by decide +kernel⟩,
   ⟨inState 23 .active id, 23, by decide +kernel⟩,
   ⟨(inState 23 .active fun l => { l with ctl := [.reserved] }).dev, 23, 5, .reserved, [], by decide +kernel⟩,
   ⟨(live 23 fun p => { p with planned := [{ planned := true, len := 8, payload := List.replicate 8 1 }], link := { p.link with limReq := 1, ctl := [.reserved] } }).dev, 23, 1, by decide +kernel⟩,
   ⟨(live 23 fun p => { p with txReq := [1], link := { p.link with limSh := 1792 } }).dev, 23, 5, true, by decide +kernel⟩,
   ⟨(live 23 fun p => { p with txReq := [1], link := { p.link with next := 2048 } }).dev, 23, by decide +kernel⟩,
   ⟨(live 23 fun p => { p with txReq := [1] }).dev, 23, 5, by decide +kernel⟩,
   ⟨(live 23 fun p => { p with txReq := [1], txRsp := [1], link := { p.link with limRsp := 1 } }).dev, 23, false, by decide +kernel⟩⟩

theorem witness_ControlBlocks :
    (∃ (s : State) (i : Nat) (q : W32) (r : W32) (h : W32), isPort i = true ∧ (s.dev.port i).link.state = LinkState.active ∧ (s.dev.port i).exr.check = false ∧ (s.dev.port i).exr.drill = false ∧ BitVec.toNat (q - (s.dev.port i).link.limReq) ≤ 2048 ∧ BitVec.toNat (r - (s.dev.port i).link.limRsp) ≤ 2048 ∧ BitVec.toNat (h - (s.dev.port i).link.limSh) ≤ 2048) ∧
    (∃ (s : State) (i : Nat), isPort i = true ∧ (s.dev.port i).link.state = LinkState.init) ∧
    (∃ (s : State) (i : Nat), (s.dev.port i).link.state.frames = false) ∧
    (∃ (s : State) (i : Nat), isPort i = true ∧ (s.dev.port i).link.state = LinkState.identify) ∧
    (∃ (s : State) (i : Nat) (mj : Byte), isPort i = true ∧ mj ≠ 1 ∧ (s.dev.port i).link.state = LinkState.identify) ∧
    (∃ (s : State) (i : Nat) (lane : Nat) (m : Marker), isPort i = true ∧ lane < 5 ∧ (s.dev.port i).link.state.frames = true ∧ (s.dev.port i).exr.check = false ∧ m.crcOk = false) ∧
    (∃ (s : State) (i : Nat) (lane : Nat) (m : Marker), isPort i = true ∧ lane < 5 ∧ (s.dev.port i).link.state.frames = true ∧ (s.dev.port i).exr.check = false ∧ m.crcOk = true ∧ m.width = m.logical ∧ (s.dev.port i).link.reqs = []) ∧
    (∃ (s : State) (i : Nat) (lane : Nat) (m : Marker) (r : ChangeReq), isPort i = true ∧ lane < 5 ∧ (s.dev.port i).link.state.frames = true ∧ (s.dev.port i).exr.check = false ∧ m.crcOk = true ∧ m.width = m.logical ∧ (s.dev.port i).link.reqs = [r]) :=
  ⟨⟨inState 23 .active id, 23, 2048, 2048, 2048, by decide +kernel⟩,
   ⟨inState 23 .init id, 23, by decide +kernel⟩,
   ⟨State.reset, 24, by decide +kernel⟩,
   ⟨inState 23 .identify id, 23, by decide +kernel⟩,
   ⟨inState 23 .identify id, 23, 2, by decide +kernel⟩,
   ⟨inState 23 .align id, 23, 4, { crcOk := false }, by decide +kernel⟩,
   ⟨inState 23 .align id, 23, 4, {}, by decide +kernel⟩,
   ⟨inState 23 .active (fun l => { l with reqs := [{ kind := 1 }] }), 23, 4, {}, { kind := 1 }, by decide +kernel⟩⟩

theorem witness_LaneChanges :
    (∃ (s : State) (i : Nat), (s.dev.port i).link.state ≠ LinkState.active) ∧
    (∃ (x : Nat), x < 5) ∧
    (∃ (w : Nat) (e : LaneErr), e.win = w) ∧
    (∃ (w : Nat) (e : LaneErr), e.win + 1 = w) ∧
    (∃ (w : Nat) (e : LaneErr), e.win ≠ w ∧ e.win + 1 ≠ w) ∧
    (∃ (s : State) (i : Nat) (m : BitVec 5) (n : BitVec 5) (u : BitVec 5), isPort i = true ∧ (s.dev.port i).link.state = LinkState.active ∧ n = (m ||| s.dev.noisyLanes i) &&& ~~~s.dev.nearLanes i ∧ u = laneMask (List.filter (s.dev.port i).link.rxMap.contains (lanesOf n)) ∧ u = 0) ∧
    (∃ (s : State) (i : Nat) (m : BitVec 5) (n : BitVec 5) (u : BitVec 5) (w : Nat), isPort i = true ∧ (s.dev.port i).link.state = LinkState.active ∧ n = (m ||| s.dev.noisyLanes i) &&& ~~~s.dev.nearLanes i ∧ u = laneMask (List.filter (s.dev.port i).link.rxMap.contains (lanesOf n)) ∧ u ≠ 0 ∧ (w = if 4 ≤ (lanesOf ((s.dev.port i).link.rxUsable &&& ~~~n)).length then (s.dev.port i).link.rxMap.length else 3) ∧ (∀ (r : ChangeReq), r ∈ (s.dev.port i).link.reqs → r.fault = false ∨ r.kind ≠ 0)) ∧
    (∃ (s : State) (i : Nat) (m : BitVec 5) (n : BitVec 5) (u : BitVec 5) (w : Nat) (r : ChangeReq), isPort i = true ∧ (s.dev.port i).link.state = LinkState.active ∧ n = (m ||| s.dev.noisyLanes i) &&& ~~~s.dev.nearLanes i ∧ u = laneMask (List.filter (s.dev.port i).link.rxMap.contains (lanesOf n)) ∧ u ≠ 0 ∧ (w = if 4 ≤ (lanesOf ((s.dev.port i).link.rxUsable &&& ~~~n)).length then (s.dev.port i).link.rxMap.length else 3) ∧ (s.dev.port i).link.reqs = [r] ∧ r.fault = true ∧ r.kind = 0) ∧
    (∃ (s : State) (i : Nat) (kind : Nat) (width : Nat) (attempt : Nat), (s.dev.port i).exr.check = false ∧ (2 < kind ∨ width ≠ 3 ∧ width ≠ 4 ∨ 2 < attempt)) ∧
    (∃ (s : State) (i : Nat) (attempt : Nat) (kind : Nat) (w : Nat), isPort i = true ∧ attempt ≤ 2 ∧ kind ≤ 2 ∧ (w = 3 ∨ w = 4) ∧ (s.dev.port i).link.state.frames = true ∧ (s.dev.port i).link.state ≠ LinkState.active) ∧
    (∃ (s : State) (i : Nat) (attempt : Nat) (w : Nat) (id : Byte), isPort i = true ∧ attempt ≤ 2 ∧ (w = 3 ∨ w = 4) ∧ (s.dev.port i).link.state = LinkState.active ∧ (s.dev.port i).link.ownRequest = none ∧ (s.dev.port i).link.retryAttempt = none ∧ ¬id ∈ (s.dev.port i).link.acted ∧ (w = 3 ∨ 4 ≤ (lanesOf (s.dev.port i).link.txUsable).length)) ∧
    (∃ (s : State) (i : Nat) (attempt : Nat) (w : Nat) (id : Byte), isPort i = true ∧ attempt ≤ 2 ∧ (w = 3 ∨ w = 4) ∧ (s.dev.port i).link.state = LinkState.active ∧ (s.dev.port i).link.ownRequest = none ∧ (s.dev.port i).link.retryAttempt = none ∧ id ∈ (s.dev.port i).link.acted) ∧
    (∃ (s : State) (i : Nat) (attempt : Nat) (w : Nat), isPort i = true ∧ attempt ≤ 2 ∧ (w = 3 ∨ w = 4) ∧ (s.dev.port i).link.state = LinkState.active ∧ (s.dev.port i).link.ownRequest = none ∧ (s.dev.port i).link.retryAttempt = none ∧ (lanesOf (s.dev.port i).link.txUsable).length < 4) ∧
    (∃ (s : State) (i : Nat) (attempt : Nat) (w : Nat) (id : Byte) (m : BitVec 5) (u : BitVec 5), isPort i = true ∧ attempt ≤ 2 ∧ (w = 3 ∨ w = 4) ∧ (s.dev.port i).link.state = LinkState.active ∧ (s.dev.port i).link.ownRequest = none ∧ (s.dev.port i).link.retryAttempt = none ∧ u = (s.dev.port i).link.txUsable &&& ~~~m ∧ ¬id ∈ (s.dev.port i).link.acted ∧ (4 ≤ (lanesOf u).length ∨ (lanesOf u).length = 3 ∧ (s.dev.port i).link.txWidth = 3)) ∧
    (∃ (s : State) (i : Nat) (attempt : Nat) (w : Nat) (id : Byte) (m : BitVec 5) (u : BitVec 5), isPort i = true ∧ attempt ≤ 2 ∧ (w = 3 ∨ w = 4) ∧ (s.dev.port i).link.state = LinkState.active ∧ (s.dev.port i).link.ownRequest = none ∧ (s.dev.port i).link.retryAttempt = none ∧ u = (s.dev.port i).link.txUsable &&& ~~~m ∧ ¬id ∈ (s.dev.port i).link.acted ∧ (lanesOf u).length = 3 ∧ 3 < (s.dev.port i).link.txWidth) ∧
    (∃ (s : State) (i : Nat) (attempt : Nat) (w : Nat) (id : Byte) (m : BitVec 5) (u : BitVec 5), isPort i = true ∧ attempt ≤ 2 ∧ (w = 3 ∨ w = 4) ∧ (s.dev.port i).link.state = LinkState.active ∧ (s.dev.port i).link.ownRequest = none ∧ (s.dev.port i).link.retryAttempt = none ∧ u = (s.dev.port i).link.txUsable &&& ~~~m ∧ ¬id ∈ (s.dev.port i).link.acted ∧ (lanesOf u).length < 3) ∧
    (∃ (s : State) (i : Nat) (attempt : Nat) (w : Nat) (id : Byte) (m : BitVec 5), isPort i = true ∧ attempt ≤ 2 ∧ (w = 3 ∨ w = 4) ∧ (s.dev.port i).link.state = LinkState.active ∧ (s.dev.port i).link.ownRequest = none ∧ (s.dev.port i).link.retryAttempt = none ∧ ¬id ∈ (s.dev.port i).link.acted ∧ (s.dev.port i).link.retrain = none ∧ (∀ (x : Nat), x ∈ lanesOf m → ¬x ∈ (s.dev.port i).link.txMap ∧ ¬x ∈ (s.dev.port i).link.rxMap)) ∧
    (∃ (s : State) (i : Nat) (attempt : Nat) (w : Nat) (id : Byte) (m : BitVec 5), isPort i = true ∧ attempt ≤ 2 ∧ (w = 3 ∨ w = 4) ∧ (s.dev.port i).link.state = LinkState.active ∧ (s.dev.port i).link.ownRequest = none ∧ (s.dev.port i).link.retryAttempt = none ∧ ¬id ∈ (s.dev.port i).link.acted ∧ (s.dev.port i).link.retrain = none ∧ (∃ x, x ∈ lanesOf m ∧ (x ∈ (s.dev.port i).link.txMap ∨ x ∈ (s.dev.port i).link.rxMap))) ∧
    (∃ (s : State) (i : Nat) (attempt : Nat) (w : Nat) (id : Byte) (x : BitVec 5), isPort i = true ∧ attempt ≤ 2 ∧ (w = 3 ∨ w = 4) ∧ (s.dev.port i).link.state = LinkState.active ∧ (s.dev.port i).link.ownRequest = none ∧ (s.dev.port i).link.retryAttempt = none ∧ ¬id ∈ (s.dev.port i).link.acted ∧ (s.dev.port i).link.retrain = some x) ∧
    (∃ (d : Device) (i : Nat), (d.port i).link.mapDue = []) ∧
    (∃ (d : Device) (i : Nat), (d.port i).link.mapDue ≠ []) ∧
    (∃ (s : State) (i : Nat), isPort i = true ∧ (s.dev.port i).link.state.frames = true ∧ s.dev.flt.upsets = [] ∧ (s.dev.port i).link.mapDue ≠ []) ∧
    (∃ (s : State) (i : Nat) (attempt : Nat) (w : Nat) (id : Byte) (pid : W64) (r : ChangeReq), isPort i = true ∧ attempt ≤ 2 ∧ (w = 3 ∨ w = 4) ∧ (s.dev.port i).link.state = LinkState.active ∧ (s.dev.port i).link.ownRequest = some r ∧ (s.dev.port i).link.collided ≠ some id ∧ BitVec.toNat pid < BitVec.toNat (s.dev.portId i)) ∧
    (∃ (s : State) (i : Nat) (attempt : Nat) (w : Nat) (id : Byte) (pid : W64) (r : ChangeReq), isPort i = true ∧ attempt ≤ 2 ∧ (w = 3 ∨ w = 4) ∧ (s.dev.port i).link.state = LinkState.active ∧ (s.dev.port i).link.ownRequest = some r ∧ (s.dev.port i).link.collided ≠ some id ∧ BitVec.toNat (s.dev.portId i) < BitVec.toNat pid) ∧
    (∃ (s : State) (i : Nat) (attempt : Nat) (w : Nat) (pid : W64) (r : ChangeReq), isPort i = true ∧ attempt ≤ 2 ∧ (w = 3 ∨ w = 4) ∧ (s.dev.port i).link.state = LinkState.active ∧ (s.dev.port i).link.ownRequest = some r ∧ pid = s.dev.portId i ∧ r.attempt < 2) ∧
    (∃ (s : State) (i : Nat) (attempt : Nat) (w : Nat) (pid : W64) (r : ChangeReq), isPort i = true ∧ attempt ≤ 2 ∧ (w = 3 ∨ w = 4) ∧ (s.dev.port i).link.state = LinkState.active ∧ (s.dev.port i).link.ownRequest = some r ∧ pid = s.dev.portId i ∧ 2 ≤ r.attempt) ∧
    (∃ (s : State) (i : Nat) (attempt : Nat) (w : Nat) (id : Byte) (m : BitVec 5) (r : ChangeReq), isPort i = true ∧ attempt ≤ 2 ∧ (w = 3 ∨ w = 4) ∧ (s.dev.port i).link.state = LinkState.active ∧ (s.dev.port i).link.ownRequest = some r ∧ r.kind = 1 ∧ ¬id ∈ (s.dev.port i).link.acted ∧ (lanesOf ((s.dev.port i).link.txUsable &&& ~~~m)).length = 3) ∧
    (∃ (s : State) (i : Nat) (id : Byte) (r : Byte) (q : ChangeReq), isPort i = true ∧ (s.dev.port i).link.state.frames = true ∧ (r = 1 ∨ r = 2 ∨ r = 3) ∧ List.find? (fun x => x.id == id) (s.dev.port i).link.reqs = some q) ∧
    (∃ (s : State) (i : Nat) (id : Byte) (r : Byte), isPort i = true ∧ (s.dev.port i).link.state.frames = true ∧ (r = 1 ∨ r = 2 ∨ r = 3) ∧ (∀ (q : ChangeReq), q ∈ (s.dev.port i).link.reqs → q.id ≠ id)) ∧
    (∃ (s : State) (i : Nat) (a : Nat) (q : ChangeReq), isPort i = true ∧ (s.dev.port i).link.state.frames = true ∧ a ≤ 2 ∧ (s.dev.port i).link.ownRequest = some q ∧ q.attempt < 2) ∧
    (∃ (s : State) (i : Nat) (a : Nat) (q : ChangeReq), isPort i = true ∧ (s.dev.port i).link.state.frames = true ∧ a ≤ 2 ∧ (s.dev.port i).link.ownRequest = some q ∧ 2 ≤ q.attempt) ∧
    (∃ (s : State) (i : Nat) (a : Nat) (pid : W64), isPort i = true ∧ (s.dev.port i).link.state.frames = true ∧ a ≤ 2 ∧ (pid ≠ s.dev.portId i ∨ (s.dev.port i).link.ownRequest = none)) ∧
    (∃ (s : State) (i : Nat) (a : Nat), (s.dev.port i).exr.check = false ∧ 2 < a) ∧
    (∃ (s : State) (i : Nat), isPort i = true ∧ (s.dev.port i).link.state = LinkState.active ∧ (s.dev.port i).link.reqs = []) ∧
    (∃ (s : State) (i : Nat) (q : ChangeReq), isPort i = true ∧ (s.dev.port i).link.state = LinkState.active ∧ (s.dev.port i).link.reqs = [q] ∧ AsksNothing (s.dev.port i).link ∧ (q.fault = true ∨ (s.dev.port i).link.retryAttempt = none) ∧ q.sentAt + us 1 ≤ s.dev.clk.now) ∧
    (∃ (s : State) (i : Nat) (q : ChangeReq), isPort i = true ∧ (s.dev.port i).link.state = LinkState.active ∧ (s.dev.port i).link.reqs = [q] ∧ AsksNothing (s.dev.port i).link ∧ (q.fault = false ∧ (s.dev.port i).link.retryAttempt ≠ none ∨ s.dev.clk.now < q.sentAt + us 1)) ∧
    (∃ (s : State) (i : Nat) (q : ChangeReq), isPort i = true ∧ (s.dev.port i).link.state = LinkState.active ∧ (s.dev.port i).link.reqs = [q] ∧ q.fault = true ∧ q.since + us 20 ≤ s.dev.clk.now) ∧
    (∃ (s : State) (i : Nat) (q : ChangeReq), isPort i = true ∧ (s.dev.port i).link.state = LinkState.active ∧ (s.dev.port i).link.reqs = [q] ∧ (q.fault = false ∨ s.dev.clk.now < q.since + us 20)) ∧
    (∃ (s : State) (i : Nat) (q : ChangeReq) (k : Nat), isPort i = true ∧ (s.dev.port i).link.state = LinkState.active ∧ (s.dev.port i).link.reqs = [q] ∧ (s.dev.port i).link.retryAttempt = some k ∧ q.fault = false ∧ q.since + us (s.dev.fuses.retryDelay k) ≤ s.dev.clk.now) ∧
    (∃ (s : State) (i : Nat) (q : ChangeReq) (k : Nat), isPort i = true ∧ (s.dev.port i).link.state = LinkState.active ∧ (s.dev.port i).link.reqs = [q] ∧ (s.dev.port i).link.retryAttempt = some k ∧ q.fault = false ∧ s.dev.clk.now < q.since + us (s.dev.fuses.retryDelay k)) ∧
    (∃ (s : State) (i : Nat) (m : BitVec 5), isPort i = true ∧ (s.dev.port i).link.retrain = some m ∧ 4 ≤ (s.dev.port i).link.txWidth ∧ (s.dev.port i).link.reqs = []) ∧
    (∃ (s : State) (i : Nat) (m : BitVec 5) (got : Adapted), isPort i = true ∧ (s.dev.port i).link.retrain = some m ∧ (s.dev.port i).link.txWidth < 4 ∧ (s.dev.port i).link.reqs = [] ∧ 4 ≤ (lanesOf ((s.dev.port i).link.txUsable ||| m &&& wordLanes got.words 8)).length) ∧
    (∃ (s : State) (i : Nat), (s.dev.port i).link.retrain = none) :=
  ⟨⟨State.reset, 24, by decide +kernel⟩,
   ⟨4, by decide +kernel⟩,
   ⟨0, {}, by decide +kernel⟩,
   ⟨1, {}, by decide +kernel⟩,
   ⟨2, {}, by decide +kernel⟩,
   ⟨inState 23 .active (fun l => { l with rxMap := [0, 1, 2, 3] }), 23, 0x10, 0x10, 0, by decide +kernel⟩,
   ⟨inState 23 .active (fun l => { l with rxMap := [0, 1, 2, 3], rxUsable := 0x0F }), 23, 1, 1, 1, 3, by decide +kernel⟩,
   ⟨inState 23 .active (fun l => { l with rxMap := [0, 1, 2, 3], rxUsable := 0x1F, reqs := [{ fault := true }] }), 23, 1, 1, 1, 4, { fault := true }, by decide +kernel⟩,
   ⟨State.reset, 23, 3, 3, 0, by decide +kernel⟩,
   ⟨inState 23 .init id, 23, 2, 2, 4, by decide +kernel⟩,
   ⟨inState 23 .active id, 23, 2, 3, 7, by decide +kernel⟩,
   ⟨inState 23 .active (fun l => { l with acted := [7] }), 23, 2, 4, 7, by decide +kernel⟩,
   ⟨inState 23 .active id, 23, 2, 4, by decide +kernel⟩,
   ⟨inState 23 .active (fun l => { l with txUsable := 0x1F }), 23, 2, 4, 7, 1, 0x1E, by decide +kernel⟩,
   ⟨inState 23 .active (fun l => { l with txUsable := 0x0F, txMap := [0, 1, 2, 3] }), 23, 2, 4, 7, 1, 0x0E, by decide +kernel⟩,
   ⟨inState 23 .active (fun l => { l with txUsable := 0x07 }), 23, 2, 4, 7, 1, 0x06, by decide +kernel⟩,
   ⟨inState 23 .active (fun l => { l with txMap := [0, 1, 2], rxMap := [0, 1, 2] }), 23, 2, 4, 7, 0x18, by decide +kernel⟩,
   ⟨inState 23 .active (fun l => { l with txMap := [0, 1, 2] }), 23, 2, 4, 7, 4, by decide +kernel⟩,
   ⟨inState 23 .active (fun l => { l with retrain := some 0x10 }), 23, 2, 4, 7, 0x10, by decide +kernel⟩,
   ⟨Device.reset, 23, by decide +kernel⟩,
   ⟨(inState 23 .active (fun l => { l with mapDue := [(3, true)] })).dev, 23, by decide +kernel⟩,
   ⟨inState 23 .active (fun l => { l with mapDue := [(3, true)] }), 23, by decide +kernel⟩,
   ⟨inState 23 .active (fun l => { l with reqs := [{}] }), 23, 2, 4, 7, 22, {}, by decide +kernel⟩,
   ⟨inState 23 .active (fun l => { l with reqs := [{}] }), 23, 2, 4, 7, 24, {}, by decide +kernel⟩,
   ⟨inState 23 .active (fun l => { l with reqs := [{ attempt := 1 }] }), 23, 2, 4, 23, { attempt := 1 }, by decide +kernel⟩,
   ⟨inState 23 .active (fun l => { l with reqs := [{ attempt := 2 }] }), 23, 2, 4, 23, { attempt := 2 }, by decide +kernel⟩,
   ⟨inState 23 .active (fun l => { l with reqs := [{ kind := 1, width := 4 }], txUsable := 0x0F, txMap := [0, 1, 2] }), 23, 2, 3, 7, 8, { kind := 1, width := 4 }, by decide +kernel⟩,
   ⟨inState 23 .active (fun l => { l with reqs := [{ id := 8 }] }), 23, 8, 1, { id := 8 }, by decide +kernel⟩,
   ⟨inState 23 .active (fun l => { l with reqs := [{ id := 8 }] }), 23, 7, 1, by decide +kernel⟩,
   ⟨inState 23 .active (fun l => { l with reqs := [{ attempt := 1 }] }), 23, 2, { attempt := 1 }, by decide +kernel⟩,
   ⟨inState 23 .active (fun l => { l with reqs := [{ attempt := 2 }] }), 23, 0, { attempt := 2 }, by decide +kernel⟩,
   ⟨inState 23 .active id, 23, 2, 24, by decide +kernel⟩,
   ⟨inState 23 .active id, 23, 3, by decide +kernel⟩,
   ⟨inState 23 .active (fun l => { l with txUsable := 0x0F, rxUsable := 0x0F, txMap := [0, 1, 2, 3] }), 23, by decide +kernel⟩,
   ⟨later (us 1) (inState 23 .active fun l => { l with reqs := [{}] }), 23, {}, by unfold AsksNothing; decide +kernel⟩,
   ⟨inState 23 .active (fun l => { l with reqs := [{}], retryAttempt := some 0 }), 23, {}, by unfold AsksNothing; decide +kernel⟩,
   ⟨later (us 20) (inState 23 .active fun l => { l with reqs := [{ fault := true }] }), 23, { fault := true }, by decide +kernel⟩,
   ⟨inState 23 .active (fun l => { l with reqs := [{ fault := true }] }), 23, { fault := true }, by decide +kernel⟩,
   ⟨later (ms 1) (inState 23 .active fun l => { l with reqs := [{}], retryAttempt := some 1 }), 23, {}, 1, by decide +kernel⟩,
   ⟨inState 23 .active (fun l => { l with reqs := [{}], retryAttempt := some 1 }), 23, {}, 1, by decide +kernel⟩,
   ⟨inState 23 .active (fun l => { l with retrain := some 0x10, txMap := [0, 1, 2, 3] }), 23, 0x10, by decide +kernel⟩,
   ⟨inState 23 .active (fun l => { l with retrain := some 8, txMap := [0, 1, 2], txUsable := 7 }), 23, 8, { words := [BitVec.ofNat 128 (trainingWord 0 0 true false 3)] }, by decide +kernel⟩,
   ⟨State.reset, 23, by decide +kernel⟩⟩

theorem witness_LinkExerciser :
    (∃ (s : State) (i : Nat), isPort i = true ∧ (s.dev.port i).link.state = LinkState.disabled ∧ s.dev.portClocked i = false) ∧
    (∃ (s : State) (i : Nat), isPort i = true ∧ (s.dev.port i).link.state = LinkState.disabled ∧ s.dev.portClocked i = true) ∧
    (∃ (s : State) (i : Nat), isPort i = true ∧ (s.dev.port i).link.state = LinkState.active) ∧
    (∃ (s : State) (i : Nat), isPort i = true ∧ (s.dev.port i).link.state = LinkState.exercise) ∧
    (∃ (s : State) (i : Nat), isPort i = true ∧ ¬(s.dev.port i).link.state ∈ [LinkState.exercise, LinkState.disabled, LinkState.active]) ∧
    (∃ (s : State) (i : Nat), isPort i = true ∧ (s.dev.port i).link.state.frames = true) ∧
    (∃ (s : State) (i : Nat), isPort i = true ∧ (s.dev.port i).link.state.frames = false) :=
  ⟨⟨State.reset, 23, by decide +kernel⟩,
   ⟨State.reset, 24, by decide +kernel⟩,
   ⟨inState 23 .active id, 23, by decide +kernel⟩,
   ⟨inState 23 .exercise id, 23, by decide +kernel⟩,
   ⟨inState 24 .detect id, 24, by decide +kernel⟩,
   ⟨inState 23 .active id, 23, by decide +kernel⟩,
   ⟨State.reset, 24, by decide +kernel⟩⟩

theorem witness_Drills :
    (∃ (d : Device), d.fuses.lc ≠ 3) ∧
    (∃ (d : Device) (kind : Nat), (d.mb.drillAuth = none ∨ ∃ a, d.mb.drillAuth = some a ∧ (a.left = 0 ∨ a.kinds.testBit kind = false ∨ BitVec.toNat d.tk.time < BitVec.toNat a.notBefore ∨ BitVec.toNat a.notAfter < BitVec.toNat d.tk.time))) ∧
    (∃ (s : State) (i : Nat), isPort i = true ∧ (s.dev.port i).exr.idleLanes ≠ 0 ∧ (s.dev.port i).exr.drill = true ∧ (s.dev.port i).exr.idleSince + ms 10000 ≤ s.dev.clk.now) ∧
    (∃ (s : State) (i : Nat), isPort i = true ∧ (s.dev.port i).exr.idleLanes ≠ 0 ∧ (s.dev.port i).exr.drill = true ∧ s.dev.clk.now < (s.dev.port i).exr.idleSince + ms 10000) ∧
    (∃ (s : State) (c : Nat) (l : Nat) (w : Nat) (k : Nat), s.dev.drillSite (BitVec.toNat s.dev.mb.drillTarget % 2 ^ 48) = some (Site.dram c l, w, k, true) ∧ s.dev.drillPermits 6 none (some k) = true) ∧
    (∃ (s : State) (p : Nat) (k : Nat), p = BitVec.toNat s.dev.mb.drillTarget % 1024 ∧ isPacer p = true ∧ p < 208 ∧ (s.dev.pacer p).state ≠ PState.idle ∧ s.dev.flt.failedTiles = [] ∧ s.dev.st.running = none ∧ s.dev.pacerPart p = some k ∧ s.dev.drillPermits 7 none (some k) = true) ∧
    (∃ (s : State), s.dev.drillActive = none) :=
  ⟨⟨Device.reset, by decide +kernel⟩,
   ⟨{ Device.reset with mb := { drillAuth := some { left := 0 } } }, 6, by decide +kernel⟩,
   ⟨later (ms 10000) (dv fun d => d.updPort 23 fun p => { p with exr := { p.exr with idleLanes := 1, drill := true } }), 23, by decide +kernel⟩,
   ⟨later (ms 10000 - 1) (dv fun d => d.updPort 23 fun p => { p with exr := { p.exr with idleLanes := 1, drill := true } }), 23, by decide +kernel⟩,
   ⟨{ dev := (issuing 320 0 0).updMb fun m => { m with drillAuth := some { kinds := 64, left := 1, parts := 1 } } }, 0, 0, 0, 0, by decide +kernel⟩,
   ⟨{ dev := (issuing 207 0 0).updMb fun m => { m with drillTarget := 207, drillAuth := some { kinds := 128, left := 1, parts := 1 } } }, 207, 0, by decide +kernel⟩,
   ⟨State.reset, by decide +kernel⟩⟩

theorem witness_RegisterPages :
    (∃ (n : Nat), isPage n = true) ∧
    (∃ (n : Nat), isPage n = true) ∧
    (∃ (n : Nat), isPage n = true) ∧
    (∃ (n : Nat), isPage n = false) ∧
    (∃ (i : Nat), isPort i = true) ∧
    (∃ (p : Nat), isPacer p = true) ∧
    (∃ (s : State) (src : Src) (a : Nat), (a < 16492674416640 ∨ a % 4 ≠ 0 ∨ s.dev.mayReach src (pageSlot a) = false ∨ pageType (pageSlot a) = 0)) ∧
    (∃ (d : Device), d.fuses.lc = 5) ∧
    (∃ (d : Device), d.fuses.lc = 3 ∧ d.sec.debug = false) ∧
    (∃ (d : Device) (h : Nat), d.hostMode h = false) ∧
    (∃ (d : Device) (n : Nat), d.sec.bootStatus ≠ 2 ∧ n ≠ pgMailbox ∧ n ≠ pgSecurity) ∧
    (∃ (d : Device) (h : Nat) (n : Nat), scopeDevice (d.hostScope h) = false ∧ d.pagePart n = none) ∧
    (∃ (d : Device) (h : Nat) (n : Nat) (k : Nat), scopeDevice (d.hostScope h) = false ∧ d.pagePart n = some k ∧ scopeHas (d.hostScope h) k = false) ∧
    (∃ (n : Nat) (off : Nat), isPage n = true ∧ off < 64 ∧ off % 4 = 0 ∧ ¬off ∈ [12, 20, 24, 32]) ∧
    (∃ (n : Nat), isPage n = true) ∧
    (∃ (c : Nat) (v : W32), isChan c = true ∧ 1 ≤ BitVec.toNat v % 65536) ∧
    (∃ (c : Nat) (v : W32), isChan c = true ∧ BitVec.toNat v % 65536 = 0) ∧
    (∃ (v : W32), BitVec.getLsbD v 0 = true) :=
  ⟨⟨0x10CF, by decide +kernel⟩,
   ⟨0, by decide +kernel⟩,
   ⟨0x30, by decide +kernel⟩,
   ⟨9, by decide +kernel⟩,
   ⟨25, by decide +kernel⟩,
   ⟨409, by decide +kernel⟩,
   ⟨State.reset, .jtag, 16492674416641, by decide +kernel⟩,
   ⟨{ Device.reset with fuses := { scrapPair := 1 } }, by decide +kernel⟩,
   ⟨atStep 3 Device.reset, by decide +kernel⟩,
   ⟨Device.reset, 3, by decide +kernel⟩,
   ⟨Device.reset, 1, by decide +kernel⟩,
   ⟨up { Device.reset with sec := { scopeH0 := 0 } }, 24, 0x32, by decide +kernel⟩,
   ⟨up { Device.reset with sec := { scopeH0 := 0 } }, 24, 8, 7, by decide +kernel⟩,
   ⟨0, 60, by decide +kernel⟩,
   ⟨0, by decide +kernel⟩,
   ⟨23, 1, by decide +kernel⟩,
   ⟨23, 0, by decide +kernel⟩,
   ⟨1, by decide +kernel⟩⟩

theorem witness_TraceRing :
    (∃ (s : State) (p : Nat) (k : Nat) (r : TraceRec) (rest : List TraceRec) (im : Image), (s.dev.pacer p).traceQ = r :: rest ∧ s.dev.pacerPart p = some k ∧ (s.dev.part k).image = some im ∧ s.dev.flt.upsets = []) ∧
    (∃ (s : State) (p : Nat), (s.dev.pacer p).traceQ = []) :=
  ⟨⟨{ dev := (issuing 0 0 0).updPacer 0 fun x => { x with traceQ := [{}] } }, 0, 0, {}, [], { pacers := [(0, 0)] }, by decide +kernel⟩,
   ⟨State.reset, 0, by decide +kernel⟩⟩

theorem witness_Sideband :
    (∃ (d : Device), d.sec.bootStatus ≠ 2) ∧
    (∃ (s : State), s.dev.flt.inReset = false) ∧
    (∃ (s : State), s.dev.flt.inReset = false ∧ s.dev.flt.crashBusy = none) ∧
    (∃ (v : W16), v ≠ 23205) ∧
    (∃ (s : State), s.dev.flt.smbAlert = true) ∧
    (∃ (s : State), s.dev.flt.smbAlert = false) :=
  ⟨⟨Device.reset, by decide +kernel⟩,
   ⟨State.reset, by decide +kernel⟩,
   ⟨State.reset, by decide +kernel⟩,
   ⟨0, by decide +kernel⟩,
   ⟨dv fun d => d.updFlt fun f => { f with smbAlert := true }, by decide +kernel⟩,
   ⟨State.reset, by decide +kernel⟩⟩

theorem witness_WordCode :
    (∃ (p : Nat), p < 8) ∧
    (∃ (p : Nat), p < 72) ∧
    (∃ (m : Nat), syndrome m = 0) ∧
    (∃ (m : Nat) (p : Nat), p < 72 ∧ syndrome m = xpow p) ∧
    (∃ (m : Nat) (p : Nat), p < 71 ∧ syndrome m = (xpow p).xor (xpow (p + 1))) ∧
    (∃ (m : Nat), syndrome m ≠ 0 ∧ (∀ (p : Nat), p < 72 → syndrome m ≠ xpow p) ∧ (∀ (p : Nat), p < 71 → syndrome m ≠ (xpow p).xor (xpow (p + 1)))) ∧
    (∃ (p : Nat), p < 72) ∧
    (∃ (p : Nat), p < 71) ∧
    (∃ (p : Nat) (q : Nat), p < 72 ∧ q < 72 ∧ xpow p = xpow q) ∧
    (∃ (p : Nat), p < 72) ∧
    (∃ (p : Nat) (q : Nat), p < 71 ∧ q < 71 ∧ (xpow p).xor (xpow (p + 1)) = (xpow q).xor (xpow (q + 1))) ∧
    (∃ (p : Nat) (q : Nat), p < 72 ∧ q < 72 ∧ p ≠ q) :=
  ⟨⟨7, by decide +kernel⟩,
   ⟨71, by decide +kernel⟩,
   ⟨0, by decide +kernel⟩,
   ⟨2 ^ 71, 71, by decide +kernel⟩,
   ⟨2 ^ 70 + 2 ^ 71, 70, by decide +kernel⟩,
   ⟨9, by decide +kernel⟩,
   ⟨71, by decide +kernel⟩,
   ⟨70, by decide +kernel⟩,
   ⟨71, 71, by decide +kernel⟩,
   ⟨71, by decide +kernel⟩,
   ⟨70, 70, by decide +kernel⟩,
   ⟨71, 0, by decide +kernel⟩⟩

theorem witness_ErrorsAreCounted :
    (∃ (n : Nat), isPage n = true) ∧
    (∃ (code : Nat), code < 65536) :=
  ⟨⟨0x10CF, by decide +kernel⟩,
   ⟨65535, by decide +kernel⟩⟩

/-- A unit for device 9, which is reached through port 3. -/
def through : XUnit := { dstId := 9, len := 8, payload := List.replicate 8 1 }
def routed (f : Port → Port) : State :=
  { dev := ((arrivedOn 0 through Device.reset).updTr fun t => { t with routes := [(9, 0x8003)] }).updPort 3 fun p =>
      f { p with link := { p.link with state := .active } } }

theorem witness_UnitsAreChecked_forwarded :
    (∃ (s : State) (i j : Nat) (u : XUnit), StandsAt i u s.dev ∧ Device.forUs i u s.dev = false ∧ s.dev.tr.myId ≠ 65535 ∧
      s.dev.stale u = false ∧ s.dev.routeOf u.dstId = RouteTo.out j ∧ Port.fits u (s.dev.port j) = true) ∧
    (∃ (s : State) (i j : Nat) (u : XUnit), StandsAt i u s.dev ∧ Device.forUs i u s.dev = false ∧ s.dev.tr.myId ≠ 65535 ∧
      s.dev.stale u = false ∧ s.dev.routeOf u.dstId = RouteTo.out j ∧ Port.fits u (s.dev.port j) = false) :=
  ⟨⟨routed id, 0, 3, through, by unfold StandsAt; decide +kernel, by decide +kernel, by decide +kernel, by decide +kernel,
    by decide +kernel, by decide +kernel⟩,
   ⟨routed fun p => { p with egReq := List.replicate 191 { len := 4096 } }, 0, 3, through,
    by unfold StandsAt; decide +kernel, by decide +kernel, by decide +kernel, by decide +kernel, by decide +kernel, by decide +kernel⟩⟩

/-- A put of a host port to ID_LO of the mailbox page. -/
def hostPut : XUnit := { dstId := 5, addr := 0x0F0000000000, len := 8, payload := List.replicate 8 1 }
def hostState : State := { dev := (arrivedOn 24 hostPut Device.reset).updPort 24 fun p => { p with peerHost := true } }
def hostTaken : Device := hostState.dev.takeUnit 24 hostPut

theorem witness_Puts_page :
    ∃ (s : State) (i h n o : Nat) (u : XUnit) (echo : Bool) (d2 d3 : Device), u.kind = UKind.put ∧ u.mir = false ∧ u.ackReq = false ∧
      Accepted i u echo s.dev d2 ∧ Device.putStatus i u d2 = 0 ∧ d2.place u.addr = Place.page n o ∧ d2.hostMode i = true ∧ h = i ∧
      (n = pgSecurity → o ≠ 240) ∧ d3 = Device.writeReg (Src.host h) n (o + 4) (BitVec.ofNat 32 (leNat (List.take 4 (List.drop 4 u.payload))))
        (Device.writeReg (Src.host h) n o (BitVec.ofNat 32 (leNat (List.take 4 u.payload))) d2) ∧
      (d3.part u.dstPart).shadow.role = 0 :=
  ⟨hostState, 24, 24, 0, 0, hostPut, false, (hostTaken.streamCheck hostPut).2, _, rfl, rfl, rfl,
   ⟨hostTaken, false, _, ⟨by unfold StandsAt; decide +kernel, by decide +kernel, rfl, by decide +kernel, by decide +kernel⟩,
    pair_eq (by decide +kernel), fun h => absurd h (by decide), rfl, rfl⟩,
   by decide +kernel, by decide +kernel, by decide +kernel, rfl, by decide +kernel, rfl, by decide +kernel⟩

/-- A put of the same port to HOST_SCOPE. -/
def scopePut : XUnit := { dstId := 5, addr := 0x0F0000000000 + 4096 * pgSecurity + 0xF0, len := 8, payload := List.replicate 8 1 }
def scopeState : State := { dev := (arrivedOn 24 scopePut Device.reset).updPort 24 fun p => { p with peerHost := true } }
def scopeTaken : Device := scopeState.dev.takeUnit 24 scopePut

theorem witness_Puts_scope :
    ∃ (s : State) (i h : Nat) (u : XUnit) (echo : Bool) (d2 d3 : Device), u.kind = UKind.put ∧ u.mir = false ∧ u.ackReq = false ∧
      Accepted i u echo s.dev d2 ∧ Device.putStatus i u d2 = 0 ∧ d2.place u.addr = Place.page pgSecurity 240 ∧ d2.hostMode i = true ∧
      h = i ∧ d3 = Device.scopeWrite (d2.carriesDevice (Src.host h)) [(24, scopeField (BitVec.ofNat 32 (leNat (List.take 4 u.payload)))),
        (25, scopeField (BitVec.ofNat 32 (leNat (List.take 4 (List.drop 4 u.payload)))))] d2 ∧ (d3.part u.dstPart).shadow.role = 0 :=
  ⟨scopeState, 24, 24, scopePut, false, (scopeTaken.streamCheck scopePut).2, _, rfl, rfl, rfl,
   ⟨scopeTaken, false, _, ⟨by unfold StandsAt; decide +kernel, by decide +kernel, rfl, by decide +kernel, by decide +kernel⟩,
    pair_eq (by decide +kernel), fun h => absurd h (by decide), rfl, rfl⟩,
   by decide +kernel, by decide +kernel, by decide +kernel, rfl, rfl, by decide +kernel⟩

theorem witness_Drills_submitted :
    ∃ (s : State) (hi : W32) (a : Nat) (b : List Byte) (d2 : Device), a = s.dev.mb.drillAddr.toNat % 2 ^ 32 + hi.toNat * 2 ^ 32 ∧
      Device.localRead (a % 2 ^ 48) 7283 { s.dev with mb := { s.dev.mb with drillAddr := BitVec.ofNat 64 a } } = (b, d2) :=
  ⟨State.reset, 0x0E00, _, _, _, rfl, pair_eq rfl⟩
end

section
/-! Proofs of the statements on number formats and exact accumulation: a contribution adds to every accumulator the same integer and
flags, so order and split of contributions make no difference (R41, R44). -/

namespace Sys2Proof

/-! ### Cutting a list into pieces -/

variable {α : Type}

@[simp] theorem chunks_nil (n fuel : Nat) : chunks n fuel ([] : List α) = [] := by cases fuel <;> rfl

/-- Whole pieces in front are cut off first, one unit of fuel each. -/
theorem chunks_append {n : Nat} (hn : 0 < n) (k fuel : Nat) (l m : List α) (hl : l.length = n * k) :
    chunks n (k + fuel) (l ++ m) = chunks n k l ++ chunks n fuel m := by
  induction k generalizing l with
  | zero => simp [List.length_eq_zero_iff.mp hl]
  | succ k ih =>
    have hle : n ≤ l.length := by rw [hl]; exact Nat.le_mul_of_pos_right n k.succ_pos
    have hne : l ≠ [] := List.ne_nil_of_length_pos (by omega)
    have hdrop : (l.drop n).length = n * k := by rw [List.length_drop, hl, Nat.mul_succ]; omega
    simp [Nat.add_right_comm k 1 fuel, chunks, hne, List.take_append_of_le_length hle, List.drop_append_of_le_length hle,
      ih _ hdrop]

theorem length_chunks {n : Nat} (hn : 0 < n) (k : Nat) (l : List α) (hl : l.length = n * k) : (chunks n k l).length = k := by
  induction k generalizing l with
  | zero => rfl
  | succ k ih =>
    have hne : l ≠ [] := List.ne_nil_of_length_pos (by rw [hl]; positivity)
    have hdrop : (l.drop n).length = n * k := by rw [List.length_drop, hl, Nat.mul_succ]; omega
    simp [chunks, hne, ih _ hdrop]

/-- Fuel beyond what the list needs makes no difference. -/
theorem chunks_add_fuel (n fuel j : Nat) (l : List α) (hl : l.length ≤ n * fuel) : chunks n (fuel + j) l = chunks n fuel l := by
  induction fuel generalizing l with
  | zero => simp [List.length_eq_zero_iff.mp (Nat.le_zero.mp hl)]
  | succ fuel ih =>
    have hdrop : (l.drop n).length ≤ n * fuel := by rw [List.length_drop, Nat.sub_le_iff_le_add]; exact hl
    simp [Nat.add_right_comm fuel 1 j, chunks, ih _ hdrop]

/-- A two's complement field is the signed value of the bit vector. -/
theorem signedField_eq_toInt (w x : Nat) : signedField w x = (BitVec.ofNat w x).toInt := by
  cases w with
  | zero => simp [signedField, Nat.mod_one, BitVec.of_length_zero]
  | succ w =>
    have hpow : 2 ^ (w + 1) = 2 * 2 ^ w := Nat.pow_succ'
    simp only [signedField, BitVec.toInt_eq_toNat_cond, BitVec.toNat_ofNat, Nat.add_sub_cancel]
    split <;> split <;> omega

end Sys2Proof

namespace Sys2Proof.Machine

/-! ### What a contribution adds (R41, R44) -/

/-- A contribution adds to any accumulator the integer and the flags that it leaves in a cleared one. -/
theorem Acc.contribute_eq (dd : Int) (c : Contrib) (a : Acc) :
    a.contribute dd c = { a with
      a := a.a + (Acc.contribute dd c {}).a, nan := a.nan || c.nan, pinf := a.pinf || c.pinf, ninf := a.ninf || c.ninf
      loss := a.loss || (Acc.contribute dd c {}).loss, clamp := a.clamp || (Acc.contribute dd c {}).clamp, n := a.n + 1 } := by
  simp [Acc.contribute]

theorem Acc.contribute_right_comm (a : Acc) (dd ee : Int) (c d : Contrib) :
    (a.contribute dd c).contribute ee d = (a.contribute ee d).contribute dd c := by
  rw [contribute_eq ee d (a.contribute dd c), contribute_eq dd c (a.contribute ee d), contribute_eq dd c a, contribute_eq ee d a]
  simp [add_right_comm, Bool.or_right_comm]

theorem Acc.foldl_contribute_n (dd : Int) (cs : List Contrib) (a : Acc) :
    (cs.foldl (fun a c => a.contribute dd c) a).n = a.n + cs.length := by
  induction cs generalizing a with
  | nil => rfl
  | cons c cs ih => rw [List.foldl_cons, ih, contribute_eq, List.length_cons, Nat.add_assoc, Nat.add_comm 1]

/-! ### A pass as a fold over its contributions -/

/-- The contributions of a pass, one for each product. -/
def passProducts (ws ss : List FV) : List Contrib := List.zipWith (fun x y => contribOf (x.mul y)) ws ss

theorem length_passProducts (ws ss : List FV) : (passProducts ws ss).length = min ws.length ss.length := List.length_zipWith

theorem passProducts_append {ws ss : List FV} (vs us : List FV) (h : ws.length = ss.length) :
    passProducts (ws ++ vs) (ss ++ us) = passProducts ws ss ++ passProducts vs us := List.zipWith_append h

/-- What one numbered block of an MX pairing contributes (R41). -/
def Acc.passBlock (cfg : Cfg) (wsc ssc : Nat → Nat) (a : Acc) (x : List Contrib × Nat) : Acc :=
  if ssc x.2 = 0xFF ∨ wsc x.2 = 0xFF then a.contribute 0 { nan := true }
  else a.contribute ((ssc x.2 : Int) + wsc x.2 - 254 - pairAnchor cfg) (contribSum x.1)

/-- The blocks of an MX pairing with their numbers. -/
def numbered (blocks : List (List Contrib)) : List (List Contrib × Nat) := blocks.zip (List.range blocks.length)

theorem Acc.passLong_of_plain (a : Acc) (cfg : Cfg) (ws ss : List FV) (f g : Nat → Nat) (hs : fmtMx cfg.sfmt = false)
    (hr : fmtMx cfg.rfmt = false) :
    a.passLong cfg ws ss f g = (passProducts ws ss).foldl (fun a c => a.contribute (-pairAnchor cfg) c) a := by
  simp [passLong, passProducts, hs, hr]

theorem Acc.passLong_of_mx (a : Acc) (cfg : Cfg) (ws ss : List FV) (f g : Nat → Nat)
    (h : fmtMx cfg.sfmt = true ∨ fmtMx cfg.rfmt = true) :
    a.passLong cfg ws ss f g = (numbered (chunks 32 8 (passProducts ws ss))).foldl (Acc.passBlock cfg f g) a :=
  if_pos (by simpa using h)

theorem numbered_append (bs cs : List (List Contrib)) :
    numbered (bs ++ cs) = numbered bs ++ (numbered cs).map fun x => (x.1, bs.length + x.2) := by
  rw [numbered, List.length_append, List.range_add, List.zip_append List.length_range.symm, List.zip_map_right]
  rfl

/-- Blocks after the first `k` find their scales `k` places on. -/
theorem Acc.foldl_passBlock_shift (cfg : Cfg) (f g : Nat → Nat) (k : Nat) (xs : List (List Contrib × Nat)) (a : Acc) :
    (xs.map fun x => (x.1, k + x.2)).foldl (Acc.passBlock cfg f g) a =
      xs.foldl (Acc.passBlock cfg (fun j => f (j + k)) fun j => g (j + k)) a := by
  simp only [List.foldl_map, Nat.add_comm k]
  rfl

/-! ### A pass split in two (R44) -/

theorem Acc.passLong_append_of_plain (a : Acc) (cfg : Cfg) (ws vs ss us : List FV) (f g : Nat → Nat)
    (hs : fmtMx cfg.sfmt = false) (hr : fmtMx cfg.rfmt = false) (h : ws.length = ss.length) :
    a.passLong cfg (ws ++ vs) (ss ++ us) f g = (a.passLong cfg ws ss f g).passLong cfg vs us f g := by
  simp only [passLong_of_plain _ cfg _ _ f g hs hr, passProducts_append vs us h, List.foldl_append]

/-- Between blocks of an MX pairing the cut falls between the pieces of 32 products. -/
theorem chunks_passProducts_append {ws ss : List FV} (vs us : List FV) {k : Nat} (hw : ws.length = 32 * k) (hs : ss.length = 32 * k)
    (hv : vs.length + 32 * k ≤ 256) :
    chunks 32 8 (passProducts (ws ++ vs) (ss ++ us)) = chunks 32 8 (passProducts ws ss) ++ chunks 32 8 (passProducts vs us) ∧
      (chunks 32 8 (passProducts ws ss)).length = k := by
  obtain ⟨j, hj⟩ : ∃ j, 8 = k + j := ⟨8 - k, by omega⟩
  have hfirst : (passProducts ws ss).length = 32 * k := by rw [length_passProducts, hw, hs, Nat.min_self]
  have hrest : (passProducts vs us).length ≤ 32 * j := by rw [length_passProducts]; omega
  have hcut : chunks 32 8 (passProducts ws ss) = chunks 32 k (passProducts ws ss) := by
    rw [hj, chunks_add_fuel 32 k j _ hfirst.le]
  have hcut' : chunks 32 8 (passProducts vs us) = chunks 32 j (passProducts vs us) := by
    rw [hj, Nat.add_comm k, chunks_add_fuel 32 j k _ hrest]
  refine ⟨?_, by rw [hcut, length_chunks (by decide) k _ hfirst]⟩
  rw [hcut, hcut', passProducts_append vs us (hw.trans hs.symm), hj, chunks_append (by decide) k j _ _ hfirst]

theorem Acc.passLong_append_of_mx (a : Acc) (cfg : Cfg) (ws vs ss us : List FV) (f g : Nat → Nat) (k : Nat)
    (h : fmtMx cfg.sfmt = true ∨ fmtMx cfg.rfmt = true) (hw : ws.length = 32 * k) (hs : ss.length = 32 * k)
    (hv : vs.length + 32 * k ≤ 256) :
    a.passLong cfg (ws ++ vs) (ss ++ us) f g =
      (a.passLong cfg ws ss f g).passLong cfg vs us (fun j => f (j + k)) (fun j => g (j + k)) := by
  obtain ⟨hcut, hlen⟩ := chunks_passProducts_append vs us hw hs hv
  simp only [passLong_of_mx _ cfg _ _ _ _ h]
  rw [hcut, numbered_append, hlen, List.foldl_append, foldl_passBlock_shift]

/-! ### The integer dot product (R41, R42) -/

/-- The value of a code of an integer format. -/
def intValue (i : Int) : FV := .fin (decide (i < 0)) i.natAbs 0

theorem elemValue_int8 (c : Nat) : elemValue 7 c = intValue (BitVec.ofNat 8 c).toInt := by
  rw [← signedField_eq_toInt]; rfl

/-- The product of two integers contributes its count of 2^-32, exactly. -/
theorem contribOf_mul_int (i j : Int) : contribOf ((intValue i).mul (intValue j)) = { b := i * j * 2 ^ 32 } := by
  have hsign : (if (decide (i < 0) != decide (j < 0)) = true then -((i.natAbs : Int) * j.natAbs) else (i.natAbs : Int) * j.natAbs) =
      i * j := by
    rcases lt_or_ge i 0 with hi | hi <;> rcases lt_or_ge j 0 with hj | hj <;>
      simp [abs_of_neg, abs_of_nonneg, not_lt.mpr, hi, hj]
  rw [← hsign, ite_mul]
  simp [intValue, FV.mul, contribOf, neg_mul]

/-- Under the integer anchor 32 an integer's contribution is not rounded. -/
theorem Acc.contribute_int (a : Acc) (x : Int) : (a.contribute (-32) { b := x * 2 ^ 32 }).a = a.a + BitVec.ofInt 80 x := by
  simp [contribute]

theorem Acc.foldl_contribute_int (xs : List Int) (a : Acc) :
    ((xs.map fun x => ({ b := x * 2 ^ 32 } : Contrib)).foldl (fun a c => a.contribute (-32) c) a).a =
      a.a + BitVec.ofInt 80 xs.sum := by
  induction xs generalizing a with
  | nil => simp
  | cons x xs ih => rw [List.map_cons, List.foldl_cons, ih, contribute_int, List.sum_cons, BitVec.ofInt_add, BitVec.add_assoc]

/-- The products of two lists of INT8 codes. -/
def int8Products (ws ss : List Nat) : List Int := List.zipWith (fun w x => (BitVec.ofNat 8 w).toInt * (BitVec.ofNat 8 x).toInt) ws ss

theorem passProducts_int8 (ws ss : List Nat) :
    passProducts (ws.map (elemValue 7)) (ss.map (elemValue 7)) = (int8Products ws ss).map fun x => { b := x * 2 ^ 32 } := by
  simp only [passProducts, int8Products, List.zipWith_map, List.map_zipWith, elemValue_int8, contribOf_mul_int]

theorem Acc.passLong_int8 (a : Acc) (cfg : Cfg) (ws ss : List Nat) (f g : Nat → Nat) (hs : cfg.sfmt = 7) (hr : cfg.rfmt = 7) :
    (a.passLong cfg (ws.map (elemValue 7)) (ss.map (elemValue 7)) f g).a = a.a + BitVec.ofInt 80 (int8Products ws ss).sum := by
  have hanchor : pairAnchor cfg = 32 := by rw [pairAnchor, hs, hr]; rfl
  rw [passLong_of_plain a cfg _ _ f g (by rw [hs]; rfl) (by rw [hr]; rfl), hanchor, passProducts_int8, foldl_contribute_int]

/-- Settles O31: every contribution adds what it would add to a cleared accumulator, so contributions commute; a pass is a fold over
its contributions, which a cut divides; and an integer product times 2^32 is floored to itself. -/
theorem accumulationIsExact : Obligations.AccumulationIsExact := by
  unfold Obligations.AccumulationIsExact
  refine ⟨fun a b dd c => ?adds, fun a xs ys hperm => ?order, fun a cfg ws ss hs hr _ _ _ => ?int8,
    fun a cfg ws ss f g hs hr => ?count, fun a cfg ws vs ss us f g => a.passLong_append_of_plain cfg ws vs ss us f g,
    fun a cfg ws vs ss us f g k => a.passLong_append_of_mx cfg ws vs ss us f g k⟩
  case adds => rw [Acc.contribute_eq dd c a, Acc.contribute_eq dd c b, add_sub_cancel_left, add_sub_cancel_left]
  case order =>
    have hcomm : RightCommutative fun (a : Acc) (x : Int × Contrib) => a.contribute x.1 x.2 :=
      ⟨fun a x y => a.contribute_right_comm x.1 y.1 x.2 y.2⟩
    exact hperm.foldl_eq a
  case int8 => rw [Acc.passLong_int8 a cfg ws ss _ _ hs hr, List.sum_eq_foldl]; rfl
  case count => rw [Acc.passLong_of_plain a cfg ws ss f g hs hr, Acc.foldl_contribute_n, length_passProducts]

end Sys2Proof.Machine
end

section
/-! Proofs of the statement on the word code: the syndrome is linear, so it is settled by the remainders of the single positions; and
g is a multiple of x + 1, so those have odd weight and no single error looks like a pair (R161, R162). -/

namespace Sys2Proof.Machine

/-! ### Powers of x modulo g -/

theorem xpow_succ (p : Nat) : xpow (p + 1) = if 2 * xpow p < 256 then 2 * xpow p else 2 * xpow p ^^^ 0x19B := rfl

/-- A doubled byte that overflows agrees with g on the ninth bit, so their sum is a byte again. -/
theorem xor_generator_lt {y : Nat} (hlow : 256 ≤ y) (hhigh : y < 512) : y ^^^ 0x19B < 256 := by
  have htop : (y ^^^ 0x19B) / 2 ^ 8 = 0 := by rw [Nat.xor_div_two_pow, show y / 2 ^ 8 = 1 by omega]; rfl
  omega

theorem xpow_lt (p : Nat) : xpow p < 256 := by
  induction p with
  | zero => decide
  | succ p ih =>
    rw [xpow_succ]
    split
    · assumption
    · exact xor_generator_lt (by omega) (by omega)

/-- Below the degree of g nothing is reduced. -/
theorem xpow_eq_two_pow {p : Nat} (hp : p < 8) : xpow p = 2 ^ p := by
  induction p with
  | zero => rfl
  | succ p ih =>
    have hlt : 2 ^ (p + 1) < 2 ^ 8 := Nat.pow_lt_pow_right (by decide) hp
    rw [xpow_succ, ih (Nat.lt_of_succ_lt hp), ← Nat.pow_succ']
    exact if_pos hlt

/-- The syndrome of an adjacent pair: x^p (1 + x) mod g. -/
def pairSyndrome (p : Nat) : Nat := xpow p ^^^ xpow (p + 1)

theorem xpow_inj {p q : Nat} (hp : p < 72) (hq : q < 72) (h : xpow p = xpow q) : p = q :=
  have hnodup : ((List.range 72).map xpow).Nodup := by decide +kernel
  List.inj_on_of_nodup_map hnodup (List.mem_range.mpr hp) (List.mem_range.mpr hq) h

theorem pairSyndrome_inj {p q : Nat} (hp : p < 71) (hq : q < 71) (h : pairSyndrome p = pairSyndrome q) : p = q :=
  have hnodup : ((List.range 71).map pairSyndrome).Nodup := by decide +kernel
  List.inj_on_of_nodup_map hnodup (List.mem_range.mpr hp) (List.mem_range.mpr hq) h

/-! ### The parity of weights -/

/-- How many of the lowest n bits of x are set. -/
def lowWeight (x n : Nat) : Nat := Nat.count (x.testBit ·) n

theorem weight_eq_lowWeight (x : Nat) : weight x = lowWeight x 8 := by simp [weight, lowWeight, Nat.count, List.countP_eq_length_filter]

theorem lowWeight_succ (x n : Nat) : lowWeight x (n + 1) = lowWeight x n + if x.testBit n then 1 else 0 := Nat.count_succ _ n

/-- Bits that are set in both summands cancel in pairs. -/
theorem lowWeight_xor_mod_two (x y n : Nat) : lowWeight (x ^^^ y) n % 2 = (lowWeight x n + lowWeight y n) % 2 := by
  induction n with
  | zero => rfl
  | succ n ih =>
    simp only [lowWeight_succ, Nat.testBit_xor]
    cases x.testBit n <;> cases y.testBit n <;> simp <;> omega

theorem lowWeight_two_mul (x n : Nat) : lowWeight (2 * x) (n + 1) = lowWeight x n := by
  simp [lowWeight, Nat.count_succ', Nat.testBit_succ]

theorem lowWeight_succ_of_lt {x n : Nat} (h : x < 2 ^ n) : lowWeight x (n + 1) = lowWeight x n := by
  simp [lowWeight_succ, Nat.testBit_lt_two_pow h]

/-- g has six terms, so a multiplication by x modulo g keeps the parity of the weight. -/
theorem weight_xpow_odd (p : Nat) : weight (xpow p) % 2 = 1 := by
  induction p with
  | zero => rfl
  | succ p ih =>
    have hdouble : lowWeight (2 * xpow p) (8 + 1) % 2 = 1 := by rw [lowWeight_two_mul, ← weight_eq_lowWeight, ih]
    have hgen : lowWeight 0x19B (8 + 1) = 6 := by decide
    rw [weight_eq_lowWeight, ← lowWeight_succ_of_lt (xpow_lt (p + 1)), xpow_succ]
    split
    · exact hdouble
    · rw [lowWeight_xor_mod_two, hgen]; omega

theorem xpow_ne_zero (p : Nat) : xpow p ≠ 0 := fun h => by
  have hodd := weight_xpow_odd p
  rw [h] at hodd
  exact absurd hodd (by decide)

theorem weight_xpow_xor_xpow_even (p q : Nat) : weight (xpow p ^^^ xpow q) % 2 = 0 := by
  have hp := weight_xpow_odd p
  have hq := weight_xpow_odd q
  rw [weight_eq_lowWeight] at hp hq ⊢
  rw [lowWeight_xor_mod_two]
  omega

theorem xpow_ne_pairSyndrome (p q : Nat) : xpow p ≠ pairSyndrome q := fun h => by
  have hodd := weight_xpow_odd p
  rw [h, pairSyndrome, weight_xpow_xor_xpow_even] at hodd
  exact absurd hodd (by decide)

/-! ### The syndrome is linear -/

/-- The part of the syndrome that the positions below n give. -/
def syndromeBelow (m n : Nat) : Nat := (List.range n).foldl (fun s p => if m.testBit p then s ^^^ xpow p else s) 0

theorem syndrome_eq_syndromeBelow (m : Nat) : syndrome m = syndromeBelow m 72 := rfl

@[simp] theorem syndromeBelow_zero (m : Nat) : syndromeBelow m 0 = 0 := rfl

theorem syndromeBelow_succ (m n : Nat) :
    syndromeBelow m (n + 1) = syndromeBelow m n ^^^ if m.testBit n then xpow n else 0 := by
  simp only [syndromeBelow, List.range_succ, List.foldl_append, List.foldl_cons, List.foldl_nil]
  split <;> simp

theorem syndromeBelow_xor (m k n : Nat) : syndromeBelow (m ^^^ k) n = syndromeBelow m n ^^^ syndromeBelow k n := by
  induction n with
  | zero => simp
  | succ n ih =>
    simp only [syndromeBelow_succ, ih, Nat.testBit_xor]
    cases m.testBit n <;> cases k.testBit n <;> simp [Nat.xor_assoc, Nat.xor_comm, Nat.xor_left_comm]

theorem syndromeBelow_two_pow (p n : Nat) : syndromeBelow (2 ^ p) n = if p < n then xpow p else 0 := by
  induction n with
  | zero => rfl
  | succ n ih =>
    rw [syndromeBelow_succ, ih, Nat.testBit_two_pow]
    rcases lt_trichotomy p n with h | rfl | h
    · simp [h, h.ne, Nat.lt_succ_of_lt h]
    · simp
    · simp [h.ne', h.not_gt, Nat.not_lt.mpr h]

theorem syndrome_xor (m k : Nat) : syndrome (m ^^^ k) = syndrome m ^^^ syndrome k := syndromeBelow_xor m k 72

theorem syndrome_two_pow {p : Nat} (hp : p < 72) : syndrome (2 ^ p) = xpow p := by
  rw [syndrome_eq_syndromeBelow, syndromeBelow_two_pow, if_pos hp]

theorem two_pow_add_eq_xor {p q : Nat} (h : p ≠ q) : 2 ^ p + 2 ^ q = 2 ^ p ^^^ 2 ^ q := by
  wlog hlt : q < p generalizing p q
  · rw [Nat.add_comm, this h.symm (by omega), Nat.xor_comm]
  · have hor := Nat.two_pow_add_eq_or_of_lt (Nat.pow_lt_pow_right Nat.one_lt_two hlt) 1
    rw [Nat.mul_one] at hor
    rw [hor]
    refine Nat.eq_of_testBit_eq fun i => ?_
    rw [Nat.testBit_or, Nat.testBit_xor, Nat.testBit_two_pow, Nat.testBit_two_pow]
    by_cases hp : p = i
    · have hq : q ≠ i := hp ▸ h.symm
      simp [hp, hq]
    · simp [hp]

theorem syndrome_two_pow_add {p q : Nat} (hp : p < 72) (hq : q < 72) (h : p ≠ q) :
    syndrome (2 ^ p + 2 ^ q) = xpow p ^^^ xpow q := by
  rw [two_pow_add_eq_xor h, syndrome_xor, syndrome_two_pow hp, syndrome_two_pow hq]

/-! ### What the decoder leaves (R162) -/

/-- A search of a table without repetitions finds the place of an entry. -/
theorem find?_range_of_inj {f : Nat → Nat} {n p : Nat} (hinj : ∀ q, q < n → f q = f p → q = p) (hp : p < n) :
    (List.range n).find? (fun q => f q == f p) = some p := by
  rw [List.find?_range_eq_some]
  refine ⟨beq_self_eq_true _, List.mem_range.mpr hp, fun q hq => ?_⟩
  have hne : f q ≠ f p := fun h => hq.ne (hinj q (hq.trans hp) h)
  simpa using hne

theorem pairSyndrome_ne_zero {p : Nat} (hp : p < 71) : pairSyndrome p ≠ 0 := fun h =>
  p.succ_ne_self (xpow_inj (by omega) (by omega) (Nat.xor_eq_zero_iff.mp h)).symm

theorem wordDecode_of_clean {m : Nat} (h : syndrome m = 0) : wordDecode m = some m := by simp [wordDecode, h]

theorem wordDecode_of_single {m p : Nat} (hp : p < 72) (h : syndrome m = xpow p) : wordDecode m = some (m ^^^ 2 ^ p) := by
  have hfind := find?_range_of_inj (fun q hq => xpow_inj hq hp) hp
  simp [wordDecode, h, xpow_ne_zero, hfind]

theorem wordDecode_of_pair {m p : Nat} (hp : p < 71) (h : syndrome m = pairSyndrome p) :
    wordDecode m = some (m ^^^ (2 ^ p + 2 ^ (p + 1))) := by
  have hsingle : (List.range 72).find? (fun q => xpow q == pairSyndrome p) = none := by simp [xpow_ne_pairSyndrome]
  have hpair : (List.range 71).find? (fun q => xpow q ^^^ xpow (q + 1) == pairSyndrome p) = some p :=
    find?_range_of_inj (fun q hq => pairSyndrome_inj hq hp) hp
  have hmask : 3 * 2 ^ p = 2 ^ p + 2 ^ (p + 1) := by ring
  simp [wordDecode, h, pairSyndrome_ne_zero hp, hsingle, hpair, hmask]

theorem wordDecode_of_uncorrectable {m : Nat} (hclean : syndrome m ≠ 0) (hsingle : ∀ p, p < 72 → syndrome m ≠ xpow p)
    (hpair : ∀ p, p < 71 → syndrome m ≠ pairSyndrome p) : wordDecode m = none := by
  have hnosingle : (List.range 72).find? (fun p => xpow p == syndrome m) = none := by
    simpa using fun p hp => (hsingle p hp).symm
  have hnopair : (List.range 71).find? (fun p => xpow p ^^^ xpow (p + 1) == syndrome m) = none := by
    simpa [pairSyndrome] using fun p hp => (hpair p hp).symm
  simp [wordDecode, hclean, hnosingle, hnopair]

/-- Settles O59: the decoder looks a syndrome up in two tables without repetitions, which the parity of the weight keeps apart; the
errors of a word are found because the syndrome is linear. -/
theorem wordCode : Obligations.WordCode := by
  unfold Obligations.WordCode
  refine ⟨fun p hp => xpow_eq_two_pow hp, xpow_succ, fun p hp => syndrome_two_pow hp, syndrome_xor, fun m => wordDecode_of_clean,
    fun m p hp => wordDecode_of_single hp, fun m p hp => wordDecode_of_pair hp, fun m => wordDecode_of_uncorrectable,
    fun p hp => ?single, fun p hp => ?pair, fun p q hp hq => xpow_inj hp hq, fun p _ => weight_xpow_odd p,
    fun p q hp hq => pairSyndrome_inj hp hq, fun p q hp hq hne => ?double⟩
  case single => rw [wordDecode_of_single hp (syndrome_two_pow hp), Nat.xor_self]
  case pair =>
    have hsyn : syndrome (2 ^ p + 2 ^ (p + 1)) = pairSyndrome p := syndrome_two_pow_add (by omega) (by omega) (by omega)
    rw [wordDecode_of_pair hp hsyn, Nat.xor_self]
  case double =>
    rw [syndrome_two_pow_add hp hq hne]
    exact ⟨Nat.xor_ne_zero_iff.mpr fun h => hne (xpow_inj hp hq h), weight_xpow_xor_xpow_even p q⟩

end Sys2Proof.Machine
end

section
/-! Proofs of the statement on the error fields of a page: the header that ERR_CLR leaves, and an error counted on top of it (R420). -/

namespace Sys2Proof.Machine

/-! ### ERR_CLR -/

theorem opErrClr_page (n : Nat) (d : Device) :
    (d.opErrClr n).page n = { d.page n with errCnt := 0, errFirst := 0, errBib := 0 } := by simp [Device.opErrClr]

/-- The bib that an error takes is that of the page's pacer, which ERR_CLR leaves alone. -/
theorem opErrClr_pageBib (n : Nat) (d : Device) : (d.opErrClr n).pageBib n = d.pageBib n := rfl

theorem errClr_completes {n : Nat} (hn : isPage n = true) (s : State) {P : Device → Prop} (h : P (s.dev.opErrClr n)) :
    Completes (.errClr n) s P := by
  have hdev : (s.on (Device.when (isPage n) (Device.opErrClr n))).dev = s.dev.opErrClr n := by
    rw [State.on_dev, Device.when_pos hn]
  exact ⟨_, rfl, State.on_pending _ _, hdev ▸ h⟩

/-! ### The first error -/

theorem Errs.first {n code : Nat} {d e : Device} (h : Errs n code d e) (hzero : (d.page n).errCnt = 0) :
    (e.page n).errCnt = 1 ∧ (e.page n).errFirst = BitVec.ofNat 16 code ∧ (e.page n).errBib = d.pageBib n ∧
      (e.page n).intRaw = (d.page n).intRaw ||| 1 := by
  have hone : satInc (0 : W16) = 1 := by decide
  obtain ⟨_, hpage⟩ := h
  rw [hpage]
  simp only [hzero, hone, if_true, and_self]

/-- Settles O60: an error after ERR_CLR finds COUNT zero, so it is a first error; its bib and the other bits of INT_RAW are those from
before the clear. -/
theorem errorsAreCounted : Obligations.ErrorsAreCounted := by
  unfold Obligations.ErrorsAreCounted
  refine ⟨fun d n code => Errs.countErr n code d, fun s n hn => ?clear, fun d n code _ => ?afterClear⟩
  case clear =>
    refine errClr_completes hn s ?_
    rw [opErrClr_page]
    exact ⟨rfl, rfl, rfl⟩
  case afterClear =>
    have hzero : ((d.opErrClr n).page n).errCnt = 0 := by rw [opErrClr_page]
    have hraw : ((d.opErrClr n).page n).intRaw = (d.page n).intRaw := by rw [opErrClr_page]
    rw [← opErrClr_pageBib, ← hraw]
    exact (Errs.countErr n code (d.opErrClr n)).first hzero

end Sys2Proof.Machine
end
